-- ==== Sys2Proof/Word.lean ====
section
/-! DEFINITION. The word types of the OXZ1024 register fabric (R4, R46) and their plainest readings. -/
namespace Sys2Proof

/-- A 32-bit register word (R46). -/
abbrev Word := BitVec 32

/-- A byte of DRAM, of a window or of a frame (R4). -/
abbrev Byte := BitVec 8

end Sys2Proof
end

