-- ==== Sys2Proof/Machine/Bits.lean ====
section
/-! DEFINITION. Bit fields, two's complement, rounding and saturation: the arithmetic every chapter shares
(R5 to R10, R575). -/
namespace Sys2Proof.Machine

/-- Bits [hi:lo] of a register word, as a number. -/
def fld (w : Word) (hi lo : Nat) : Nat := (w.toNat >>> lo) % 2 ^ (hi + 1 - lo)

/-- The word with bits [hi:lo] replaced by the low bits of v. -/
def setFld (w : Word) (hi lo v : Nat) : Word :=
  BitVec.ofNat 32 (w.toNat - (fld w hi lo <<< lo) + ((v % 2 ^ (hi + 1 - lo)) <<< lo))

/-- Bit n of a word. -/
def bit (w : Word) (n : Nat) : Bool := w.toNat.testBit n

/-- The word with bit n set to b. -/
def setBit (w : Word) (n : Nat) (b : Bool) : Word := setFld w n n b.toNat

/-- Bits [hi:lo] of a number. -/
def nfld (v hi lo : Nat) : Nat := (v >>> lo) % 2 ^ (hi + 1 - lo)

/-- The signed value of an n-bit two's-complement code (R5). -/
def sx (n v : Nat) : Int :=
  let u := v % 2 ^ n
  if u < 2 ^ (n - 1) then (u : Int) else (u : Int) - (2 ^ n : Nat)

/-- The n-bit two's-complement code of a value, modulo 2^n (R5). -/
def ux (n : Nat) (i : Int) : Nat := (i % ((2 ^ n : Nat) : Int)).toNat

/-- A value as a 32-bit word, modulo 2^32. -/
def wordOf (i : Int) : Word := BitVec.ofNat 32 (ux 32 i)

/-- The signed value of a 32-bit word. -/
def intOf (w : Word) : Int := sx 32 w.toNat

/-- Saturation to the signed n-bit range (R10). -/
def satS (n : Nat) (i : Int) : Int :=
  let hi : Int := ((2 ^ (n - 1) : Nat) : Int) - 1
  let lo : Int := -((2 ^ (n - 1) : Nat) : Int)
  if i > hi then hi else if i < lo then lo else i

/-- Whether saturation to the signed n-bit range changes the value. -/
def satHits (n : Nat) (i : Int) : Bool := satS n i != i

/-- num / den rounded once to the nearest integer, ties to even (R575); den > 0. -/
def rne (num : Int) (den : Nat) : Int :=
  let d : Int := den
  let q := num / d
  let r := num % d
  if 2 * r < d then q else if 2 * r > d then q + 1 else if q % 2 = 0 then q else q + 1

/-- Value times 2^-k rounded to nearest, ties to even (R10). -/
def rshr (v : Int) (k : Nat) : Int := rne v (2 ^ k)

/-- The quotient num / den rounded to nearest, ties to even, for a signed denominator; 0 for den = 0. -/
def rneq (num den : Int) : Int :=
  if den = 0 then 0 else if den > 0 then rne num den.toNat else rne (-num) (-den).toNat

/-- One bit of the square root, on a number of k result bits. -/
def isqrtGo : Nat → Nat → Nat → Nat
  | 0, _, r => r
  | k + 1, n, r =>
    let c := r + 2 ^ k
    isqrtGo k n (if c * c ≤ n then c else r)

/-- The floor of the square root of n (R575: exact digit by digit). -/
def isqrt (n : Nat) : Nat := isqrtGo (Nat.log2 n / 2 + 1) n 0

/-- The square root of n rounded to the nearest integer; a tie cannot occur for an integer n (R575). -/
def rsqrt (n : Nat) : Nat :=
  let r := isqrt n
  if n > r * r + r then r + 1 else r

/-- Rounds num/den to a result of scale 2^s: the nearest code of (num/den)·2^s (R575). -/
def rneScaled (s : Nat) (num : Int) (den : Nat) : Int := rne (num * (2 ^ s : Nat)) den

/-- The product of a Q5.27 sample and a Q4.28 gain, returned to Q5.27 (R10). -/
def gainMul (x g : Int) : Int := satS 32 (rshr (x * g) 28)

/-- Ingress conversion of a Q1.31 word to Q5.27 (R8): the 4 low bits are rounded off, ties to even. -/
def ingress31 (x : Int) : Int := rshr x 4

/-- Ingress of a sample of the given width: placed at the top of a Q1.31 word, then converted (R8). -/
def ingressW (width : Nat) (code : Nat) : Int := ingress31 (sx width code * (2 ^ (32 - width) : Nat))

/-- Egress conversion of Q5.27 to Q1.31 (R9): exact times 16, saturated. -/
def egress31 (x : Int) : Int := satS 32 (x * 16)

/-- Egress to an outgoing word of 16, 24 or 32 bits (R9): rounded to the width, saturating a rounding past full
scale. -/
def egressW (width : Nat) (x : Int) : Nat :=
  ux width (satS width (rshr (egress31 x) (32 - width)))

/-- A position field (R11): the signed value of bits [23:0]. -/
def posOf (w : Word) : Int := sx 24 (fld w 23 0)

/-- A position register as read (R11): bits [31:24] copy bit 23. -/
def posReg (w : Word) : Word := wordOf (posOf w)

/-- Saturating increment of a counter of the given width. -/
def incSat (width v n : Nat) : Nat := min (v + n) (2 ^ width - 1)

/-- Little-endian number of a byte list (R4). -/
def leNat : List Byte → Nat
  | [] => 0
  | b :: r => b.toNat + 256 * leNat r

/-- The n little-endian bytes of a number (R4). -/
def leBytes : Nat → Nat → List Byte
  | 0, _ => []
  | n + 1, v => BitVec.ofNat 8 v :: leBytes n (v / 256)

/-- Big-endian number of a byte list (network order). -/
def beNat (l : List Byte) : Nat := l.foldl (fun a b => a * 256 + b.toNat) 0

/-- The n big-endian bytes of a number. -/
def beBytes (n v : Nat) : List Byte := (leBytes n v).reverse

/-- Population count of the low n bits. -/
def popcount : Nat → Nat → Nat
  | 0, _ => 0
  | n + 1, v => v % 2 + popcount n (v / 2)

/-- The number of zero bits above the highest set bit in a 32-bit number. -/
def clz32 (v : Nat) : Nat := if v % 2 ^ 32 = 0 then 32 else 31 - Nat.log2 (v % 2 ^ 32)

/-- Writes element i of a list where it exists. -/
def lset {α : Type} (l : List α) (i : Nat) (v : α) : List α := l.set i v

/-- The positions 0 to n - 1, in order. -/
def upto (n : Nat) : List Nat := List.range n

/-- Sum of an integer list, exact. -/
def isum (l : List Int) : Int := l.foldl (· + ·) 0

end Sys2Proof.Machine
end

