-- ==== Sys2Proof/Machine/RegRows.lean ====
section
/-! DEFINITION. The register tables of the system chapters: 01, 02, 05, 15, 16, 17 and 18. One row per register (or array of
registers): offset, count, stride, access masks and reset value, each with its name and the rule or table it is from. -/
namespace Sys2Proof.Machine

/-- Where a register's value is held. -/
inductive RegKind
  | plain   -- one value
  | banked  -- RWB: one value per bank (R14)
  | own     -- one value per requester (R48, R143, R155, R169, R519)
  | strap   -- ROS: the straps' value at the last sampling, hence no reset value of the table (R14)
  deriving DecidableEq, Repr

/-- One register or register array of a page. -/
structure RegRow where
  off : Nat
  n : Nat := 1
  stride : Nat := 4
  /-- RW or RWB bits -/
  rw : Nat := 0
  /-- W1C bits -/
  w1c : Nat := 0
  /-- WO and WSC bits: they act and read 0 -/
  act : Nat := 0
  reset : Nat := 0
  kind : RegKind := .plain
  deriving DecidableEq, Repr

def allBits : Nat := 0xFFFF_FFFF

/-- The header of every page (R42); the block's enable reset and interrupt causes are arguments. -/
def headRows (enReset irqMask : Nat) (ctrl : Bool) : List RegRow := [
  { off := 0x000 },                                              -- PAGE_ID R42
  { off := 0x004 },                                              -- PAGE_CAP R42
  { off := 0x008, rw := 1, act := 2, reset := enReset },         -- PAGE_CTRL R42
  { off := 0x00C, w1c := 4 },                                    -- PAGE_STAT R42
  { off := 0x010, w1c := irqMask },                              -- IRQ_RAW R42
  { off := 0x014, rw := irqMask },                               -- IRQ_EN R42
  { off := 0x018 },                                              -- IRQ_PEND R42
  { off := 0x01C },                                              -- reserved R42
  { off := 0x020 },                                              -- ERR_CODE R42
  { off := 0x024 },                                              -- ERR_INFO R42
  { off := 0x028, rw := if ctrl then 0x1F00 else 0, reset := if ctrl then 0x1000 else 0 },  -- BANK_CTRL R171
  { off := 0x02C },                                              -- BANK_STAT R171
  { off := 0x030, n := 4 } ]                                     -- reserved R42

/-- The SYS page (01, 02, 05, 18). -/
def rowsSYS : List RegRow := [
  { off := 0x040, reset := 0x1024_B000 },                        -- CHIP_ID (02, Identification)
  { off := 0x044, reset := 0x1024_1F9A },                        -- PCI_IDS (02, Identification)
  { off := 0x048, act := 1 },                                    -- RST_CTRL R53
  { off := 0x04C, w1c := 0x1F },                                 -- RST_CAUSE R53
  { off := 0x050 },                                              -- ACC_ERR_ADDR R50
  { off := 0x054, w1c := 0xC000_0000 },                          -- ACC_ERR_INFO R50
  { off := 0x058, kind := .strap },                              -- STRAP_STAT R533
  { off := 0x05C, kind := .strap },                              -- IO_STAT R527
  { off := 0x060, rw := 0x777, reset := 0x111 },                 -- IO_CFG R531
  { off := 0x100, rw := 0x71, reset := 0x40 },                   -- SESSION_CFG R28
  { off := 0x104, w1c := 0x100, reset := 0x40 },                 -- SESSION_STAT R28
  { off := 0x200, n := 16, stride := 0x20, act := 0x8000_00FF }, -- SWAP_OP_CMD R174
  { off := 0x204, n := 16, stride := 0x20 },                     -- SWAP_OP_STAT R174
  { off := 0x208, n := 16, stride := 0x20, rw := 0x13 },         -- SWAP_OP_ARG0 R174
  { off := 0x20C, n := 16, stride := 0x20, rw := allBits },      -- SWAP_OP_ARG1 R174
  { off := 0x210, n := 16, stride := 0x20, rw := allBits },      -- SWAP_OP_ARG2 R174
  { off := 0x214, n := 16, stride := 0x20 },                     -- SWAP_AT_LO R174
  { off := 0x218, n := 16, stride := 0x20 },                     -- SWAP_AT_HI R174
  { off := 0x21C, n := 16, stride := 0x20 },                     -- SWAP reserved word R174
  { off := 0x400, act := 0x8000_00FF },                          -- SCN_OP_CMD R181
  { off := 0x404 },                                              -- SCN_OP_STAT R181
  { off := 0x408, rw := 0x3F },                                  -- SCN_OP_ARG0 R181
  { off := 0x40C, rw := 0xFFFF },                                -- SCN_OP_ARG1 R181
  { off := 0x410, rw := 0xFFF0_0000 },                           -- SCN_BASE R180
  { off := 0x414, rw := 0x3F },                                  -- SCN_SLOT R180
  { off := 0x418 },                                              -- SCN_INFO R181
  { off := 0x420, w1c := 0x1_FFFF } ]                            -- SWAP_END R174

/-- The PWR page (16). -/
def rowsPWR : List RegRow := [
  { off := 0x040, act := 0x8000_00FF },                          -- PS_OP_CMD R490
  { off := 0x044 },                                              -- PS_OP_STAT R490
  { off := 0x050, act := 0x8000_00FF },                          -- ENG_OP_CMD R506
  { off := 0x054 },                                              -- ENG_OP_STAT R506
  { off := 0x058, rw := 0xF },                                   -- ENG_OP_ARG0 R507
  { off := 0x060, w1c := 0x100 },                                -- STAT R511
  { off := 0x064, rw := 0x1F, reset := 0x3 },                    -- WAKE_EN R496
  { off := 0x068, w1c := 0x1F },                                 -- WAKE_SRC R496
  { off := 0x06C, rw := 0xFF_FFFF },                             -- AON_TIMER R496
  { off := 0x070, n := 4, stride := 8, rw := 0xFFF0_0000 },      -- KEEP_BASE R493
  { off := 0x074, n := 4, stride := 8, rw := 0xFFF },            -- KEEP_SIZE R493
  { off := 0x090, rw := 1 },                                     -- BOOST_VOK R505
  { off := 0x094, rw := 0x3FF },                                 -- I_CORE_MAX R505
  { off := 0x098 },                                              -- I_CORE R505
  { off := 0x0A0, rw := 7 },                                     -- SHED_FORCE R499
  { off := 0x0A4 },                                              -- SHED_STAT R499
  { off := 0x0B0, rw := 0x8003_FFFC },                           -- KEEP_ADDR R511
  { off := 0x0B4, rw := allBits },                               -- KEEP_DATA R511
  { off := 0x0B8 } ]                                             -- CNT_WAKE R511

/-- The THM page (16). -/
def rowsTHM : List RegRow := [
  { off := 0x040 },                                              -- TJ R512
  { off := 0x044 },                                              -- TJ_MAX R512
  { off := 0x048, n := 8 },                                      -- TJ_SENSOR R512
  { off := 0x068, rw := 0xFFFF, reset := 0x2A0 },                -- WARN_T R504
  { off := 0x06C, rw := 0xFFFF, reset := 0x320 },                -- WAKE_T R496
  { off := 0x070, rw := 1 },                                     -- CFG R504
  { off := 0x074 },                                              -- STAT R501
  { off := 0x078, act := 3 },                                    -- CMD R502
  { off := 0x07C } ]                                             -- CNT_LEVEL R501

/-- The HST page (02). -/
def rowsHST : List RegRow := [
  { off := 0x040 },                                              -- LINK_STAT R62
  { off := 0x044 },                                              -- QSPI_STAT R67
  { off := 0x048, rw := 3 },                                     -- QSPI_DRAM_SEL R66
  { off := 0x04C, rw := allBits },                               -- IRQN_SEL_LO R62
  { off := 0x050, rw := allBits },                               -- IRQN_SEL_HI R62
  { off := 0x054, act := 0x3F },                                 -- VEC_EOI R60
  { off := 0x058 },                                              -- VEC_ACT_LO R60
  { off := 0x05C },                                              -- VEC_ACT_HI R60
  { off := 0x060, n := 10 },                                     -- PAGE_SUM R62
  { off := 0x100, n := 289, rw := 0x13F },                       -- PAGE_VEC R60
  { off := 0x600, n := 8, stride := 0x20, rw := 0xFFFF_FFE0 },   -- DMA_BASE_LO R63
  { off := 0x604, n := 8, stride := 0x20, rw := allBits },       -- DMA_BASE_HI R63
  { off := 0x608, n := 8, stride := 0x20, rw := 0x7FF },         -- DMA_SIZE R63
  { off := 0x60C, n := 8, stride := 0x20, rw := 0x3FF },         -- DMA_HEAD R63
  { off := 0x610, n := 8, stride := 0x20 },                      -- DMA_TAIL R63
  { off := 0x614, n := 8, stride := 0x20, rw := 0x3F01 },        -- DMA_CTRL R63
  { off := 0x618, n := 8, stride := 0x20, w1c := 6 },            -- DMA_STAT R63
  { off := 0x800, n := 64, stride := 16, rw := 0xFFFF_FFFC },    -- MSIX_ADDR_LO R59
  { off := 0x804, n := 64, stride := 16, rw := allBits },        -- MSIX_ADDR_HI R59
  { off := 0x808, n := 64, stride := 16, rw := allBits },        -- MSIX_DATA R59
  { off := 0x80C, n := 64, stride := 16, rw := 1, reset := 1 },  -- MSIX_CTRL R59
  { off := 0xC00, n := 2 } ]                                     -- MSIX_PBA R59

/-- The BUS page (15). -/
def rowsBUS : List RegRow := [
  { off := 0x040, rw := 0x7F0F, reset := 0x2006 },               -- MASTER_CFG0 R477
  { off := 0x048, rw := 0x7F0F, reset := 0x080A },               -- MASTER_CFG1 R477
  { off := 0x050, n := 4, stride := 8, rw := 0x7F0F, reset := 0x1008 },  -- MASTER_CFG2to5 R477
  { off := 0x070, rw := 0x7F0F, reset := 0x200C },               -- MASTER_CFG6 R477
  { off := 0x078, rw := 0x7F00, reset := 0x400F },               -- MASTER_CFG7 R477
  { off := 0x080, rw := 0x7F0F, reset := 0x0802 },               -- MASTER_CFG8 R477
  { off := 0x088, rw := 0x7F0F, reset := 0x0401 },               -- MASTER_CFG9 R477
  { off := 0x044, n := 10, stride := 8 },                        -- MASTER_STAT R487
  { off := 0x0A0, rw := 0xF, reset := 4 },                       -- STREAMER_BG_QOS R480
  { off := 0x0A4, rw := 0xFF, reset := 40 },                     -- AGE_LIMIT R480
  { off := 0x0A8, rw := 1, reset := 1 },                         -- CFG R466
  { off := 0x0B0, n := 6 },                                      -- TARGET_STAT R483
  { off := 0x0D0 },                                              -- CNT_AGED R480
  { off := 0x0D4 },                                              -- CNT_FENCE R487
  { off := 0x0E0 },                                              -- SRAM_CE_CNT R476
  { off := 0x0E4 },                                              -- SRAM_UE_CNT R476
  { off := 0x0E8, w1c := 0x8000_0000 },                          -- SRAM_ERR_INFO R476
  { off := 0x0EC, act := 0xF } ]                                 -- CNT_CLR R487

/-- The DRC pages (15). -/
def rowsDRC : List RegRow := [
  { off := 0x040, rw := 3, reset := 2 },                         -- CFG R461
  { off := 0x044, rw := 0x3F_7F7F, reset := 0x0008_1030 },       -- WQ_CFG R469
  { off := 0x048 },                                              -- STAT R488
  { off := 0x04C, rw := 0xFF01, reset := 0x1801 },               -- SCRUB_CFG R473
  { off := 0x050 },                                              -- SCRUB_POS R473
  { off := 0x054 },                                              -- SCRUB_PASSES R473
  { off := 0x058 },                                              -- CE_CNT R465
  { off := 0x05C },                                              -- UE_CNT R465
  { off := 0x060 },                                              -- UE_ADDR R465
  { off := 0x064, w1c := 0x8000_0000 },                          -- UE_INFO R465
  { off := 0x068 },                                              -- CE_LAST_ADDR R465
  { off := 0x06C },                                              -- CE_LAST_SYM R465
  { off := 0x070, rw := 0x0F7F_3F00, act := 1 },                 -- INJ_CTRL R474
  { off := 0x074 },                                              -- TRACK_LAST R472
  { off := 0x080 },                                              -- CNT_RD R488
  { off := 0x084 },                                              -- CNT_WR R488
  { off := 0x088 },                                              -- CNT_RMW R464
  { off := 0x08C },                                              -- CNT_RAW_DRAIN R470
  { off := 0x090 },                                              -- CNT_BATCH R488
  { off := 0x094, act := 0x3FF } ]                               -- CNT_CLR R488

/-- The OBS page (17). -/
def rowsOBS : List RegRow := [
  { off := 0x040, rw := 0x1F03, reset := 0xD00 },                -- CFG R525
  { off := 0x044, rw := 0xFFF0_0000 },                           -- RING_BASE R516
  { off := 0x048, rw := 0x1FF, reset := 1 },                     -- RING_SIZE R516
  { off := 0x04C },                                              -- WR_IDX R516
  { off := 0x050, rw := 0xFF_FFFF },                             -- RD_IDX R517
  { off := 0x054, w1c := 4 },                                    -- STAT R525
  { off := 0x058 },                                              -- CNT_LOST R517
  { off := 0x05C },                                              -- CNT_CRUMBS R525
  { off := 0x060, n := 8, rw := allBits, reset := 0xFFFF_FFFF }, -- SRC_MASK R515
  { off := 0x080, rw := allBits, kind := .own },                 -- MARK_LO R519
  { off := 0x084, act := allBits, kind := .own },                -- MARK_HI R519
  { off := 0x090, act := 0x8000_00FF },                          -- FLUSH_OP_CMD R520
  { off := 0x094 },                                              -- FLUSH_OP_STAT R520
  { off := 0x0A0, rw := 0xFFF },                                 -- OC_SEL R516
  { off := 0x0A4, n := 4 },                                      -- OC_DATA R516
  { off := 0x0C0, rw := 2, act := 1 },                           -- CNT_CTRL R521
  { off := 0x100, n := 9 },                                      -- LOAD R522
  { off := 0x130, act := 0x1FF },                                -- LOAD_CLR R522
  { off := 0x400, n := 256, rw := 0xBFFF_FFFF },                 -- CNT_SEL R521
  { off := 0x800, n := 256, stride := 8 },                       -- CNT_VAL_LO R521
  { off := 0x804, n := 256, stride := 8 } ]                      -- CNT_VAL_HI R521

/-- The map registers of the eight MTX pages (05): four pages of SRC_MAP, four of DST_MAP. -/
def rowsMTXmap : List RegRow := [
  { off := 0x040, n := 512, rw := 0xFFFF, kind := .banked } ]    -- MAP R150

/-- The further registers of MTX[0] (05). -/
def rowsMTX0 : List RegRow := rowsMTXmap ++ [
  { off := 0x840, reset := 262144 },                             -- CAP_NODE R184
  { off := 0x844, reset := 512 },                                -- CAP_XR R184
  { off := 0x848 },                                              -- NODES_ACT R184
  { off := 0x84C },                                              -- NODES_SHD R184
  { off := 0x850 },                                              -- XR_ACT R184
  { off := 0x854 },                                              -- XR_SHD R184
  { off := 0x858, rw := 0x1FFF_00FF, reset := 0x0040_0014, kind := .banked },  -- ZC_CFG R184
  { off := 0x860, w1c := 1 },                                    -- GLOBAL_STAT R184
  { off := 0x864 },                                              -- XFR_SLOTS R184
  { off := 0x868 },                                              -- XFR_QUEUED R184
  { off := 0x870 },                                              -- CNT_POOL_REJ R184
  { off := 0x874 },                                              -- CNT_QUEUED R184
  { off := 0x878 },                                              -- CNT_ZC_TIMEOUT R184
  { off := 0x87C },                                              -- CNT_DST_SAT R184
  { off := 0x880, act := 0xF },                                  -- CNT_CLR R184
  { off := 0x8A0, rw := 0x37FF_07FF, kind := .own },             -- NODE_ADDR R155
  { off := 0x8A4, rw := 0x1_1FFF, reset := 0x80, kind := .own }, -- NODE_CTRL R155
  { off := 0x8A8, rw := allBits, kind := .own },                 -- NODE_DATA R155
  { off := 0x8AC, kind := .own },                                -- NODE_RB R155
  { off := 0x8B0, kind := .own },                                -- NODE_RESULT R155
  { off := 0x8C0, rw := 0x1FF, kind := .own },                   -- XR_SEL R169
  { off := 0x8C4, rw := allBits, kind := .own },                 -- XR_EP R169
  { off := 0x8C8, rw := allBits, kind := .own },                 -- XR_GAIN R169
  { off := 0x8CC, rw := 0x8001_1FFF, reset := 0x80, kind := .own },  -- XR_CFG R169
  { off := 0x8D0, act := 3, kind := .own },                      -- XR_ACCESS R169
  { off := 0x8D4, kind := .own },                                -- XR_RESULT R169
  { off := 0x8E0, act := 0x8000_00FF },                          -- LD_OP_CMD R158
  { off := 0x8E4 },                                              -- LD_OP_STAT R158
  { off := 0x8E8, rw := 0xFFFF_FFF0 },                           -- LD_OP_ARG0 R158
  { off := 0x8EC, rw := 0x7_FFFF },                              -- LD_OP_ARG1 R158
  { off := 0x8F0 },                                              -- LD_BAD_IDX R159
  { off := 0x900, n := 8, stride := 8, rw := allBits, kind := .banked },  -- TONE_INC R170
  { off := 0x904, n := 8, stride := 8, rw := allBits, kind := .banked },  -- TONE_LVL R170
  { off := 0x940, n := 4, stride := 8, rw := allBits, kind := .banked },  -- PINK_LVL R170
  { off := 0x944, n := 4, stride := 8, rw := allBits, reset := 1, kind := .banked } ]  -- PINK_SEED R170

end Sys2Proof.Machine
end

