-- ==== Sys2Proof/Machine/RegRows2.lean ====
section
/-! DEFINITION. The register tables of the engine and interface chapters: 04, 06, 07, 08, 09, 10, 11, 12, 13 and 14. -/
namespace Sys2Proof.Machine

/-- REN[0] (04). -/
def rowsREN0 : List RegRow := [
  { off := 0x040, rw := 0xFFFF, reset := 34300, kind := .banked },  -- SOUND_SPEED R90
  { off := 0x044, rw := 0x7F_FFFF, kind := .banked },            -- REF_DIST R90
  { off := 0x048, rw := 0x7F_FFFF, reset := 1000, kind := .banked },  -- UNITY_DIST R90
  { off := 0x04C, n := 3, rw := 0xFF_FFFF, kind := .banked },    -- LISTENER_XYZ R90
  { off := 0x058, reset := 0x23D3_37FA },                        -- K R92
  { off := 0x060, reset := 1024 },                               -- CAP_OBJ R136
  { off := 0x064, reset := 65536 },                              -- CAP_PATH R136
  { off := 0x068 },                                              -- DEMAND_ACT R136
  { off := 0x06C },                                              -- DEMAND_SHD R136
  { off := 0x070 },                                              -- ADMITTED R137
  { off := 0x074, w1c := 2 },                                    -- GLOBAL_STAT R141
  { off := 0x080 },                                              -- CNT_LATE R116
  { off := 0x084 },                                              -- CNT_PUSH_REJ R116
  { off := 0x088 },                                              -- CNT_SLEW R116
  { off := 0x08C },                                              -- CNT_DEFER R116
  { off := 0x090 },                                              -- CNT_BUS_SAT R116
  { off := 0x094, act := 0x1F },                                 -- CNT_CLR R141
  { off := 0x0A0, rw := 0x3FF, kind := .own },                   -- SEG_OBJ R143
  { off := 0x0A4, n := 3, rw := 0xFF_FFFF, kind := .own },       -- SEG_XYZ R143
  { off := 0x0B0, rw := allBits, kind := .own },                 -- SEG_GAIN R143
  { off := 0x0B4, rw := allBits, kind := .own },                 -- SEG_ARR_LO R143
  { off := 0x0B8, rw := allBits, kind := .own },                 -- SEG_ARR_HI R143
  { off := 0x0BC, act := 0x33, kind := .own },                   -- SEG_PUSH R144
  { off := 0x0C0, kind := .own },                                -- SEG_RESULT R144
  { off := 0x100, n := 32 } ]                                    -- FLAG_SUM R141

/-- REN[1] to REN[8]: object status (04). -/
def rowsRENobj : List RegRow := [
  { off := 0x040, n := 128, stride := 8, w1c := 0x3FF },         -- OBJ_STAT R146
  { off := 0x044, n := 128, stride := 8 } ]                      -- OBJ_INFO R146

/-- REN[9] to REN[16]: object positions (04). -/
def rowsRENpos : List RegRow := [
  { off := 0x040, n := 512 } ]                                   -- OBJ_POS_XYZ_GAIN R147

/-- Chain registers of every SPK page (06). -/
def rowsSPKch : List RegRow := [
  { off := 0x040, n := 16, stride := 0x80, rw := 0x07FF_07FF, kind := .banked },  -- CH_CTRL R219
  { off := 0x044, n := 16, stride := 0x80, rw := allBits, reset := 0x1000_0000, kind := .banked },  -- CH_IN_GAIN R188
  { off := 0x048, n := 16, stride := 0x80, rw := allBits, reset := 0x1000_0000, kind := .banked },  -- CH_OUT_GAIN R213
  { off := 0x04C, n := 16, stride := 0x80, rw := 0x3_FFFF, kind := .banked },  -- CH_BULK_DLY R211
  { off := 0x050, n := 16, stride := 0x80, rw := 0x1FFF_1FFF, reset := 0x0040_0080, kind := .banked },  -- CH_XF_CFG R219
  { off := 0x054, n := 16, stride := 0x80, rw := allBits, kind := .banked },  -- IIR_DECL R216
  { off := 0x058, n := 16, stride := 0x80, w1c := 0xFF },        -- CH_STAT R219
  { off := 0x05C, n := 16, stride := 0x80 },                     -- DYN_GR R219
  { off := 0x060, n := 16, stride := 0x80 },                     -- LED_ENG R216
  { off := 0x064, n := 16, stride := 0x80 },                     -- LED_FILT R216
  { off := 0x068, n := 16, stride := 0x80 },                     -- LED_LA R216
  { off := 0x06C, n := 16, stride := 0x80 },                     -- LED_BULK R216
  { off := 0x070, n := 16, stride := 0x80 },                     -- LED_TOT_LO R216
  { off := 0x074, n := 16, stride := 0x80 },                     -- LED_TOT_HI R216
  { off := 0x080, n := 16, stride := 0x80 }, { off := 0x084, n := 16, stride := 0x80 },  -- reserved R219
  { off := 0x088, n := 16, stride := 0x80 }, { off := 0x08C, n := 16, stride := 0x80 },
  { off := 0x090, n := 16, stride := 0x80 }, { off := 0x094, n := 16, stride := 0x80 },
  { off := 0x098, n := 16, stride := 0x80 }, { off := 0x09C, n := 16, stride := 0x80 },
  { off := 0x0A0, n := 16, stride := 0x80 }, { off := 0x0A4, n := 16, stride := 0x80 },
  { off := 0x0A8, n := 16, stride := 0x80 }, { off := 0x0AC, n := 16, stride := 0x80 },
  { off := 0x0B0, n := 16, stride := 0x80 }, { off := 0x0B4, n := 16, stride := 0x80 },
  { off := 0x0B8, n := 16, stride := 0x80 }, { off := 0x0BC, n := 16, stride := 0x80 } ]

/-- SPK[0] globals (06). -/
def rowsSPK0 : List RegRow := rowsSPKch ++ [
  { off := 0x840, reset := 1024 },                               -- CAP_CHAIN R220
  { off := 0x844, rw := 0x1FFF_00FF, reset := 0x0040_0014, kind := .banked },  -- ZC_CFG R213
  { off := 0x848, rw := 0xFFF0_0000 },                           -- DLY_BASE R211
  { off := 0x84C },                                              -- GLOBAL_STAT R211
  { off := 0x850 },                                              -- CNT_SAT R220
  { off := 0x854 },                                              -- CNT_CLIP R220
  { off := 0x858 },                                              -- CNT_ZC_TIMEOUT R213
  { off := 0x85C },                                              -- CNT_MEM_ERR R211
  { off := 0x860, act := 0xF },                                  -- CNT_CLR R220
  { off := 0x900, n := 32 } ]                                    -- FLAG_SUM R220

/-- CNV[0] (06). -/
def rowsCNV0 : List RegRow := [
  { off := 0x040, reset := 4194304 },                            -- CAP_TAPS R222
  { off := 0x044 },                                              -- TAPS_ACT R222
  { off := 0x048 },                                              -- TAPS_SHD R222
  { off := 0x04C, rw := 0xFFF0_0000 },                           -- POOL_BASE R198
  { off := 0x050, w1c := 2 },                                    -- GLOBAL_STAT R222
  { off := 0x054 },                                              -- ADMITTED R200
  { off := 0x060, act := 0x8000_00FF },                          -- LOAD_OP_CMD R203
  { off := 0x064 },                                              -- LOAD_OP_STAT R204
  { off := 0x068, rw := 0xFFFF_FFFC },                           -- LOAD_OP_ARG0 R203
  { off := 0x06C, rw := 0x3FF },                                 -- LOAD_OP_ARG1 R203
  { off := 0x070, rw := 0xFFFF },                                -- LOAD_OP_ARG2 R203
  { off := 0x074, rw := allBits } ]                              -- LOAD_OP_ARG3 R203

/-- CNV[1] to CNV[4] (06). -/
def rowsCNVch : List RegRow := [
  { off := 0x040, n := 256, stride := 8, rw := 0x1FFF_F70F, reset := 0x0100_F000, kind := .banked },  -- CNV_CFG R221
  { off := 0x044, n := 256, stride := 8, rw := allBits, kind := .banked } ]  -- CNV_DECL R221

/-- Channel registers of every INC page (07). -/
def rowsINCch : List RegRow := [
  { off := 0x040, n := 64, stride := 0x20, rw := 0x1_FF77, kind := .banked },  -- CH_CFG R244
  { off := 0x044, n := 64, stride := 0x20, rw := 0xFFFF, kind := .banked },  -- CH_SRC R224
  { off := 0x048, n := 64, stride := 0x20, w1c := 0x18 },        -- CH_STAT R244
  { off := 0x04C, n := 64, stride := 0x20 },                     -- CH_DELAY R243
  { off := 0x050, n := 64, stride := 0x20 },                     -- DC_EST R238
  { off := 0x054, n := 64, stride := 0x20, act := 1 },           -- CH_CMD R240
  { off := 0x058, n := 64, stride := 0x20 },                     -- reserved R244
  { off := 0x05C, n := 64, stride := 0x20 } ]                    -- reserved R244

/-- INC[0] globals and rate groups (07). -/
def rowsINC0 : List RegRow := rowsINCch ++ [
  { off := 0x840, reset := 1024 },                               -- CAP_CH R246
  { off := 0x844, reset := 256 },                                -- CAP_ASRC R246
  { off := 0x848 },                                              -- ASRC_ACT R246
  { off := 0x84C },                                              -- ASRC_SHD R246
  { off := 0x850 },                                              -- GLOBAL_STAT R246
  { off := 0x854 },                                              -- CNT_SAT R247
  { off := 0x858, act := 3 },                                    -- CNT_CLR R247
  { off := 0x900, n := 32, stride := 0x20, rw := 0x3F_0107, reset := 2, kind := .banked },  -- GRP_CFG R230
  { off := 0x904, n := 32, stride := 0x20, w1c := 0x7_0000 },    -- GRP_STAT R230
  { off := 0x908, n := 32, stride := 0x20 },                     -- GRP_RATIO R231
  { off := 0x90C, n := 32, stride := 0x20 },                     -- GRP_FILL R231
  { off := 0x910, n := 32, stride := 0x20 },                     -- GRP_RATE R231
  { off := 0x914, n := 32, stride := 0x20 },                     -- GRP_CNT_DROP R235
  { off := 0x918, n := 32, stride := 0x20 },                     -- GRP_CNT_REPEAT R235
  { off := 0x91C, n := 32, stride := 0x20 } ]                    -- GRP_CNT_LOST R233

/-- DSP[c] (08). -/
def rowsDSP : List RegRow := [
  { off := 0x040, rw := 7 },                                     -- CORE_CTRL R291
  { off := 0x044, w1c := 0x3F_0000 },                            -- CORE_STAT R291
  { off := 0x048 },                                              -- FAULT_PC R288
  { off := 0x04C },                                              -- PC R291
  { off := 0x050, rw := allBits },                               -- START_LO R287
  { off := 0x054, rw := allBits },                               -- START_HI R287
  { off := 0x058, rw := allBits },                               -- MBX_IN R278
  { off := 0x05C },                                              -- MBX_OUT R278
  { off := 0x060, w1c := 2 },                                    -- MBX_STAT R278
  { off := 0x064, act := 0xC0 },                                 -- EVT_RAISE R276
  { off := 0x068, rw := 0xFF },                                  -- EVT_TRIG R276
  { off := 0x06C },                                              -- CNT_MISS R282
  { off := 0x070 },                                              -- CYC_LAST R291
  { off := 0x074 },                                              -- CYC_MAX R291
  { off := 0x078, act := 3 } ]                                   -- CNT_CLR R291

/-- DSP_SH (08). -/
def rowsDSPSH : List RegRow := [
  { off := 0x040, rw := 1 },                                     -- BOOST_CTRL R292
  { off := 0x044 },                                              -- BOOST_STAT R292
  { off := 0x048, reset := 1000 },                               -- DS_FREQ R292
  { off := 0x04C },                                              -- CORE_RUN R292
  { off := 0x050 },                                              -- CORE_FAULT R292
  { off := 0x054 } ]                                             -- CNT_BOOST_OFF R505

/-- TB (09). -/
def rowsTB : List RegRow := [
  { off := 0x040, rw := allBits },                               -- INCR_FRAC R294
  { off := 0x044, rw := 0xF, reset := 4 },                       -- INCR_NS R294
  { off := 0x048, rw := allBits },                               -- STEP_FRAC R295
  { off := 0x04C, act := allBits },                              -- STEP_NS R295
  { off := 0x050, w1c := 8 },                                    -- STAT R317
  { off := 0x054 },                                              -- STEP_CNT R295
  { off := 0x060, n := 5 },                                      -- NOW_SET R300
  { off := 0x080, n := 5 },                                      -- LATCH_SET R302
  { off := 0x0A0, n := 4, rw := allBits, kind := .banked },      -- ANCHOR R315
  { off := 0x100, n := 12, stride := 0x20, rw := 0xFFFF_FF7F },  -- CAP_CFG R306
  { off := 0x104, n := 12, stride := 0x20, w1c := 0x100 },       -- CAP_STAT R307
  { off := 0x108, n := 12, stride := 0x20 },                     -- CAP_NS R307
  { off := 0x10C, n := 12, stride := 0x20 },                     -- CAP_FRAC R307
  { off := 0x110, n := 12, stride := 0x20 },                     -- CAP_WRAP R307
  { off := 0x114, n := 12, stride := 0x20 },                     -- CAP_MSC_LO R307
  { off := 0x118, n := 12, stride := 0x20 },                     -- CAP_MSC_HI R307
  { off := 0x11C, n := 12, stride := 0x20 },                     -- reserved R307
  { off := 0x300, n := 8, stride := 0x20, rw := 0x1_F17B },      -- CMP_CFG R308
  { off := 0x304, n := 8, stride := 0x20, rw := allBits },       -- CMP_T_LO R308
  { off := 0x308, n := 8, stride := 0x20, rw := allBits },       -- CMP_T_HI R308
  { off := 0x30C, n := 8, stride := 0x20, rw := allBits },       -- CMP_PERIOD R310
  { off := 0x310, n := 8, stride := 0x20, act := 3 },            -- CMP_CMD R311
  { off := 0x314, n := 8, stride := 0x20, w1c := 0x1E },         -- CMP_STAT R309
  { off := 0x318, n := 8, stride := 0x20 },                      -- CMP_MISSED R310
  { off := 0x31C, n := 8, stride := 0x20 },                      -- CMP_FIRE_NS R308
  { off := 0x400, n := 8, rw := 0xFFFF_003F } ]                  -- EVT_CFG R314

/-- REF (10). -/
def rowsREF : List RegRow := [
  { off := 0x040, rw := 0x1F3, reset := 0x100 },                 -- SEL_CTRL R329
  { off := 0x044, rw := 0xFFFF_1F1F, reset := 0x0064_0D09 },     -- DPLL_CFG R319
  { off := 0x048, rw := 0x03FF_0FFF, reset := 0x000A_012C },     -- HO_CFG R334
  { off := 0x04C, rw := 0xF_FFFF, reset := 0xE10 },              -- HO_LIMIT R335
  { off := 0x050, rw := 0xFFF, reset := 0xA },                   -- WTR R326
  { off := 0x054, rw := 0xFF_FFFF, reset := 0x0002_0064 },       -- LOCK_CFG R341
  { off := 0x058, rw := 0xFFFF, reset := 0xC8 },                 -- DIS_THR R331
  { off := 0x05C, rw := 0xFFFF_00FF, reset := 0x07D0_0064 },     -- MON_CFG R323
  { off := 0x060, rw := allBits },                               -- FREERUN_OFS R336
  { off := 0x064, rw := allBits },                               -- TB_GRID R322
  { off := 0x068, rw := 0xF },                                   -- TDMREF_SEL R320
  { off := 0x080, w1c := 0xC00, reset := 0x97 },                 -- DPLL_STAT R340
  { off := 0x084 },                                              -- DPLL_FREQ R318
  { off := 0x088 },                                              -- DPLL_PHASE R319
  { off := 0x08C },                                              -- HO_MEAN R334
  { off := 0x090 },                                              -- HO_TIME R335
  { off := 0x094 },                                              -- HO_RECORDS R334
  { off := 0x098 },                                              -- BUILDOUT R338
  { off := 0x09C },                                              -- CNT_SWITCH R343
  { off := 0x0A0, act := 3 },                                    -- CNT_CLR R343
  { off := 0x100, rw := 0x20F },                                 -- REF_CFG0 R343
  { off := 0x110, n := 2, stride := 0x10, rw := 0x10F },         -- REF_CFG1to2 R343
  { off := 0x130, n := 4, stride := 0x10, rw := 0x7F },          -- REF_CFG3to6 R343
  { off := 0x170, rw := 0xF },                                   -- REF_CFG7 R343
  { off := 0x180, rw := 0x7F },                                  -- REF_CFG8 R343
  { off := 0x190, reset := 0xF },                                -- REF_CFG9 R343
  { off := 0x104, n := 9, stride := 0x10, w1c := 0x1F_0000 },    -- REF_STAT R343
  { off := 0x194, w1c := 0x1F_0000, reset := 3 },                -- REF_STAT9 R343
  { off := 0x108, n := 10, stride := 0x10 },                     -- REF_FREQ R326
  { off := 0x10C, n := 10, stride := 0x10 } ]                    -- REF_CNT R323

/-- CG[i] (11). -/
def rowsCG : List RegRow := [
  { off := 0x040, rw := 0x01FF_FFFF, reset := 0x10 },            -- CG_CFG R363
  { off := 0x044, rw := 0x1FFF, reset := 0x1000 },               -- RATE_INT R346
  { off := 0x048, rw := 0xFF_FFFF },                             -- RATE_FRAC R346
  { off := 0x050, w1c := 0x7F00 },                               -- CG_STAT R363
  { off := 0x054 },                                              -- FS_RATE R348
  { off := 0x058 },                                              -- FILL_IN R353
  { off := 0x05C },                                              -- FILL_OUT R353
  { off := 0x060, rw := 7, reset := 2 },                         -- STEER_CFG R354
  { off := 0x064 },                                              -- RATE_ACT_INT R354
  { off := 0x068 },                                              -- RATE_ACT_FRAC R354
  { off := 0x06C },                                              -- LED_PORT R353
  { off := 0x070 },                                              -- CNT_UNDER_IN R357
  { off := 0x074 },                                              -- CNT_OVER_IN R357
  { off := 0x078 },                                              -- CNT_UNDER_OUT R357
  { off := 0x07C },                                              -- CNT_OVER_OUT R357
  { off := 0x080 },                                              -- CNT_DROP R353
  { off := 0x084 },                                              -- CNT_REPEAT R353
  { off := 0x088 },                                              -- CNT_FRAME_ERR R361
  { off := 0x08C },                                              -- CNT_CONT R360
  { off := 0x090, act := 0xFF } ]                                -- CNT_CLR R363

/-- MCLK_CFG of CG[0] to CG[3]; it reads 0 and ignores writes on the others (11). -/
def rowsMCLK (has : Bool) : List RegRow := [
  { off := 0x0A0, rw := if has then 0xFF07 else 0 } ]            -- MCLK_CFG R363

/-- Start groups of CG[0] (11). -/
def rowsSG : List RegRow := [
  { off := 0x100, n := 4, stride := 0x10, rw := 0xF_FFFF },      -- SG_CFG R350
  { off := 0x104, n := 4, stride := 0x10, rw := allBits },       -- SG_MSC_LO R350
  { off := 0x108, n := 4, stride := 0x10, rw := allBits },       -- SG_MSC_HI R350
  { off := 0x10C, n := 4, stride := 0x10, w1c := 0x1E00, act := 3 } ]  -- SG_CMD R350

/-- SAP[p] (11). -/
def rowsSAP : List RegRow := [
  { off := 0x040, rw := 0x7F },                                  -- SAP_CFG R364
  { off := 0x044, rw := allBits, reset := 0xFFFF_FFFF, kind := .banked },  -- SLOT_MASK R355
  { off := 0x048, rw := allBits, kind := .banked },              -- OUT_MASK R355
  { off := 0x04C, rw := 0x7FF },                                 -- STEER_BASE R354
  { off := 0x050, w1c := 4 },                                    -- SAP_STAT R364
  { off := 0x054 },                                              -- CNT_CONTENTION R360
  { off := 0x058, act := 1 } ]                                   -- CNT_CLR R364

/-- NET[x] (12). -/
def rowsNET : List RegRow := [
  { off := 0x040, rw := 0x33 },                                  -- PORT_CFG R365
  { off := 0x044 },                                              -- LINK_STAT R366
  { off := 0x048, rw := allBits },                               -- MAC_ADDR_LO R372
  { off := 0x04C, rw := 0xFFFF },                                -- MAC_ADDR_HI R372
  { off := 0x050, rw := 0x3FFF, reset := 1522 },                 -- MAX_FRAME R370
  { off := 0x054, rw := 0xFF_FFFF },                             -- TS_LAT_TX R367
  { off := 0x058, rw := 0xFF_FFFF },                             -- TS_LAT_RX R367
  { off := 0x060, n := 16, rw := 0x8FFF },                       -- VID_TBL R373
  { off := 0x0A0, n := 32, stride := 8, rw := allBits },         -- EXACT_LO R372
  { off := 0x0A4, n := 32, stride := 8, rw := 0x1_FFFF },        -- EXACT_HI R372
  { off := 0x200, n := 128, rw := allBits },                     -- HASH R372
  { off := 0x400, n := 96 },                                     -- STATS R384
  { off := 0x580, rw := 2, act := 1 },                           -- STATS_CTRL R384
  { off := 0x600, n := 6, stride := 0x20, rw := 0xFFFF_FFF0 },   -- RING_BASE R376
  { off := 0x604, n := 6, stride := 0x20, rw := 0x7FF },         -- RING_SIZE R376
  { off := 0x608, n := 6, stride := 0x20, rw := 0x3FF },         -- RING_HEAD R376
  { off := 0x60C, n := 6, stride := 0x20 },                      -- RING_TAIL R376
  { off := 0x610, n := 6, stride := 0x20, rw := 1 },             -- RING_CTRL R376
  { off := 0x614, n := 6, stride := 0x20, w1c := 2 },            -- RING_STAT R376
  { off := 0x700 },                                              -- TSQ_TAG R383
  { off := 0x704 },                                              -- TSQ_NS R383
  { off := 0x708 },                                              -- TSQ_FRAC R383
  { off := 0x70C, w1c := 0x100 },                                -- TSQ_STAT R383
  { off := 0x710 },                                              -- TSQ_LOST R383
  { off := 0x714 },                                              -- TSQ_LAST_LOST_TAG R383
  { off := 0x718, act := 1 },                                    -- TSQ_CLR R383
  { off := 0x800, n := 8, rw := 0x81FF_FFFF },                   -- IDLE_SLOPE R380
  { off := 0x840, rw := 1, act := 2 },                           -- GATE_CTRL R382
  { off := 0x844 },                                              -- GATE_STAT R382
  { off := 0x848, rw := allBits },                               -- ADMIN_BASE_NS R382
  { off := 0x84C, rw := 0xFF },                                  -- ADMIN_BASE_WRAP R382
  { off := 0x850, rw := allBits, reset := 1000000 },             -- ADMIN_CYCLE R382
  { off := 0x854, rw := 0x1FF, reset := 1 },                     -- ADMIN_LEN R382
  { off := 0x858, rw := 0x1_00FF, kind := .own },                              -- GCL_SEL R382
  { off := 0x85C, rw := 0xFF, reset := 0xFF, kind := .own },                   -- GCL_GATES R382
  { off := 0x860, rw := 0x3FFF_FFFF, kind := .own },                           -- GCL_INTERVAL R382
  { off := 0x864, act := 3, kind := .own },                                    -- GCL_ACCESS R382
  { off := 0x868 },                                              -- OPER_BASE_NS R382
  { off := 0x86C },                                              -- OPER_CYCLE R382
  { off := 0x870 } ]                                             -- OPER_LEN R382

/-- STRM[0] (12). -/
def rowsSTRM0 : List RegRow := [
  { off := 0x040, rw := 0x1_01FF, kind := .own },                -- STR_SEL R385
  { off := 0x044, act := 3, kind := .own },                      -- STR_ACCESS R385
  { off := 0x048, kind := .own },                                -- STR_RESULT R385
  { off := 0x04C, reset := 512 },                                -- CAP_RX R386
  { off := 0x050, reset := 512 },                                -- CAP_TX R386
  { off := 0x054 },                                              -- GLOBAL_STAT R386
  { off := 0x058, act := 3 },                                    -- CNT_CLR R398
  { off := 0x080, n := 16, rw := allBits, kind := .own } ]       -- STR_W R385

/-- STRM[1] to STRM[4]: RX stream status (12). -/
def rowsSTRMrx : List RegRow := [
  { off := 0x040, n := 128, stride := 0x18, w1c := 0x1F00 },     -- RX_STAT R398
  { off := 0x044, n := 128, stride := 0x18 },                    -- CNT_A R398
  { off := 0x048, n := 128, stride := 0x18 },                    -- CNT_B R398
  { off := 0x04C, n := 128, stride := 0x18 },                    -- CNT_DUP R391
  { off := 0x050, n := 128, stride := 0x18 },                    -- CNT_LOST R392
  { off := 0x054, n := 128, stride := 0x18 } ]                   -- CNT_MISC R398

/-- STRM[5] and STRM[6]: TX stream status (12). -/
def rowsSTRMtx : List RegRow := [
  { off := 0x040, n := 256, stride := 0xC, w1c := 0x100 },       -- TX_STAT R394
  { off := 0x044, n := 256, stride := 0xC },                     -- CNT_TX R398
  { off := 0x048, n := 256, stride := 0xC } ]                    -- LEDGER R395

/-- UHL[s] (13). -/
def rowsUHL : List RegRow := [
  { off := 0x040, rw := 3 },                                     -- LINK_CFG R399
  { off := 0x044 },                                              -- LINK_STAT R402
  { off := 0x048 },                                              -- LANE_MAP R400
  { off := 0x04C },                                              -- LINK_DLY R413
  { off := 0x050 },                                              -- CNT_HDR_CRC R407
  { off := 0x054 },                                              -- CNT_GRP_CRC R407
  { off := 0x058 },                                              -- CNT_CTRL_CRC R407
  { off := 0x05C },                                              -- CNT_LINK_DOWN R402
  { off := 0x060 },                                              -- CNT_LANE_FIX R400
  { off := 0x064, act := 0x1F } ]                                -- CNT_CLR R429

/-- STK (13). -/
def rowsSTK : List RegRow := [
  { off := 0x040, kind := .strap },                              -- ROLE_STAT R411
  { off := 0x044, rw := 0xF, reset := 0xC },                     -- CTRL R430
  { off := 0x048, act := 7 },                                    -- CMD R430
  { off := 0x04C },                                              -- RING_STAT R420
  { off := 0x050, n := 2 },                                      -- PRESENT R417
  { off := 0x058, n := 2 },                                      -- MISMATCH R416
  { off := 0x060, w1c := 3 },                                    -- FLAGS R416
  { off := 0x064, n := 2 },                                      -- MSC_OFS R415
  { off := 0x06C },                                              -- D_MAX R410
  { off := 0x070 },                                              -- BUDGET R410
  { off := 0x074, n := 4 },                                      -- SHED R425
  { off := 0x084 },                                              -- SHED_SUM R425
  { off := 0x088 },                                              -- CNT_ROLL_MISS R417
  { off := 0x08C },                                              -- CNT_CONCEAL R408
  { off := 0x090 },                                              -- CNT_FADE R408
  { off := 0x094 },                                              -- CNT_WRAP R420
  { off := 0x098 },                                              -- CNT_TAKEOVER R418
  { off := 0x09C },                                              -- CNT_CTRL_DEFER R427
  { off := 0x0A0, act := 0x3F },                                 -- CNT_CLR R430
  { off := 0x0B0, rw := 0x13_1FFF, kind := .own },               -- MAP_SEL R423
  { off := 0x0B4, rw := 0xFFFF, kind := .own },                  -- MAP_DATA R422
  { off := 0x0B8, kind := .own },                                -- MAP_RESULT R423
  { off := 0x100, n := 64 } ]                                    -- HOP_DLY R410

/-- TRI (14). -/
def rowsTRI : List RegRow := [
  { off := 0x040, rw := 0x03FF_F737, reset := 0x0040_2300 },     -- CFG R457
  { off := 0x044, rw := 0x3F_3F3F },                             -- MEMBERS R457
  { off := 0x048, kind := .strap },                              -- STAT R457
  { off := 0x04C, w1c := 0x7F },                                 -- FLAGS R440
  { off := 0x050 },                                              -- V_ACT R436
  { off := 0x054 },                                              -- LAST_BLOCK R438
  { off := 0x058, n := 3 },                                      -- CHECK_P R438
  { off := 0x064 },                                              -- VOTE_STAT R440
  { off := 0x068, n := 2 },                                      -- HANDOVER_AT R442
  { off := 0x070, act := 1 },                                    -- CMD R444
  { off := 0x080, act := 0x8000_00FF },                          -- REJOIN_OP_CMD R446
  { off := 0x084 },                                              -- REJOIN_OP_STAT R446
  { off := 0x088, rw := 0x3F },                                  -- REJOIN_OP_ARG0 R446
  { off := 0x08C },                                              -- REJOIN_PHASE R448
  { off := 0x0A0 },                                              -- CNT_MINORITY R440
  { off := 0x0A4 },                                              -- CNT_ABSENT R440
  { off := 0x0A8 },                                              -- CNT_NO_MAJ R440
  { off := 0x0AC },                                              -- CNT_HANDOVER R442
  { off := 0x0B0 },                                              -- CNT_SNAP_RETRY R447
  { off := 0x0B4, act := 0x1F },                                 -- CNT_CLR R457
  { off := 0x200, n := 32, stride := 0x10, rw := 0x1F0F_03F3 },  -- ALV_CFG R453
  { off := 0x204, n := 32, stride := 0x10, w1c := 3 },           -- ALV_STAT R453
  { off := 0x208, n := 32, stride := 0x10 },                     -- ALV_CNT R453
  { off := 0x20C, n := 32, stride := 0x10, act := allBits } ]    -- ALV_FEED R453

/-- CRCU (14). -/
def rowsCRCU : List RegRow := [
  { off := 0x040, act := 0x8000_00FF },                          -- FEED_OP_CMD R456
  { off := 0x044 },                                              -- FEED_OP_STAT R456
  { off := 0x048, rw := allBits },                               -- FEED_OP_ARG0 R456
  { off := 0x04C, rw := 0x1FF_FFFF },                            -- FEED_OP_ARG1 R456
  { off := 0x050, rw := 7 },                                     -- FEED_OP_ARG2 R456
  { off := 0x100, n := 8, stride := 0x40, rw := 0x37F, reset := 0x20 },  -- CTX_CFG R454
  { off := 0x104, n := 8, stride := 0x40, rw := allBits },       -- POLY_LO R454
  { off := 0x108, n := 8, stride := 0x40, rw := allBits },       -- POLY_HI R454
  { off := 0x10C, n := 8, stride := 0x40, rw := allBits },       -- INIT_LO R454
  { off := 0x110, n := 8, stride := 0x40, rw := allBits },       -- INIT_HI R454
  { off := 0x114, n := 8, stride := 0x40, rw := allBits },       -- XOR_LO R454
  { off := 0x118, n := 8, stride := 0x40, rw := allBits },       -- XOR_HI R454
  { off := 0x11C, n := 8, stride := 0x40, rw := allBits },       -- VAL_LO R454
  { off := 0x120, n := 8, stride := 0x40, rw := allBits },       -- VAL_HI R454
  { off := 0x124, n := 8, stride := 0x40 },                      -- RES_LO R454
  { off := 0x128, n := 8, stride := 0x40 },                      -- RES_HI R454
  { off := 0x12C, n := 8, stride := 0x40, act := 1 },            -- CTX_CMD R454
  { off := 0x130, n := 8, stride := 0x40, act := 0xFF },         -- FEED_B R454
  { off := 0x134, n := 8, stride := 0x40, act := allBits },      -- FEED_W R454
  { off := 0x138, n := 8, stride := 0x40 },                      -- reserved R458
  { off := 0x13C, n := 8, stride := 0x40 } ]                     -- reserved R458

end Sys2Proof.Machine
end

