-- ==== Sys2Proof/Machine/RegMap.lean ====
section
/-! DEFINITION. The page table of R41, the header of every page (R42), and the lookup of a BAR0 offset in the register
tables. -/
namespace Sys2Proof.Machine

/-- The blocks of R41. -/
inductive Block
  | SYS | PWR | THM | HST | BUS | DRC | OBS | TB | REF | CRCU | TRI | STK | UHL | NET | STRM | CG | SAP | INC | MTX | REN
  | SPK | CNV | DSP | DSPSH
  deriving DecidableEq, Repr

/-- The block and instance of a page; none for an unpopulated page (R41). -/
def blockOf (p : Nat) : Option (Block × Nat) :=
  if p = 0 then some (.SYS, 0) else if p = 1 then some (.PWR, 0) else if p = 2 then some (.THM, 0)
  else if p = 3 then some (.HST, 0) else if p = 4 then some (.BUS, 0) else if p ≤ 6 then some (.DRC, p - 5)
  else if p = 7 then some (.OBS, 0) else if p = 8 then some (.TB, 0) else if p = 9 then some (.REF, 0)
  else if p = 10 then some (.CRCU, 0) else if p = 11 then some (.TRI, 0) else if p = 12 then some (.STK, 0)
  else if p ≤ 14 then some (.UHL, p - 13) else if p ≤ 16 then some (.NET, p - 15)
  else if p ≤ 24 then some (.STRM, p - 17) else if p < 32 then none
  else if p ≤ 47 then some (.CG, p - 32) else if p < 64 then none
  else if p ≤ 127 then some (.SAP, p - 64) else if p ≤ 143 then some (.INC, p - 128)
  else if p ≤ 151 then some (.MTX, p - 144) else if p < 160 then none
  else if p ≤ 191 then some (.REN, p - 160) else if p ≤ 255 then some (.SPK, p - 192)
  else if p ≤ 263 then some (.CNV, p - 256) else if p < 272 then none
  else if p ≤ 287 then some (.DSP, p - 272) else if p = 288 then some (.DSPSH, 16) else none

/-- The type code of a block (R41). -/
def typeCode : Block → Nat
  | .SYS => 0x001 | .PWR => 0x002 | .THM => 0x003 | .HST => 0x0D0 | .BUS => 0x060 | .DRC => 0x061 | .OBS => 0x070
  | .TB => 0x010 | .REF => 0x011 | .CRCU => 0x051 | .TRI => 0x050 | .STK => 0x041 | .UHL => 0x040 | .NET => 0x030
  | .STRM => 0x031 | .CG => 0x020 | .SAP => 0x021 | .INC => 0x080 | .MTX => 0x090 | .REN => 0x0A0 | .SPK => 0x0B0
  | .CNV => 0x0B1 | .DSP => 0x0C0 | .DSPSH => 0x0C0

/-- The interrupt causes a page's IRQ_RAW has (the IRQ_RAW table of each chapter); instance 0 holds them where a block
has several header-only pages. -/
def irqMask (b : Block) (inst : Nat) : Nat :=
  match b with
  | .SYS => 0x8000_0003 | .PWR => 0x8000_001F | .THM => 7 | .HST => 0 | .BUS => 0x1F | .DRC => 0x7F
  | .OBS => 0x8000_0007 | .TB => 0x0FFF_FFFF | .REF => 0xFFF | .CRCU => 0x8000_0000 | .TRI => 0x8000_03FF | .STK => 0x7FF
  | .UHL => 0xF | .NET => 0x1_FFFF | .STRM => if inst = 0 then 0xFF else 0
  | .CG => if inst = 0 then 0x1FFF else 0x17FF
  | .SAP => 1 | .INC => if inst = 0 then 0xFF else 0 | .MTX => if inst = 0 then 0x8000_003F else 0
  | .REN => if inst = 0 then 0x1FFF else 0 | .SPK => if inst = 0 then 0x19F else 0
  | .CNV => if inst = 0 then 0x8000_0007 else 0 | .DSP => 0x3F | .DSPSH => 3

/-- PAGE_CAP of a page (R42 and the header paragraph of each chapter). -/
def capOf (b : Block) (inst : Nat) : Nat :=
  let banks := 0x8000_0000
  let op := 0x4000_0000
  let win := 0x2000_0000
  match b with
  | .SYS => op | .PWR => op | .THM => 8 | .HST => 0 | .BUS => 0x60A | .DRC => 0 | .OBS => op + 0x100
  | .TB => banks + 0x10C | .REF => 0xA | .CRCU => op + 8 | .TRI => op | .STK => banks | .UHL => 0 | .NET => 0
  | .STRM => if inst = 0 then banks else 0
  | .CG => 0 | .SAP => banks | .INC => banks | .MTX => if inst = 0 then banks + op else banks
  | .REN => if inst = 0 then banks + win else 0
  | .SPK => if inst = 0 then banks + win else banks
  | .CNV => if inst = 0 then banks + op + win else if inst ≤ 4 then banks else 0
  | .DSP => banks + win | .DSPSH => 0

/-- The controller pages of R171. -/
def isCtrlPage (p : Nat) : Bool :=
  p == 160 || p == 144 || p == 192 || p == 256 || p == 128 || (decide (272 ≤ p) && decide (p ≤ 287)) || p == 8 || p == 64
    || p == 17 || p == 12

/-- ENABLE after reset (R42); a strapped stack member's UHL and STK are set at the strap sampling. -/
def enableReset : Block → Nat
  | .SYS => 1 | .HST => 1 | .BUS => 1 | .OBS => 1 | _ => 0

/-- The block registers of a page (offsets from 0x040). -/
def blockRows (b : Block) (inst : Nat) : List RegRow :=
  match b with
  | .SYS => rowsSYS | .PWR => rowsPWR | .THM => rowsTHM | .HST => rowsHST | .BUS => rowsBUS | .DRC => rowsDRC
  | .OBS => rowsOBS | .TB => rowsTB | .REF => rowsREF | .CRCU => rowsCRCU | .TRI => rowsTRI | .STK => rowsSTK
  | .UHL => rowsUHL | .NET => rowsNET
  | .STRM => if inst = 0 then rowsSTRM0 else if inst ≤ 4 then rowsSTRMrx else if inst ≤ 6 then rowsSTRMtx else []
  | .CG => rowsCG ++ rowsMCLK (decide (inst < 4)) ++ (if inst = 0 then rowsSG else [])
  | .SAP => rowsSAP
  | .INC => if inst = 0 then rowsINC0 else rowsINCch
  | .MTX => if inst = 0 then rowsMTX0 else rowsMTXmap
  | .REN => if inst = 0 then rowsREN0 else if inst ≤ 8 then rowsRENobj else if inst ≤ 16 then rowsRENpos else []
  | .SPK => if inst = 0 then rowsSPK0 else rowsSPKch
  | .CNV => if inst = 0 then rowsCNV0 else if inst ≤ 4 then rowsCNVch else []
  | .DSP => rowsDSP | .DSPSH => rowsDSPSH

/-- The row of a table that holds an offset. -/
def rowAt (rows : List RegRow) (off : Nat) : Option RegRow :=
  rows.find? (fun r => decide (r.off ≤ off) && decide ((off - r.off) % r.stride = 0) && decide ((off - r.off) / r.stride < r.n))

/-- The page of a BAR0 offset, and the offset in it (R40). -/
def pageOf (a : Nat) : Nat := a / 0x1000
/-- The offset of a BAR0 offset in its page (R40). -/
def offOf (a : Nat) : Nat := a % 0x1000
/-- The BAR0 offset of a register (R40). -/
def ra (p off : Nat) : Nat := p * 0x1000 + off

/-- The register at a BAR0 offset; none where nothing is defined (R49). -/
def rowOf (a : Nat) : Option RegRow :=
  match blockOf (pageOf a) with
  | none => none
  | some (b, inst) =>
    if offOf a < 0x40 then rowAt (headRows (enableReset b) (irqMask b inst) (isCtrlPage (pageOf a))) (offOf a)
    else rowAt (blockRows b inst) (offOf a)

/-- PAGE_ID of a page (R42, R43). -/
def pageId (p : Nat) : Nat :=
  match blockOf p with
  | none => 0
  | some (b, inst) => typeCode b * 2 ^ 20 + inst * 2 ^ 12 + 0x200

/-- PAGE_CAP of a page (R42). -/
def pageCap (p : Nat) : Nat :=
  match blockOf p with
  | none => 0
  | some (b, inst) => capOf b inst

/-- The reset value of a register word; window words and pool entries reset to 0 (R119, R171). -/
def regReset (a : Nat) : Word :=
  if a < 0x40_0000 then
    if offOf a = 0 then BitVec.ofNat 32 (pageId (pageOf a))
    else if offOf a = 4 then BitVec.ofNat 32 (pageCap (pageOf a))
    else match rowOf a with
      | some r => BitVec.ofNat 32 r.reset
      | none => 0
  else 0

-- page numbers of R41
def pSYS : Nat := 0
def pPWR : Nat := 1
def pTHM : Nat := 2
def pHST : Nat := 3
def pBUS : Nat := 4
def pDRC (c : Nat) : Nat := 5 + c
def pOBS : Nat := 7
def pTB : Nat := 8
def pREF : Nat := 9
def pCRCU : Nat := 10
def pTRI : Nat := 11
def pSTK : Nat := 12
def pUHL (s : Nat) : Nat := 13 + s
def pNET (x : Nat) : Nat := 15 + x
def pSTRM : Nat := 17
def pCG (i : Nat) : Nat := 32 + i
def pSAP (p : Nat) : Nat := 64 + p
def pINC : Nat := 128
def pMTX : Nat := 144
def pREN : Nat := 160
def pSPK : Nat := 192
def pCNV : Nat := 256
def pDSP (c : Nat) : Nat := 272 + c
def pDSPSH : Nat := 288

end Sys2Proof.Machine
end

