-- ==== Sys2Proof/Machine/Sparse.lean ====
section
/-! DEFINITION. Sparse maps in one canonical form: lists of (key, value) with strictly rising keys and no entry equal to
what an unlisted key reads as. DRAM, window memories, histories and the register file are all held so. -/
namespace Sys2Proof.Machine

/-- What key k reads as, with d the value of unlisted keys. -/
def mget {α : Type} (d : Nat → α) : List (Nat × α) → Nat → α
  | [], k => d k
  | (k', v) :: r, k => if k' = k then v else if k < k' then d k else mget d r k

/-- The entries past key k. -/
def mpast {α : Type} : List (Nat × α) → Nat → List (Nat × α)
  | [], _ => []
  | (k', v) :: r, k => if k' ≤ k then mpast r k else (k', v) :: r

/-- The map with key k reading v; writing the unlisted value removes the entry. -/
def mset {α : Type} [DecidableEq α] (d : Nat → α) : List (Nat × α) → Nat → α → List (Nat × α)
  | [], k, v => if v = d k then [] else [(k, v)]
  | (k', v') :: r, k, v =>
    if k' < k then (k', v') :: mset d r k v
    else if k' = k then (if v = d k then mpast r k else (k, v) :: r)
    else (if v = d k then (k', v') :: r else (k, v) :: (k', v') :: r)

/-- The canonical form: keys strictly rising, no entry at its unlisted value. -/
def mwf {α : Type} [DecidableEq α] (d : Nat → α) : List (Nat × α) → Bool
  | [] => true
  | (k, v) :: r =>
    decide (v ≠ d k) && (match r with
      | [] => true
      | (k', _) :: _ => decide (k < k')) && mwf d r

/-- The entries of key lo or more that a read can reach: all of them in a list of rising keys. -/
def mfrom {α : Type} : Nat → List (Nat × α) → List (Nat × α)
  | _, [] => []
  | lo, (k, v) :: r => if lo ≤ k then (k, v) :: mfrom (k + 1) r else mfrom lo r

/-- The entries whose key satisfies p. -/
def mfilter {α : Type} (p : Nat → Bool) (m : List (Nat × α)) : List (Nat × α) := (mfrom 0 m).filter (fun e => p e.1)

/-- Keys lo to hi - 1 taken from src, all others from dst. -/
def mcopy {α : Type} (lo hi : Nat) (src dst : List (Nat × α)) : List (Nat × α) :=
  mfilter (fun k => decide (k < lo)) dst ++ mfilter (fun k => decide (lo ≤ k) && decide (k < hi)) src
    ++ mfilter (fun k => decide (hi ≤ k)) dst

/-- Keys lo to hi - 1 returned to the unlisted value. -/
def mclear {α : Type} (lo hi : Nat) (m : List (Nat × α)) : List (Nat × α) :=
  mfilter (fun k => decide (k < lo) || decide (hi ≤ k)) m

/-- Writes consecutive keys from k. -/
def msets {α : Type} [DecidableEq α] (d : Nat → α) (m : List (Nat × α)) (k : Nat) : List α → List (Nat × α)
  | [] => m
  | v :: r => msets d (mset d m k v) (k + 1) r

/-- Reads n consecutive keys from k. -/
def mgets {α : Type} (d : Nat → α) (m : List (Nat × α)) (k : Nat) : Nat → List α
  | 0 => []
  | n + 1 => mget d m k :: mgets d m (k + 1) n

/-- A constant unlisted value. -/
def zeroI (_ : Nat) : Int := 0
/-- A constant unlisted value. -/
def zeroN (_ : Nat) : Nat := 0
/-- A constant unlisted value. -/
def zeroW (_ : Nat) : Word := 0
/-- A constant unlisted value. -/
def zeroB (_ : Nat) : Byte := 0
/-- A constant unlisted value. -/
def falseB (_ : Nat) : Bool := false
/-- A constant unlisted value. -/
def noneO {α : Type} (_ : Nat) : Option α := none

end Sys2Proof.Machine
end

