-- ==== Sys2Proof/Machine/StateFabric.lean ====
section
/-! DEFINITION. The state of the register fabric, of the memories, of the bus matrix and of the host, power, observation and
JTAG units (chapters 02, 15, 16, 17, 18). Plain data throughout. -/
namespace Sys2Proof.Machine

/-- One MSI-X message sent (R59, R60): vector, address and data of its table entry. -/
structure Msg where
  vec : Nat
  addr : Nat
  data : Nat
  deriving DecidableEq, Repr

/-- The register fabric (02, 05, 17). -/
structure Fabric where
  /-- unbanked registers by BAR0 byte offset; an unlisted one holds its reset value -/
  regs : List (Nat × Word)
  /-- bank A of every bank unit: RWB registers and windows by BAR0 offset, nodes and express entries above 2^24 (R171) -/
  bank0 : List (Nat × Word)
  /-- bank B -/
  bank1 : List (Nat × Word)
  /-- per-requester registers, key requester · 2^24 + offset (R143, R155, R169, R519) -/
  own : List (Nat × Word)
  /-- holding registers: per requester the words latched by the last latching read (R48, R147, R299) -/
  hold : List (Nat × List (Nat × Word))
  /-- the value the last read of each requester returned -/
  rdata : List (Nat × Nat)
  /-- armed state of the 64 vectors (R60) -/
  armed : BitVec 64
  /-- MSI-X messages sent, oldest first (R60) -/
  msgs : List Msg
  /-- status registers of operations with a late abort request (R73) -/
  late : List Nat
  /-- pages whose soft reset waits for a committed operation (R75), and DRC pages whose soft reset has not completed (R488) -/
  rstWait : List Nat
  /-- WRAP_COUNT, TIME_NS, TIME_FRAC (R293) -/
  time : BitVec 72
  /-- MSC (R301) -/
  msc : BitVec 64
  /-- crumb queues of the source pages (R515) -/
  crumbQ : List (Nat × List (BitVec 128))
  /-- the collector's FIFO (R515) -/
  fifo : List (BitVec 128)
  /-- crumbs discarded per source page since its last LOST crumb (R517) -/
  lost : List (Nat × Nat)
  /-- live event counters (R521) -/
  cnt : List (Nat × Nat)
  /-- readable shadow of the event counters (R521) -/
  cntShadow : List (Nat × Nat)
  /-- on-chip trace ring (R516) -/
  ring : List (Nat × BitVec 128)
  /-- crumbs of a DRAM line not yet written (R516) -/
  ringLine : List (Nat × BitVec 128)
  deriving DecidableEq, Repr

/-- The fabric after reset. -/
def Fabric.reset : Fabric where
  regs := []
  bank0 := []
  bank1 := []
  own := []
  hold := []
  rdata := []
  armed := BitVec.allOnes 64
  msgs := []
  late := []
  rstWait := []
  time := 0
  msc := 0
  crumbQ := []
  fifo := []
  lost := []
  cnt := []
  cntShadow := []
  ring := []
  ringLine := []

/-- Errors held in one DRAM codeword (R462, R464, R474): symbol patterns XORed in, and the poison pattern. -/
structure CwErr where
  syms : List (Nat × Nat)
  poison : Bool
  deriving DecidableEq, Repr

/-- A codeword without error. -/
def CwErr.none : CwErr := ⟨[], false⟩

/-- A request in the bus matrix (R477 to R482): one burst, within one 64-byte line. -/
structure BusReq where
  master : Nat
  id : Nat
  /-- the RT side of the engine streamer (R480) -/
  rt : Bool
  addr : Nat
  /-- bytes asked for by a read, or the burst length of a write -/
  len : Nat
  /-- none for a read; else the bytes delivered so far with their strobes -/
  wdata : Option (List (Byte × Bool))
  aged : Bool
  deriving DecidableEq, Repr

/-- One DRAM controller's queues (R469 to R471). -/
structure Drc where
  /-- write queue, in arrival order -/
  wq : List BusReq
  /-- read queue, in arrival order -/
  rq : List BusReq
  /-- a write batch runs -/
  batch : Bool
  /-- the batch was ended by time, so reads come first -/
  readsFirst : Bool
  /-- refreshes postponed (R471) -/
  postponed : Nat
  /-- bank of the next refresh (R471) -/
  refBank : Nat
  /-- a tracking that waits for the running batch to end, with its duration in ns (R472) -/
  track : Option Nat
  deriving DecidableEq, Repr

def Drc.reset : Drc := ⟨[], [], false, false, 0, 0, none⟩

/-- Memories outside the register fabric (15, 16). -/
structure MemState where
  /-- DRAM data bytes by DRAM byte address (R460) -/
  dram : List Host.Cell
  /-- codewords with errors, key address / 16 -/
  ecc : List (Nat × CwErr)
  /-- shared SRAM by byte offset (R476) -/
  shared : List Host.Cell
  /-- keep SRAM by word index (R476, R511) -/
  keep : List (Nat × Word)
  ch0 : Drc
  ch1 : Drc
  deriving DecidableEq, Repr

def MemState.reset : MemState := ⟨[], [], [], [], Drc.reset, Drc.reset⟩

/-- One response delivered to a master (R482). -/
structure BusRsp where
  master : Nat
  id : Nat
  addr : Nat
  data : List Byte
  poison : Bool
  deriving DecidableEq, Repr

/-- A fence in progress (R485): the master, the IDs it fences (none for all of them), and the page it releases. -/
structure Fence where
  master : Nat
  ids : Option (List Nat)
  page : Nat
  deriving DecidableEq, Repr

/-- The bus matrix (15). -/
structure BusState where
  /-- requests accepted by a target whose response has not been returned, in issue order; with the data and poison of one
  that has completed (R482) -/
  outst : List (BusReq × Option (List Byte × Bool))
  /-- requests held at their port or in the matrix, in issue order (R481, R482) -/
  held : List BusReq
  /-- the last response delivered to each master and ID -/
  rsp : List BusRsp
  fences : List Fence
  deriving DecidableEq, Repr

def BusState.reset : BusState := ⟨[], [], [], []⟩

/-- One DMA descriptor as read from host memory (R64). -/
structure Desc where
  src : BitVec 64
  dst : BitVec 64
  len : Word
  ctrl : Word
  deriving DecidableEq, Repr

/-- A descriptor in progress on a DMA channel (R65). -/
structure DmaJob where
  desc : Desc
  /-- STATUS code found at the start: 1 bad length, 2 bad address, else 0 -/
  code : Nat
  deriving DecidableEq, Repr

/-- The host interfaces (02): DMA channels, QSPI target, PCIe link. -/
structure HostState where
  /-- descriptor in progress per channel 0-7 -/
  jobs : List (Nat × Option DmaJob)
  /-- data and STATUS words written to host memory: address and bytes, oldest first -/
  toHost : List (Nat × List Byte)
  /-- posted QSPI writes not yet performed: address and word (R69) -/
  posted : List (Nat × Word)
  /-- a QSPI read command is in progress -/
  active : Bool
  /-- a word of the read that comes over the stack: tag of its remote access, the address after it, words still asked for -/
  wait : Option (Nat × Nat × Nat)
  /-- words answered by the command in progress: preamble byte and word (R68) -/
  out : List (Byte × Word)
  /-- the read command was ended by 0x5A (R68) -/
  ended : Bool
  wrErr : Bool
  rdTimeout : Bool
  frameErr : Bool
  deriving DecidableEq, Repr

def HostState.reset : HostState := ⟨[], [], [], false, none, [], false, false, false, false⟩

/-- Power states of R489. -/
inductive PState
  | active
  | quiet
  | retain
  | deep
  deriving DecidableEq, Repr

/-- The power controller, governor and reset logic (16, 18). -/
structure PwrState where
  state : PState
  /-- PWRGOOD is high -/
  pwrgood : Bool
  /-- RESET_N is high and acts -/
  resetN : Bool
  /-- OSC_IN is present (R557) -/
  osc : Bool
  /-- PLLs locked since reset (R510) -/
  locked : Bool
  /-- THERMTRIP_N is low (R503) -/
  tripped : Bool
  /-- a wake source is pending (R497) -/
  wakePend : BitVec 5
  /-- IOBANK_SEL as read while VDDIO_A rose (R528) -/
  iobank : Bool
  /-- boost is granted (R505) -/
  boost : Bool
  /-- 4 ns ticks left of a change of the DS clock (R289, R292) -/
  freqWait : Nat
  /-- boost is held off after a current limit (R505) -/
  holdoff : Bool
  /-- for levels 1 to 3: the milliseconds TJ has stayed at or below the release value; none above it (R501) -/
  relMs : List (Option Nat)
  /-- TIME at which START was accepted (R507) -/
  startAt : Nat
  /-- the comparator a pending start waits for has fired (R507) -/
  startTrig : Bool
  /-- MSC of the first faded sample of STOP (R508) -/
  stopFrom : Option Nat
  /-- MSC of the first faded sample of the thermal shutdown (R502) -/
  shutFrom : Option Nat
  /-- the last wall block the engine has run: one more than its number, 0 for none (R33) -/
  lastBlock : Nat
  /-- the controller pages locked by the scene operation (R181) -/
  sceneUnits : List Nat
  deriving DecidableEq, Repr

def PwrState.reset : PwrState where
  state := .active
  pwrgood := true
  resetN := true
  osc := true
  locked := false
  tripped := false
  wakePend := 0
  iobank := false
  boost := false
  freqWait := 0
  holdoff := false
  relMs := [none, none, none]
  startAt := 0
  startTrig := false
  stopFrom := none
  shutFrom := none
  lastBlock := 0
  sceneUnits := []

/-- The instructions of the TAP (R524). -/
inductive TapInstr
  | extest
  | idcode
  | sample
  | clamp
  | highz
  | extestPulse
  | extestTrain
  | bypass
  deriving DecidableEq, Repr

/-- The JTAG port (17, 18). -/
structure TapState where
  instr : TapInstr
  /-- the boundary register's update latches (R543) -/
  boundary : List Bool
  /-- the data register the instruction selects, as last captured, the bit nearest TDO first -/
  dr : List Bool
  deriving DecidableEq, Repr

def TapState.reset : TapState := ⟨.idcode, [], []⟩

end Sys2Proof.Machine
end

