-- ==== Sys2Proof/Machine/FabOps.lean ====
section
/-! DEFINITION. The named operations of the register fabric: reading and writing a register in its one home, raising an
interrupt cause, recording an error, MSI-X messages, crumbs and event counters, long operations (02, 05, 17). -/
namespace Sys2Proof.Machine

/-- An unbanked register. -/
def rdR (f : Fabric) (a : Nat) : Word := mget regReset f.regs a
/-- Writes an unbanked register. -/
def wrR (f : Fabric) (a : Nat) (w : Word) : Fabric := { f with regs := mset regReset f.regs a w }
/-- A register as a number. -/
def rdN (f : Fabric) (a : Nat) : Nat := (rdR f a).toNat
/-- Writes a register from a number, modulo 2^32. -/
def wrN (f : Fabric) (a v : Nat) : Fabric := wrR f a (BitVec.ofNat 32 v)
/-- Replaces bits [hi:lo] of a register. -/
def putF (f : Fabric) (a hi lo v : Nat) : Fabric := wrR f a (setFld (rdR f a) hi lo v)
/-- Bits [hi:lo] of a register. -/
def getF (f : Fabric) (a hi lo : Nat) : Nat := fld (rdR f a) hi lo
/-- Bit n of a register. -/
def getB (f : Fabric) (a n : Nat) : Bool := bit (rdR f a) n
/-- Sets bit n of a register. -/
def putB (f : Fabric) (a n : Nat) (b : Bool) : Fabric := wrR f a (setBit (rdR f a) n b)
/-- Adds to a 32-bit counter that saturates. -/
def bump (f : Fabric) (a : Nat) (n : Nat := 1) : Fabric := wrN f a (incSat 32 (rdN f a) n)
/-- Adds to a field counter that saturates. -/
def bumpF (f : Fabric) (a hi lo : Nat) (n : Nat := 1) : Fabric :=
  putF f a hi lo (incSat (hi + 1 - lo) (getF f a hi lo) n)
/-- Adds to a 32-bit counter that wraps. -/
def bumpW (f : Fabric) (a : Nat) (n : Nat := 1) : Fabric := wrN f a (rdN f a + n)

/-- A per-requester register (requester number of R50). -/
def rdO (f : Fabric) (q a : Nat) : Word := mget (fun k => regReset (k % 2 ^ 24)) f.own (q * 2 ^ 24 + a)
/-- Writes a per-requester register. -/
def wrO (f : Fabric) (q a : Nat) (w : Word) : Fabric :=
  { f with own := mset (fun k => regReset (k % 2 ^ 24)) f.own (q * 2 ^ 24 + a) w }

/-- A word of bank A (false) or B (true). -/
def rdB (f : Fabric) (b : Bool) (a : Nat) : Word := mget regReset (if b then f.bank1 else f.bank0) a
/-- Writes a word of a bank. -/
def wrB (f : Fabric) (b : Bool) (a : Nat) (w : Word) : Fabric :=
  if b then { f with bank1 := mset regReset f.bank1 a w } else { f with bank0 := mset regReset f.bank0 a w }
/-- Which bank of a controller page's unit is active (R171). -/
def actB (f : Fabric) (ctrl : Nat) : Bool := getB f (ra ctrl 0x28) 0
/-- A word of the unit's active bank. -/
def rdAct (f : Fabric) (ctrl a : Nat) : Word := rdB f (actB f ctrl) a
/-- A word of the unit's shadow bank. -/
def rdShd (f : Fabric) (ctrl a : Nat) : Word := rdB f (!actB f ctrl) a
/-- Writes a word of the unit's shadow bank and marks it DIRTY (R171). -/
def wrShd (f : Fabric) (ctrl a : Nat) (w : Word) : Fabric :=
  putB (wrB f (!actB f ctrl) a w) (ra ctrl 0x2C) 3 true

/-- The keys above BAR0 at which the node pool holds node (s, d): its gain, then XF_LEN and LAW (R154). -/
def nodeKey (s d : Nat) : Nat := 2 ^ 28 + (d * 2048 + s) * 2
/-- The keys at which express entry e holds its endpoints, gain and configuration (R168). -/
def xrKey (e : Nat) : Nat := 2 ^ 29 + e * 4
/-- The keys of stream entry n's 16 words; RX entries first, then TX (R385). -/
def strKey (tx : Bool) (n : Nat) : Nat := 2 ^ 29 + 2 ^ 16 + (tx.toNat * 512 + n) * 16
/-- The keys of the stack's tables: table t, entry i (R422). -/
def stkKey (t i : Nat) : Nat := 2 ^ 29 + 2 ^ 20 + t * 8192 + i

/-- The ranges of bank words that belong to a controller page's unit (R171 and each chapter). -/
def unitRanges (ctrl : Nat) : List (Nat × Nat) :=
  if ctrl = 144 then [(0x9_0000, 0x9_8000), (2 ^ 28, 2 ^ 29), (2 ^ 29, 2 ^ 29 + 2048)]
  else if ctrl = 160 then [(0xA_0000, 0xC_0000), (0x40_0000, 0x60_0000)]
  else if ctrl = 192 then [(0xC_0000, 0x10_0000), (0x60_0000, 0x68_0000), (0x70_0000, 0x80_0000)]
  else if ctrl = 256 then [(0x10_0000, 0x10_8000), (0x68_0000, 0x70_0000), (2 ^ 30, 2 ^ 30 + 2 ^ 25)]
  else if ctrl = 128 then [(0x8_0000, 0x9_0000)]
  else if ctrl = 8 then [(0x8000, 0x9000)]
  else if ctrl = 64 then [(0x4_0000, 0x8_0000)]
  else if ctrl = 17 then [(2 ^ 29 + 2 ^ 16, 2 ^ 29 + 2 ^ 16 + 2 ^ 14)]
  else if ctrl = 12 then [(0xC000, 0xD000), (2 ^ 29 + 2 ^ 20, 2 ^ 29 + 2 ^ 20 + 4 * 8192)]
  else if 272 ≤ ctrl ∧ ctrl ≤ 287 then [(0x83_8000 + (ctrl - 272) * 0x4_0000, 0x83_A000 + (ctrl - 272) * 0x4_0000)]
  else []

/-- The controller pages in ascending order (R171). -/
def ctrlPages : List Nat :=
  [8, 12, 17, 64, 128, 144, 160, 192, 256] ++ (upto 16).map (· + 272)

/-- Copies a unit's active bank into its shadow (R178). -/
def copyUnit (f : Fabric) (ctrl : Nat) : Fabric :=
  (unitRanges ctrl).foldl (fun f r =>
    if actB f ctrl then { f with bank0 := mcopy r.1 r.2 f.bank1 f.bank0 }
    else { f with bank1 := mcopy r.1 r.2 f.bank0 f.bank1 }) f

/-- Both banks of a unit returned to their reset values. -/
def clearUnit (f : Fabric) (ctrl : Nat) : Fabric :=
  (unitRanges ctrl).foldl (fun f r =>
    { f with bank0 := mclear r.1 r.2 f.bank0, bank1 := mclear r.1 r.2 f.bank1 }) f

/-- TIME_NS (R293). -/
def timeNs (f : Fabric) : Nat := (f.time.toNat / 2 ^ 32) % 2 ^ 32
/-- TIME_FRAC (R293). -/
def timeFrac (f : Fabric) : Nat := f.time.toNat % 2 ^ 32
/-- WRAP_COUNT (R293). -/
def timeWrap (f : Fabric) : Nat := f.time.toNat / 2 ^ 64
/-- {WRAP_COUNT, TIME_NS}, a count of nanoseconds modulo 2^40 (R296). -/
def time40 (f : Fabric) : Nat := f.time.toNat / 2 ^ 32

-- Interrupts (02)

/-- IRQ_PEND of a page (R42). -/
def irqPend (f : Fabric) (p : Nat) : Word := rdR f (ra p 0x10) &&& rdR f (ra p 0x14)

/-- The pages whose PAGE_VEC entry is enabled, with their vector (R60). -/
def vecPages (f : Fabric) : List (Nat × Nat) :=
  (mfilter (fun k => decide (0x3100 ≤ k) && decide (k < 0x3584)) f.regs).filterMap (fun e =>
    if bit e.2 8 then some ((e.1 - 0x3100) / 4, fld e.2 5 0) else none)

/-- The cause of a vector (R60). -/
def vecCause (f : Fabric) (v : Nat) : Bool :=
  (vecPages f).any (fun e => e.2 == v && (blockOf e.1).isSome && irqPend f e.1 != 0) ||
  (upto 8).any (fun c => getF f (ra pHST (0x614 + 0x20 * c)) 13 8 == v && getB f (ra pHST (0x618 + 0x20 * c)) 1)

/-- Sends the message of an armed vector whose cause is 1, or sets its pending bit, and disarms it (R60). -/
def serviceVec (f : Fabric) (v : Nat) : Fabric :=
  if f.armed.getLsbD v && vecCause f v then
    let f := { f with armed := f.armed &&& ~~~(1#64 <<< v) }
    if getB f (ra pHST (0x80C + 16 * v)) 0 then putB f (ra pHST (0xC00 + 4 * (v / 32))) (v % 32) true
    else { f with msgs := f.msgs ++ [⟨v, rdN f (ra pHST (0x804 + 16 * v)) * 2 ^ 32 + rdN f (ra pHST (0x800 + 16 * v)),
      rdN f (ra pHST (0x808 + 16 * v))⟩] }
  else f

/-- Services the vector a page is mapped to (R60). -/
def irqPage (f : Fabric) (p : Nat) : Fabric :=
  let pv := rdR f (ra pHST (0x100 + 4 * p))
  if bit pv 8 then serviceVec f (fld pv 5 0) else f

/-- Services every vector, in order (after a change that may raise several causes). -/
def irqAll (f : Fabric) : Fabric := (upto 64).foldl serviceVec f

/-- IRQ_N is driven low (R62). -/
def irqN (f : Fabric) : Bool :=
  (upto 64).any (fun v => getB f (ra pHST (0x4C + 4 * (v / 32))) (v % 32) && vecCause f v)

-- Observation (17)

/-- The SOURCE code of a page (R513). -/
def srcCode (p : Nat) : Nat :=
  match blockOf p with
  | none => 0
  | some (b, _) => typeCode b % 256
/-- The instance of a page. -/
def instOf (p : Nat) : Nat :=
  match blockOf p with
  | none => 0
  | some (_, i) => i

/-- The crumb of an event (R513). -/
def mkCrumb (f : Fabric) (src ev inst payload : Nat) : BitVec 128 :=
  BitVec.ofNat 128 (timeNs f * 2 ^ 96 + src * 2 ^ 88 + ev * 2 ^ 80 + inst % 2 ^ 16 * 2 ^ 64 + payload % 2 ^ 64)

/-- Counts an event in every counter that selects it (R521). -/
def countEvent (f : Fabric) (src ev inst : Nat) : Fabric :=
  (mfilter (fun k => decide (0x7400 ≤ k) && decide (k < 0x7800)) f.regs).foldl (fun f e =>
    let w := e.2
    let i := (e.1 - 0x7400) / 4
    if bit w 31 && fld w 7 0 == src && (bit w 29 || fld w 15 8 == ev) && (bit w 28 || fld w 27 16 == inst % 4096) then
      { f with cnt := mset zeroN f.cnt i ((mget zeroN f.cnt i + 1) % 2 ^ 64) }
    else f) f

/-- The crumb queue of a source page. -/
def crumbsOf (f : Fabric) (p : Nat) : List (BitVec 128) := mget (fun _ => []) f.crumbQ p

/-- Counts a discarded crumb of a page and sets OBS.IRQ_RAW[1] (R517). -/
def countDiscard (f : Fabric) (p : Nat) : Fabric :=
  let f := bump f (ra pOBS 0x58)
  let f := { f with lost := mset zeroN f.lost p (mget zeroN f.lost p + 1) }
  irqPage (wrR f (ra pOBS 0x10) (rdR f (ra pOBS 0x10) ||| 2)) pOBS

/-- Queues the LOST crumb of a source page where one is due and its queue has room (R517). -/
def queueLost (f : Fabric) (p : Nat) : Fabric :=
  let n := mget zeroN f.lost p
  if n ≠ 0 ∧ (crumbsOf f p).length < 4 then
    let c := mkCrumb f 0x70 0x3F (srcCode p) n
    { f with crumbQ := mset (fun _ => []) f.crumbQ p (crumbsOf f p ++ [c]), lost := mset zeroN f.lost p 0 }
  else f

/-- Whether the filters of R515 let an event of a page through. -/
def crumbPasses (f : Fabric) (p ev : Nat) : Bool :=
  let cfg := rdR f (ra pOBS 0x40)
  let src := srcCode p
  getB f (ra pOBS 0x08) 0 && (ev == 0x30 || getB f (ra pOBS (0x60 + 4 * (src / 32))) (src % 32)) &&
    (if ev < 32 then bit cfg 8 && (!bit cfg 9 || getB f (ra p 0x14) ev)
     else if ev = 0x20 then bit cfg 10 else if ev = 0x21 then bit cfg 11 else if ev = 0x22 then bit cfg 12 else true)

/-- The BAR0 offset of a DMA channel's register. -/
def dmaAt (c off : Nat) : Nat := ra pHST (0x600 + 0x20 * c + off)

/-- The payload of the crumb of a set cause (R514). -/
def irqPayload (f : Fabric) (p : Nat) : Nat := rdN f (ra p 0x10) + getF f (ra p 0x20) 15 0 * 2 ^ 32

/-- The OBS page's own event of setting IRQ_RAW[n]: counted, its crumb queued where the OBS queue has room and itself counted
as discarded otherwise (R514, R517). -/
def obsOwn (f : Fabric) (n : Nat) : Fabric :=
  let f := countEvent f 0x70 n 0
  if crumbPasses f pOBS n && !getB f (ra pOBS 0x54) 1 then
    if (crumbsOf f pOBS).length < 4 then
      { f with crumbQ := mset (fun _ => []) f.crumbQ pOBS (crumbsOf f pOBS ++ [mkCrumb f 0x70 n 0 (irqPayload f pOBS)]) }
    else countDiscard f pOBS
  else f

/-- A discarded crumb: the count, and the OBS page's own event (R517). -/
def discardCrumb (f : Fabric) (p : Nat) : Fabric := obsOwn (countDiscard f p) 1

/-- The ring's crumb count N (R516). -/
def ringN (f : Fabric) : Nat := if getB f (ra pOBS 0x40) 0 then 65536 * getF f (ra pOBS 0x48) 8 0 else 4096
/-- The index that the next crumb from the FIFO takes: WR_IDX and the crumbs of a line not yet written (R516). -/
def ringNext (f : Fabric) : Nat := (getF f (ra pOBS 0x4C) 23 0 + f.ringLine.length) % ringN f
/-- The ring is full in STOP_FULL mode (R517). -/
def ringFull (f : Fabric) : Bool :=
  getB f (ra pOBS 0x40) 1 && decide (ringN f - 4 ≤ (ringNext f + ringN f - getF f (ra pOBS 0x50) 23 0 % ringN f) % ringN f)
/-- A full ring has filled the FIFO: STAT.FULL and its cause, the first time (R517). -/
def markFull (f : Fabric) : Fabric :=
  if getB f (ra pOBS 0x54) 0 then f
  else obsOwn (irqPage (wrR (putB f (ra pOBS 0x54) 0 true) (ra pOBS 0x10) (rdR f (ra pOBS 0x10) ||| 1)) pOBS) 0
/-- Shows the FIFO level (R525). -/
def showFifo (f : Fabric) : Fabric := putF f (ra pOBS 0x54) 15 8 (min 255 f.fifo.length)

/-- Puts a crumb into its source's queue, or discards it (R515, R517). -/
def pushCrumb (f : Fabric) (p : Nat) (c : BitVec 128) : Fabric :=
  if getB f (ra pOBS 0x54) 1 then discardCrumb f p
  else if 256 ≤ f.fifo.length ∧ ringFull f then discardCrumb (markFull f) p
  else
    let f := queueLost f p
    if (crumbsOf f p).length < 4 then
      { f with crumbQ := mset (fun _ => []) f.crumbQ p (crumbsOf f p ++ [c]) }
    else discardCrumb f p

/-- An observed event of a page: counted at the source, then offered as a crumb (R515, R521). -/
def observe (f : Fabric) (p ev inst payload : Nat) : Fabric :=
  let f := countEvent f (srcCode p) ev inst
  if crumbPasses f p ev then pushCrumb f p (mkCrumb f (srcCode p) ev inst payload) else f

-- Causes and errors (02)

/-- Sets IRQ_RAW[n] of a page: the cause, the crumb and the page interrupt (R42, R514, R60). -/
def raise (f : Fabric) (p n : Nat) : Fabric :=
  let f := wrR f (ra p 0x10) (rdR f (ra p 0x10) ||| BitVec.ofNat 32 (2 ^ n))
  let f := observe f p n (instOf p) (irqPayload f p)
  irqPage f p

/-- Raises a cause only where a condition holds. -/
def raiseIf (b : Bool) (f : Fabric) (p n : Nat) : Fabric := if b then raise f p n else f

/-- Records an error on a page (R44). -/
def fail (f : Fabric) (p code info : Nat) : Fabric :=
  if getB f (ra p 0x0C) 2 then putB f (ra p 0x20) 31 true
  else
    let f := wrN f (ra p 0x20) (code % 2 ^ 16)
    let f := wrN f (ra p 0x24) info
    let f := putB f (ra p 0x0C) 2 true
    observe f p 0x21 (instOf p) (code % 2 ^ 16 + info % 2 ^ 32 * 2 ^ 32)

/-- The kinds of access error of R50. -/
inductive AccKind
  | unmapped
  | size
  | notReady
  | dramReserved
  deriving DecidableEq, Repr

/-- The encoding of SYS.ACC_ERR_INFO.KIND (R50). -/
def AccKind.code : AccKind → Nat
  | .unmapped => 0
  | .size => 1
  | .notReady => 2
  | .dramReserved => 3

/-- Records an access error (R50): space 0 BAR0, 1 stack window, 2 DRAM. -/
def accErr (f : Fabric) (q space : Nat) (k : AccKind) (addr : Nat) (write : Bool) : Fabric :=
  let f :=
    if getB f (ra pSYS 0x54) 31 then putB f (ra pSYS 0x54) 30 true
    else wrN (wrN f (ra pSYS 0x50) addr) (ra pSYS 0x54)
      (2 ^ 31 + (rdN f (ra pSYS 0x54) / 2 ^ 30 % 2) * 2 ^ 30 + space * 2 ^ 10 + k.code * 2 ^ 8 + write.toNat * 2 ^ 7 + q)
  raise f pSYS 0

/-- READY of a page (R42). -/
def ready (f : Fabric) (p : Nat) : Bool := getB f (ra p 0x0C) 0
/-- ENABLE of a page (R42). -/
def enabled (f : Fabric) (p : Nat) : Bool := getB f (ra p 0x08) 0

-- Long operations (R71 to R75)

/-- The long operations of the device. -/
inductive OpId
  | swap (g : Fin 16)
  | scene
  | ld
  | cnvLoad
  | ps
  | eng
  | rejoin
  | feed
  | flush
  deriving DecidableEq, Repr

/-- The page of an operation. -/
def OpId.page : OpId → Nat
  | .swap _ => 0
  | .scene => 0
  | .ld => 144
  | .cnvLoad => 256
  | .ps => 1
  | .eng => 1
  | .rejoin => 11
  | .feed => 10
  | .flush => 7

/-- The BAR0 offset of an operation's command register. -/
def OpId.cmd : OpId → Nat
  | .swap g => 0x200 + 0x20 * g.val
  | .scene => 0x400
  | .ld => 0x9_08E0
  | .cnvLoad => 0x10_0060
  | .ps => 0x1040
  | .eng => 0x1050
  | .rejoin => 0xB080
  | .feed => 0xA040
  | .flush => 0x7090

/-- The BAR0 offset of an operation's status register; it follows the command register (R71). -/
def OpId.stat (o : OpId) : Nat := o.cmd + 4

/-- The operation codes an operation knows (R72). -/
def OpId.known (o : OpId) (op : Nat) : Bool :=
  match o with
  | .swap _ => op == 1
  | .scene => op == 1 || op == 2 || op == 3
  | .ld => op == 1 || op == 2 || op == 3
  | .cnvLoad => op == 1
  | .ps => op == 1 || op == 2 || op == 3 || op == 4
  | .eng => op == 1 || op == 2
  | .rejoin => op == 1
  | .feed => op == 1
  | .flush => op == 1

/-- Every operation. -/
def allOps : List OpId :=
  [.scene, .ld, .cnvLoad, .ps, .eng, .rejoin, .feed, .flush] ++ (List.finRange 16).map OpId.swap

/-- RESULT of an operation (R71). -/
def opResult (f : Fabric) (o : OpId) : Nat := getF f o.stat 10 8
/-- RESULT is RUNNING. -/
def opRunning (f : Fabric) (o : OpId) : Bool := opResult f o == 1
/-- COMMITTED of an operation. -/
def opCommitted (f : Fabric) (o : OpId) : Bool := getB f o.stat 11
/-- The code of the running or last operation. -/
def opLast (f : Fabric) (o : OpId) : Nat := getF f o.stat 7 0

/-- The accepted start of an operation (R72, case 6). -/
def opStart (f : Fabric) (o : OpId) (op : Nat) : Fabric :=
  { wrN f o.stat (op % 256 + 2 ^ 8) with late := f.late.filter (· != o.stat) }

/-- COMMITTED becomes 1 (R73). -/
def opCommit (f : Fabric) (o : OpId) : Fabric := putB f o.stat 11 true

/-- Ends an operation with a result and DETAIL, and raises OP_END (R73, R74); for SYS operations also SWAP_END (R174). -/
def opEnd (f : Fabric) (o : OpId) (result detail : Nat) : Fabric :=
  let isLate := f.late.contains o.stat
  let r := if result = 2 ∧ isLate then 4 else result
  let f := putF (putF f o.stat 31 16 detail) o.stat 10 8 r
  let f := { f with late := f.late.filter (· != o.stat) }
  let f := match o with
    | .swap g => putB f (ra pSYS 0x420) g.val true
    | .scene => putB f (ra pSYS 0x420) 16 true
    | _ => f
  raise f o.page 31

/-- What a write to a command register is, before the operation's own argument checks (R72). -/
inductive OpVerdict
  | abort
  | nothing
  | rejected (code : Nat)
  | start (op : Nat)
  deriving DecidableEq, Repr

/-- The first case of R72 that applies; badArg is the operation's own BAD_ARG check. -/
def opVerdict (f : Fabric) (o : OpId) (w : Word) (badArg : Bool) : OpVerdict :=
  if bit w 31 then .abort
  else if fld w 7 0 = 0 then .nothing
  else if !o.known (fld w 7 0) then .rejected 0x0003
  else if opRunning f o then .rejected 0x0002
  else if badArg then .rejected 0x0004
  else .start (fld w 7 0)

/-- An abort request on an operation (R73): before the commit point it ends ABORTED; later it is remembered. -/
def opAbort (f : Fabric) (o : OpId) : Fabric :=
  if opRunning f o then
    if opCommitted f o then { f with late := f.late.filter (· != o.stat) ++ [o.stat] }
    else opEnd f o 3 0
  else f

/-- Whether any operation of a page is RUNNING (PAGE_STAT.BUSY, R42). -/
def pageBusy (f : Fabric) (p : Nat) : Bool := allOps.any (fun o => o.page == p && opRunning f o)

-- Generic register access (R14, R16, R53)

/-- A write to a register under its access types (R14, R16): RW bits take the value, W1C bits are cleared. -/
def storeReg (r : RegRow) (old w : Word) : Word :=
  let rw := BitVec.ofNat 32 r.rw
  let c := BitVec.ofNat 32 r.w1c
  ((old &&& ~~~rw) ||| (w &&& rw)) &&& ~~~(w &&& c)

/-- The bits a soft reset returns to their reset values (R53). -/
def softBits (r : RegRow) : Word := BitVec.ofNat 32 (r.rw ||| r.w1c ||| r.act)

/-- The registers of a page with their RW, W1C and WSC fields at reset; keep names offsets left alone (R53). -/
def softClear (f : Fabric) (p : Nat) (keep : Nat → Bool) : Fabric :=
  (mfilter (fun k => pageOf k == p) f.regs).foldl (fun f e =>
    if keep (offOf e.1) then f
    else match rowOf e.1 with
      | none => f
      | some r => wrR f e.1 ((e.2 &&& ~~~softBits r) ||| (BitVec.ofNat 32 r.reset &&& softBits r))) f

/-- Every block register of a page, read-only ones too, at its reset value (chapters that reset every field of a page). -/
def pageClear (f : Fabric) (p : Nat) : Fabric :=
  { f with regs := mfilter (fun k => !(pageOf k == p && decide (0x40 ≤ offOf k))) f.regs }

/-- The per-requester registers of a page at reset (R53). -/
def softClearOwn (f : Fabric) (p : Nat) : Fabric :=
  { f with own := mfilter (fun k => pageOf (k % 2 ^ 24) != p) f.own }

/-- Both banks' words lo to hi - 1 at reset. -/
def clearBanks (f : Fabric) (lo hi : Nat) : Fabric :=
  { f with bank0 := mclear lo hi f.bank0, bank1 := mclear lo hi f.bank1 }

/-- Clears every unbanked register of a page from offset lo up (whole device resets). -/
def clearRegs (f : Fabric) (p : Nat) : Fabric :=
  { f with regs := mfilter (fun k => pageOf k != p) f.regs }

/-- What a read returns to a requester. -/
def answer (f : Fabric) (q v : Nat) : Fabric := { f with rdata := mset zeroN f.rdata q v }

/-- The words a requester's last latching read holds (R48, R147, R299). -/
def held (f : Fabric) (q : Nat) : List (Nat × Word) := mget (fun _ => []) f.hold q
/-- Latches words for a requester, in place of those it held. -/
def latch (f : Fabric) (q : Nat) (l : List (Nat × Word)) : Fabric := { f with hold := mset (fun _ => []) f.hold q l }

end Sys2Proof.Machine
end

