-- ==== Sys2Proof/Machine/Session.lean ====
section
/-! DEFINITION. The session's rate, block size and row of R26, and the capacities every pool takes from it (R24 to R30,
R136). -/
namespace Sys2Proof.Machine

/-- SYS.SESSION_STAT.RUNNING. -/
def running (f : Fabric) : Bool := getB f 0x104 0
/-- SYS.SESSION_STAT.PENDING. -/
def startPending (f : Fabric) : Bool := getB f 0x104 2

/-- The BLOCK code in force: of the running session, else of SESSION_CFG (R136). -/
def blockCode (f : Fabric) : Nat := if running f then getF f 0x104 6 4 else getF f 0x100 6 4
/-- The rate in force, true for 96 kHz. -/
def rate96 (f : Fabric) : Bool := if running f then getB f 0x104 1 else getB f 0x100 0
/-- B (R28). -/
def blockLen (f : Fabric) : Nat := 2 ^ blockCode f
/-- fs in hertz (R12). -/
def fsHz (f : Fabric) : Nat := if rate96 f then 96000 else 48000

/-- f(B) as a fraction of 100 (R24). -/
def fB (b : Nat) : Nat := if b = 1 then 25 else if b = 2 then 50 else if b = 4 then 75 else if b = 8 then 90 else 100
/-- c(B) as a fraction of 1000 (R24). -/
def cB (b : Nat) : Nat := if b = 1 then 125 else if b = 2 then 250 else if b = 4 then 500 else if b = 8 then 750 else 1000
/-- N of R25. -/
def rowN (f : Fabric) : Nat := if rate96 f then 512 else 1024
/-- Objects of the row (R25). -/
def capObj (f : Fabric) : Nat := 32 * (rowN f * fB (blockLen f) / 100 / 32)
/-- Paths of the row (R25). -/
def capPath (f : Fabric) : Nat := 64 * capObj f
/-- Active matrix nodes of the row (R25). -/
def capNode (f : Fabric) : Nat := 256 * capObj f
/-- Speaker chains of the row (R25). -/
def capChain (f : Fabric) : Nat := if blockLen f = 1 then rowN f / 2 else rowN f
/-- Convolution taps of the row (R25). -/
def capTaps (f : Fabric) : Nat := 4096 * rowN f * cB (blockLen f) / 1000
/-- The logical matrix size (R25). -/
def capLogical (f : Fabric) : Nat := if rate96 f then 1024 else 2048

/-- The MSC of the first sample of the wall block in progress. -/
def blockStart (f : Fabric) : Nat := f.msc.toNat / blockLen f * blockLen f

/-- MSC_L of the LATCH set (R302). -/
def latchMsc (f : Fabric) : Nat := rdN f 0x8090 * 2 ^ 32 + rdN f 0x808C
/-- TNS_L of the LATCH set (R302). -/
def latchNs (f : Fabric) : Nat := rdN f 0x8080

/-- The render MSC of a TIME_NS value (R81). -/
def mscOfTime (f : Fabric) (t : Nat) : Int :=
  let d := sx 32 ((t + 2 ^ 32 - latchNs f) % 2 ^ 32)
  (latchMsc f : Int) + rne (d * (fsHz f : Int)) 1000000000

/-- Whether a load class is shed: 0 BOOST, 1 ELASTIC, 2 SHEDDABLE (R499). -/
def isShed (f : Fabric) (c : Nat) : Bool := getB f 0x10A4 c

end Sys2Proof.Machine
end

