-- ==== Sys2Proof/Machine/Memory.lean ====
section
/-! DEFINITION. DRAM channels with their check code, the scrubber, error injection, refresh and training, and the on-chip SRAM
arrays (15), as functions of the fabric and the memories. -/
namespace Sys2Proof.Machine

-- Addresses (R460, R461, R463)

/-- The channel of a DRAM byte address (R460). -/
def dramChan (a : Nat) : Nat := a / 256 % 2
/-- The channel address of a DRAM byte address (R460). -/
def chanAddr (a : Nat) : Nat := a / 512 * 256 + a % 256
/-- The DRAM byte address of a channel address (R460). -/
def dramAddr (ch c : Nat) : Nat := c / 256 * 512 + ch * 256 + c % 256
/-- DRAM byte addresses (R460). -/
def dramTop : Nat := 0xE000_0000
/-- The offset of a DRC register. -/
def drcAt (ch off : Nat) : Nat := ra (pDRC ch) off
/-- Row, bank and column of a channel address under an ORDER (R461). -/
def dieOf (order c : Nat) : Nat × Nat × Nat :=
  if order = 0 then (nfld c 30 15, nfld c 14 11, nfld c 10 6)
  else if order = 1 then (nfld c 26 11, nfld c 30 27, nfld c 10 6)
  else (nfld c 30 15, Nat.xor (nfld c 9 6) (nfld c 18 15), nfld c 14 10)
/-- The channel address of the check bits of codeword j of the line that holds channel address c (R463). -/
def checkAddr (c j : Nat) : Nat := 0x7000_0000 + c / 64 * 8 + 2 * j

def drcOf (m : MemState) (ch : Nat) : Drc := if ch = 0 then m.ch0 else m.ch1
def setDrc (m : MemState) (ch : Nat) (d : Drc) : MemState := if ch = 0 then { m with ch0 := d } else { m with ch1 := d }

/-- A DRAM channel is READY (R472). -/
def drcReady (f : Fabric) (ch : Nat) : Bool := getB f (drcAt ch 0x48) 0

/-- Changes READY of a channel, in STAT and in its header (R472, R488). -/
def setReady (f : Fabric) (ch : Nat) (on : Bool) : Fabric :=
  let was := drcReady f ch
  let f := putB (putB f (drcAt ch 0x48) 0 on) (drcAt ch 0x0C) 0 on
  raiseIf (was != on) f (pDRC ch) 3

/-- The write queue level in STAT (R488). -/
def showWq (f : Fabric) (m : MemState) (ch : Nat) : Fabric := putF f (drcAt ch 0x48) 14 8 (min 127 (drcOf m ch).wq.length)

-- The check code (R462 to R466)

/-- An uncorrectable memory error anywhere in DRAM (R466). -/
def cwBad (e : CwErr) : Bool := e.poison || decide (2 ≤ e.syms.length)

/-- Data symbol s of a codeword's 16 bytes XORed with a pattern (R462): nibble q of beat b. -/
def flipSym (bytes : List Byte) (s pat : Nat) : List Byte :=
  if s < 32 then
    let i := s / 2
    let p := if s % 2 = 0 then pat else pat * 16
    bytes.set i ((bytes[i]?.getD 0) ^^^ BitVec.ofNat 8 p)
  else bytes

/-- The raw bytes of a codeword with its errors. -/
def rawCw (bytes : List Byte) (e : CwErr) : List Byte := e.syms.foldl (fun b s => flipSym b s.1 s.2) bytes

/-- The 16 bytes of codeword k as they were encoded. -/
def cwData (m : MemState) (k : Nat) : List Byte := mgets zeroB m.dram (16 * k) 16
/-- The errors of codeword k. -/
def cwErr (m : MemState) (k : Nat) : CwErr := mget (fun _ => CwErr.none) m.ecc k

/-- Records a correctable error (R465). -/
def noteCe (f : Fabric) (ch k sym : Nat) : Fabric :=
  raise (wrN (wrN (bump f (drcAt ch 0x58)) (drcAt ch 0x68) (16 * k)) (drcAt ch 0x6C) sym) (pDRC ch) 0
/-- Records an uncorrectable error (R465). -/
def noteUe (f : Fabric) (ch k master : Nat) (scrub : Bool) : Fabric :=
  let f := bump f (drcAt ch 0x5C)
  let f :=
    if getB f (drcAt ch 0x64) 31 then f
    else wrN (wrN f (drcAt ch 0x60) (16 * k)) (drcAt ch 0x64) (2 ^ 31 + scrub.toNat * 2 ^ 8 + master % 16)
  raise f (pDRC ch) 1

/-- A read of a codeword: corrected data, or raw data marked poisoned (R465). -/
def cwRead (f : Fabric) (m : MemState) (k master : Nat) (scrub : Bool) : Fabric × List Byte × Bool :=
  let ch := dramChan (16 * k)
  let e := cwErr m k
  let d := cwData m k
  if cwBad e then (noteUe f ch k master scrub, rawCw d e, true)
  else match e.syms with
    | [] => (f, d, false)
    | s :: _ => (noteCe f ch k s.1, d, false)

/-- A write of a codeword with strobes (R464): whole, read-modify-write, or untouched. -/
def cwWrite (f : Fabric) (m : MemState) (k master : Nat) (data : List (Byte × Bool)) : Fabric × MemState :=
  if data.all (fun e => !e.2) then (f, m)
  else if data.all (fun e => e.2) then
    (f, { m with dram := msets zeroB m.dram (16 * k) (data.map (·.1)), ecc := mset (fun _ => CwErr.none) m.ecc k CwErr.none })
  else
    let f := bump f (drcAt (dramChan (16 * k)) 0x88)
    let r := cwRead f m k master false
    let merged := (r.2.1.zip data).map (fun e => if e.2.2 then e.2.1 else e.1)
    (r.1, { m with dram := msets zeroB m.dram (16 * k) merged,
                   ecc := mset (fun _ => CwErr.none) m.ecc k (if r.2.2 then ⟨[], true⟩ else CwErr.none) })

/-- One pattern XORed into a symbol of a codeword's errors; two equal ones cancel, and symbols above 35 do not exist (R474). -/
def addSym (e : CwErr) (s pat : Nat) : CwErr :=
  if 36 ≤ s ∨ pat = 0 then e
  else
    let old := (e.syms.find? (fun x => x.1 == s)).elim 0 (·.2)
    let new := Nat.xor old pat
    let rest := e.syms.filter (fun x => x.1 != s)
    { e with syms := if new = 0 then rest else rest ++ [(s, new)] }

/-- The armed injection corrupts codeword 0 of a line that a write has covered (R474). -/
def injectLine (f : Fabric) (m : MemState) (line : Nat) (hit : Bool) : Fabric × MemState :=
  let ch := dramChan line
  let w := rdR f (drcAt ch 0x70)
  if !bit w 0 then (f, m)
  else
    let f := putB f (drcAt ch 0x70) 0 false
    let k := line / 16
    let e := addSym (cwErr m k) (fld w 13 8) (fld w 27 24)
    let e := if bit w 22 then addSym e (fld w 21 16) (fld w 27 24) else e
    (f, if hit then { m with ecc := mset (fun _ => CwErr.none) m.ecc k e } else m)

/-- A line write: 64 data bytes with strobes, its four codewords, the count and any armed injection (R464, R474). -/
def lineWrite (f : Fabric) (m : MemState) (line master : Nat) (data : List (Byte × Bool)) : Fabric × MemState :=
  let f := bump f (drcAt (dramChan line) 0x84)
  let r := (upto 4).foldl (fun (acc : Fabric × MemState) j =>
    cwWrite acc.1 acc.2 (line / 16 + j) master ((data.drop (16 * j)).take 16)) (f, m)
  injectLine r.1 r.2 line ((data.take 16).any (fun e => e.2))

/-- A line read: 64 bytes and, for each codeword, whether it is poisoned (R465). -/
def lineRead (f : Fabric) (m : MemState) (line master : Nat) (scrub : Bool) : Fabric × List (Byte × Bool) :=
  let f := bump f (drcAt (dramChan line) 0x80)
  (upto 4).foldl (fun (acc : Fabric × List (Byte × Bool)) j =>
    let r := cwRead acc.1 m (line / 16 + j) master scrub
    (r.1, acc.2 ++ r.2.1.map (fun b => (b, r.2.2)))) (f, [])

-- Requests in the queues (R469, R470)

/-- The line a request is in. -/
def lineOf (a : Nat) : Nat := a / 64 * 64

/-- The 64 bytes with strobes that a write request puts into its line; bytes not delivered have no strobe (R485). -/
def reqLine (r : BusReq) : List (Byte × Bool) :=
  let d := (r.wdata.getD []).take (min r.len (64 - r.addr % 64))
  let pre := List.replicate (r.addr % 64) ((0 : Byte), false)
  let body := pre ++ d
  body ++ List.replicate (64 - body.length) ((0 : Byte), false)

/-- Every beat of a write has been delivered. -/
def wholeReq (r : BusReq) : Bool := r.wdata.all (fun d => decide (r.len ≤ d.length))
/-- A queued write is performed. -/
def performWrite (f : Fabric) (m : MemState) (r : BusReq) : Fabric × MemState :=
  lineWrite f m (lineOf r.addr) r.master (reqLine r)

/-- The first request of a queue that satisfies p, and the others. -/
def takeFirst (p : BusReq → Bool) : List BusReq → Option (BusReq × List BusReq)
  | [] => none
  | r :: l => if p r then some (r, l) else (takeFirst p l).map (fun e => (e.1, r :: e.2))

/-- A batch ends at LO (R469). -/
def batchLo (f : Fabric) (m : MemState) (ch : Nat) : MemState :=
  let d := drcOf m ch
  if d.batch ∧ d.wq.length ≤ getF f (drcAt ch 0x44) 14 8 then setDrc m ch { d with batch := false } else m
/-- A batch starts at HI (R469). -/
def batchHi (f : Fabric) (m : MemState) (ch : Nat) : Fabric × MemState :=
  let d := drcOf m ch
  if !d.batch && getF f (drcAt ch 0x44) 6 0 ≤ d.wq.length && !(d.readsFirst && !d.rq.isEmpty) then
    (bump f (drcAt ch 0x90), setDrc m ch { d with batch := true, readsFirst := false })
  else (f, m)

/-- Every queued write to a line is performed (R470); the writes performed are listed. -/
def drainLine (f : Fabric) (m : MemState) (line : Nat) : Fabric × MemState × List BusReq :=
  let ch := dramChan line
  let d := drcOf m ch
  let hit := d.wq.filter (fun r => lineOf r.addr == line && wholeReq r)
  let r := hit.foldl (fun (acc : Fabric × MemState) w => performWrite acc.1 acc.2 w) (f, m)
  let m := setDrc r.2 ch { drcOf r.2 ch with wq := d.wq.filter (fun r => !(lineOf r.addr == line && wholeReq r)) }
  let m := if hit.isEmpty then m else batchLo r.1 m ch
  (showWq r.1 m ch, m, hit)

/-- A read of one line by a master, after the queued writes to it (R470, R472). The writes it drains keep their data; their
responses are the matrix's. -/
def dramLine (f : Fabric) (m : MemState) (line master : Nat) (scrub : Bool) : Fabric × MemState × List (Byte × Bool) :=
  let ch := dramChan line
  if !drcReady f ch ∨ dramTop ≤ line then (f, m, List.replicate 64 (0, false))
  else
    let r := drainLine f m line
    let f := if r.2.2.isEmpty then r.1 else bump r.1 (drcAt ch 0x8C)
    let l := lineRead f r.2.1 line master scrub
    (l.1, r.2.1, l.2)

/-- The lines that n bytes from an address touch. -/
def linesOf (a n : Nat) : List Nat := if n = 0 then [] else (upto ((a + n - 1) / 64 + 1 - a / 64)).map (fun i => (a / 64 + i) * 64)

/-- Bytes read from DRAM, each with whether it was poisoned (R465, R472). -/
def dramRead (f : Fabric) (m : MemState) (master a n : Nat) : Fabric × MemState × List (Byte × Bool) :=
  let r := (linesOf a n).foldl (fun (acc : Fabric × MemState × List (Byte × Bool)) l =>
    let r := dramLine acc.1 acc.2.1 l master false
    (r.1, r.2.1, acc.2.2 ++ r.2.2)) (f, m, [])
  (r.1, r.2.1, (r.2.2.drop (a % 64)).take n)

/-- Bytes written to DRAM with strobes; writes to a channel that is not READY, or above the address range, are discarded
(R460, R472). -/
def dramWriteS (f : Fabric) (m : MemState) (master a : Nat) (data : List (Byte × Bool)) : Fabric × MemState :=
  let all := List.replicate (a % 64) ((0 : Byte), false) ++ data
  (linesOf a data.length).foldl (fun (acc : Fabric × MemState) l =>
    if !drcReady acc.1 (dramChan l) ∨ dramTop ≤ l then acc
    else
      let r := drainLine acc.1 acc.2 l
      let d := (all.drop (l - lineOf a)).take 64
      lineWrite r.1 r.2.1 l master (d ++ List.replicate (64 - d.length) (0, false))) (f, m)

/-- Bytes written to DRAM. -/
def dramWrite (f : Fabric) (m : MemState) (master a : Nat) (data : List Byte) : Fabric × MemState :=
  dramWriteS f m master a (data.map (fun b => (b, true)))

/-- No byte of a read was poisoned. -/
def readOk (l : List (Byte × Bool)) : Bool := l.all (fun e => !e.2)
/-- The bytes of a read with poisoned ones as 0 (R466). -/
def zeroPoison (l : List (Byte × Bool)) : List Byte := l.map (fun e => if e.2 then 0 else e.1)
/-- The bytes of a read as they came. -/
def rawBytes (l : List (Byte × Bool)) : List Byte := l.map (·.1)
/-- Little-endian 32-bit words of a byte list, n of them. -/
def wordsOf : Nat → List Byte → List Word
  | 0, _ => []
  | n + 1, l => BitVec.ofNat 32 (leNat (l.take 4)) :: wordsOf n (l.drop 4)
/-- The bytes of words, little-endian (R4). -/
def bytesOf (l : List Word) : List Byte := l.flatMap (fun w => leBytes 4 w.toNat)

/-- A range of DRAM addresses reaches above the last one. -/
def dramBad (a n : Nat) : Bool := decide (dramTop < a + n)

-- Scrubbing, refresh, training (R471 to R473, R488)

/-- Lines in a channel's data range (R460, R473). -/
def chanLines : Nat := 0x7000_0000

/-- Errors of the four codewords of a line. -/
def lineErrs (m : MemState) (line : Nat) : List CwErr := (upto 4).map (fun j => cwErr m (line / 16 + j))
/-- The codewords of a line without errors. -/
def lineClean (m : MemState) (line : Nat) : MemState :=
  (upto 4).foldl (fun (m : MemState) j => { m with ecc := mset (fun _ => CwErr.none) m.ecc (line / 16 + j) CwErr.none }) m
/-- A line that the scrubber corrected is written back, which is a line write of its channel (R473, R474); one with an
uncorrectable error is not, nor one without errors. -/
def scrubFix (f : Fabric) (m : MemState) (line : Nat) : Fabric × MemState :=
  if (lineErrs m line).any cwBad || (lineErrs m line).all (fun e => e.syms.isEmpty) then (f, m)
  else injectLine (bump f (drcAt (dramChan line) 0x84)) (lineClean m line) line true

/-- The scrubber's next line (R473). -/
def scrubLine (f : Fabric) (m : MemState) (ch : Nat) : Fabric × MemState :=
  if !(getB f (drcAt ch 0x4C) 0 && drcReady f ch) then (f, m)
  else
    let c := rdN f (drcAt ch 0x50)
    let line := dramAddr ch c
    let r := dramLine f m line 9 true
    let x := scrubFix r.1 r.2.1 line
    let next := c + 64
    if next = chanLines then (raise (bump (wrN x.1 (drcAt ch 0x50) 0) (drcAt ch 0x54)) (pDRC ch) 6, x.2)
    else (wrN x.1 (drcAt ch 0x50) next, x.2)

/-- A refresh falls due (R471): it is postponed where that is asked and allowed, else every refresh owed is issued. -/
def dramRefresh (m : MemState) (ch : Nat) (postpone : Bool) : MemState :=
  let d := drcOf m ch
  if postpone && decide (d.postponed < 4) && (!d.rq.isEmpty || d.batch) then setDrc m ch { d with postponed := d.postponed + 1 }
  else setDrc m ch { d with refBank := (d.refBank + d.postponed + 1) % 16, postponed := 0 }

/-- A refresh that has been postponed 4 times comes before any access (R469). -/
def dueFirst (m : MemState) (ch : Nat) : MemState :=
  if 4 ≤ (drcOf m ch).postponed then
    setDrc m ch { drcOf m ch with refBank := ((drcOf m ch).refBank + (drcOf m ch).postponed) % 16, postponed := 0 }
  else m

/-- The die's refresh-rate register is read (R471): above 85 °C, and above the operating range. -/
def dramTempPoll (f : Fabric) (ch : Nat) (hot ovr : Bool) : Fabric :=
  if !drcReady f ch then f
  else
    let x2 := hot || ovr
    let was := getB f (drcAt ch 0x48) 6
    let f := putB (putB f (drcAt ch 0x48) 6 x2) (drcAt ch 0x48) 7 ovr
    let f := raiseIf (x2 != was) f (pDRC ch) 4
    raiseIf ovr f (pDRC ch) 5

/-- ENABLE from 0 to 1: the channel trains (R472). -/
def drcEnable (f : Fabric) (ch : Nat) : Fabric :=
  let f := putB f (drcAt ch 0x08) 0 true
  let f := putB (putB (putB f (drcAt ch 0x48) 1 false) (drcAt ch 0x48) 2 false) (drcAt ch 0x48) 5 false
  putB f (drcAt ch 0x0C) 3 true

/-- A channel is training: ENABLE is 1 and neither TRAINED nor TRAIN_FAIL reads 1. -/
def training (f : Fabric) (ch : Nat) : Bool :=
  enabled f (pDRC ch) && getB f (drcAt ch 0x0C) 3 && !getB f (drcAt ch 0x48) 4 && !drcReady f ch

/-- Training ends (R472). -/
def trainEnd (f : Fabric) (ch : Nat) (ok : Bool) : Fabric :=
  if !training f ch then f
  else
    let f := putB (putB f (drcAt ch 0x0C) 3 false) (drcAt ch 0x48) 5 false
    if ok then setReady (putB f (drcAt ch 0x48) 1 true) ch true
    else raise (fail (putB f (drcAt ch 0x48) 2 true) (pDRC ch) 0x0102 0) (pDRC ch) 2

/-- The tracking that waits takes place once no batch runs (R472). -/
def trackGo (f : Fabric) (m : MemState) (ch : Nat) : Fabric × MemState :=
  let d := drcOf m ch
  match d.track with
  | none => (f, m)
  | some ns =>
    if d.batch then (f, m)
    else (if drcReady f ch then putF f (drcAt ch 0x74) 15 0 (min ns 1000) else f, setDrc m ch { d with track := none })

/-- The channel tracks the DQS oscillator, in a time of ns (R472): it waits for a running batch. -/
def dramTracking (f : Fabric) (m : MemState) (ch ns : Nat) : Fabric × MemState :=
  if drcReady f ch then trackGo f (setDrc m ch { drcOf m ch with track := some ns }) ch else (f, m)

/-- Every queued write is performed, in order; the requests performed (R488). -/
def drainAll (f : Fabric) (m : MemState) (ch : Nat) : Fabric × MemState × List BusReq :=
  let d := drcOf m ch
  let r := d.wq.foldl (fun (acc : Fabric × MemState) w => performWrite acc.1 acc.2 w) (f, m)
  let m := setDrc r.2 ch { drcOf r.2 ch with wq := [], batch := false }
  (showWq r.1 m ch, m, d.wq)

/-- The die enters self-refresh and READY clears (R488). -/
def selfRefresh (f : Fabric) (ch : Nat) : Fabric :=
  setReady (putB (putB f (drcAt ch 0x48) 5 true) (drcAt ch 0x48) 1 false) ch false

/-- A write of INJ_CTRL (R474). -/
def injWrite (f : Fabric) (ch : Nat) (v : Word) : Fabric :=
  if fld v 27 24 = 0 then fail f (pDRC ch) 0x0100 0x70 else wrR f (drcAt ch 0x70) ((v &&& 0x0F7F_3F01) ||| (rdR f (drcAt ch 0x70) &&& 1))

/-- A write of CFG or WQ_CFG (R461, R469, R488). -/
def drcWrite (f : Fabric) (ch off : Nat) (v : Word) : Fabric :=
  let a := drcAt ch off
  if off = 0x40 then
    if enabled f (pDRC ch) then fail f (pDRC ch) 0x0006 off
    else if fld v 1 0 = 3 then fail f (pDRC ch) 0x0100 off
    else if fld v 1 0 ≠ getF f (drcAt (1 - ch) 0x40) 1 0 then fail f (pDRC ch) 0x0101 off
    else wrR f a (v &&& 3)
  else if off = 0x44 then
    if fld v 6 0 < 2 ∨ 64 < fld v 6 0 ∨ 62 < fld v 14 8 ∨ fld v 6 0 ≤ fld v 14 8 ∨ fld v 21 16 = 0 then fail f (pDRC ch) 0x0100 off
    else wrR f a (v &&& 0x3F_7F7F)
  else if off = 0x4C then
    if fld v 15 8 = 0 then fail f (pDRC ch) 0x0100 off else wrR f a (v &&& 0xFF01)
  else f

-- SRAM (R475, R476)

/-- An SRAM array's patrol meets an error of a word (R476). -/
def sramError (f : Fabric) (arr word : Nat) (correctable : Bool) : Fabric :=
  if correctable then raise (bump f (ra pBUS 0xE0)) pBUS 0
  else
    let f := bump f (ra pBUS 0xE4)
    let f := if getB f (ra pBUS 0xE8) 31 then f else wrN f (ra pBUS 0xE8) (2 ^ 31 + arr % 32 * 2 ^ 24 + word % 2 ^ 24)
    raise f pBUS 1

/-- Whether any uncorrectable memory error has been counted: the sum of the three counters (R466). -/
def ueCount (f : Fabric) : Nat := rdN f (drcAt 0 0x5C) + rdN f (drcAt 1 0x5C) + rdN f (ra pBUS 0xE4)

/-- A word of the shared SRAM (R476). -/
def sharedWord (m : MemState) (off : Nat) : Word := BitVec.ofNat 32 (leNat (mgets zeroB m.shared (off / 4 * 4) 4))
/-- Writes a word of the shared SRAM. -/
def sharedPut (m : MemState) (off : Nat) (w : Word) : MemState :=
  { m with shared := msets zeroB m.shared (off / 4 * 4) (leBytes 4 w.toNat) }

end Sys2Proof.Machine
end

