-- ==== Sys2Proof/Machine/StatePorts.lean ====
section
/-! DEFINITION. The state of the serial ports that no register shows: buffers, fades, triggers and what the pins drive (11). -/
namespace Sys2Proof.Machine

/-- The fade state of one direction (R357, R358). -/
inductive Phase
  | live
  /-- next position of the fade and the weight it started from, Q2.30 -/
  | fade (i : Nat) (w0 : Int)
  /-- clean frames counted -/
  | mute (n : Nat)
  /-- next position of the ramp -/
  | ramp (i : Nat)
  deriving DecidableEq, Repr

/-- One frame's samples by channel index. -/
abbrev PFrame := List (Nat × Int)

/-- A slip decided on a buffer (R236, R353): its window starts with frame number start. -/
structure BufSlip where
  drop : Bool
  start : Nat
  win : List PFrame
  deriving DecidableEq, Repr

/-- One direction of a clock generator. -/
structure PDir where
  ph : Phase
  /-- numbered frames, oldest first, each with the egress MSC it carries (0 for an input) -/
  buf : List (Nat × Nat × PFrame)
  /-- frames that have arrived so far, those discarded at a full buffer too -/
  seq : Nat
  /-- the last delivered frame with its egress MSC -/
  last : Nat × PFrame
  /-- the buffer has reached its target and is read -/
  reading : Bool
  slip : Option BufSlip
  deriving DecidableEq, Repr

def PDir.reset : PDir := ⟨.mute 0, [], 0, (0, []), false, none⟩

/-- A clock generator (R344 to R361); STATE is in CG_STAT. -/
structure Cgen where
  inp : PDir
  out : PDir
  /-- the comparator of START = 1 has fired (R349) -/
  trig : Bool
  /-- frames since the last fill check or steer update -/
  chk : Nat
  /-- I and ε of the steered path, Q0.40 (R354) -/
  steerI : Int
  eps : Int
  /-- a slave's frame that is being shifted in (R361) -/
  part : Option PFrame
  deriving DecidableEq, Repr

def Cgen.reset : Cgen := ⟨PDir.reset, PDir.reset, false, 0, 0, 0, none⟩

/-- The shape of a frame on the wire (R345). -/
structure FrameShape where
  /-- bit periods of a frame, and from the active FS edge to the first bit of slot 0 -/
  bits : Nat
  delay : Nat
  /-- the level of FS from its active edge on, and for how many bit periods -/
  lead : Bool
  width : Nat
  /-- data and FS change on falling SCK edges and are sampled on rising ones; else the edges are swapped -/
  falling : Bool
  deriving DecidableEq, Repr

/-- What a clock generator does on its SCK and FS pins (R345, R349, R359): high-Z; SCK low and FS at its inactive level; frames. -/
inductive ClkDrive
  | off
  | idle (fs : Bool)
  | frames (s : FrameShape)
  deriving DecidableEq, Repr

/-- Output drivers of the port cluster (R360). -/
inductive Pin
  | sd (p : Nat)
  | sck (i : Nat)
  | fs (i : Nat)
  | mclk (i : Nat)
  deriving DecidableEq, Repr

/-- The serial ports (11). -/
structure PortState where
  cgs : List (Nat × Cgen)
  /-- the comparator of a start group has fired (R350) -/
  sgTrig : List (Nat × Bool)
  /-- what a slot of a data pin drives: key 32·p + s, 0 high-Z, else the slot's word of SLOT bits + 1 -/
  drive : List (Nat × Nat)
  /-- pins in a back-off (R360) -/
  backoff : List Pin
  /-- the SCK and FS pins of each clock generator -/
  clk : List (Nat × ClkDrive)
  deriving DecidableEq, Repr

def PortState.reset : PortState := ⟨[], [], [], [], []⟩

end Sys2Proof.Machine
end

