-- ==== Sys2Proof/Machine/StateNet.lean ====
section
/-! DEFINITION. The state of the network ports and the stream engine that no register shows (12). -/
namespace Sys2Proof.Machine

/-- A TX time-stamp entry (R383). -/
structure TsEntry where
  tag : Nat
  cls : Nat
  ns : Nat
  /-- 1/256 ns -/
  frac : Nat
  deriving DecidableEq, Repr

/-- A descriptor ring in progress (R376): next descriptor to read, and those written back ahead of the one at TAIL. -/
structure RingSt where
  fetch : Nat
  done : List Nat
  deriving DecidableEq, Repr

def RingSt.reset : RingSt := ⟨0, []⟩

/-- A stream packet (R393): its RTP or AVTP header values and payload. -/
structure Packet where
  stream : Nat
  /-- egress MSC of the first sample -/
  first : Nat
  ts : Nat
  seq : Nat
  payload : List Byte
  deriving DecidableEq, Repr

/-- What a frame to send is, with its bytes as they leave the port: of a management descriptor (ring 4 or 5, index, TAG, TS_REQ), or
of a stream packet. -/
inductive TxBody
  | mgmt (ring idx tag : Nat) (tsReq : Bool) (bytes : List Byte)
  | stream (p : Packet) (bytes : List Byte)
  deriving DecidableEq, Repr

/-- A frame in a class queue (R378, R379). -/
structure TxFrame where
  cls : Nat
  /-- with FCS and padding -/
  len : Nat
  /-- 0 unicast, 1 multicast, 2 broadcast -/
  cast : Nat
  padded : Bool
  /-- MSC at which it was queued -/
  at_ : Nat
  body : TxBody
  deriving DecidableEq, Repr

/-- One network port (12). -/
structure NetPort where
  /-- live counters of R384 -/
  stats : List (Nat × Nat)
  tsq : List TsEntry
  rings : List (Nat × RingSt)
  /-- frames of every class in the order in which they became ready -/
  queue : List TxFrame
  /-- the frame being sent and its SFD stamp in 1/256 ns -/
  cur : Option (TxFrame × Nat)
  /-- class credits in 10^-6 bit (R380), as of the elapsed time creditAt -/
  credit : List (Nat × Int)
  creditAt : Nat
  /-- gates open, bit c for class c (R381) -/
  mask : Nat
  /-- start of an operating cycle -/
  cycleAt : Nat
  /-- admin and operating lists: gates and interval per entry -/
  admin : List (Nat × (Nat × Nat))
  oper : List (Nat × (Nat × Nat))
  /-- the change instant while PENDING (R382) -/
  change : Option Nat
  deriving DecidableEq, Repr

def NetPort.reset : NetPort where
  stats := []
  tsq := []
  rings := []
  queue := []
  cur := none
  credit := []
  creditAt := 0
  mask := 255
  cycleAt := 0
  admin := []
  oper := []
  change := none

/-- Both ports. -/
structure NetState where
  a : NetPort
  b : NetPort
  /-- elapsed time in ns, which no step of the counter moves (R380) -/
  now : Nat
  deriving DecidableEq, Repr

def NetState.reset : NetState := ⟨NetPort.reset, NetPort.reset, 0⟩

/-- One RX stream (R388 to R392). -/
structure RxStream where
  ph : Phase
  /-- TIMED: samples by ingress MSC; FIFO: numbered samples, oldest first -/
  buf : List (Nat × PFrame)
  /-- FIFO: samples written so far -/
  seq : Nat
  /-- the last received sample -/
  last : PFrame
  /-- FIFO: the buffer has refilled and is read -/
  reading : Bool
  slip : Option BufSlip
  /-- packets since the last slip check and the lowest fill before one (R388) -/
  pkts : Nat
  minFill : Nat
  /-- the last 64 sequence values used, newest first (R391) -/
  used : List Nat
  /-- TIMED: sample periods of the present run of unwritten ones (R392) -/
  gap : Nat
  /-- elapsed time in ns of the last valid packet of port A and of port B (R391, R398) -/
  atA : Option Nat
  atB : Option Nat
  deriving DecidableEq, Repr

def RxStream.reset : RxStream where
  ph := .mute 0
  buf := []
  seq := 0
  last := []
  reading := false
  slip := none
  pkts := 0
  minFill := 1024
  used := []
  gap := 0
  atA := none
  atB := none

/-- The stream engine (12). -/
structure StrmState where
  /-- admitted enabled entries, key 512·DIR + n, with their 16 words (R386) -/
  act : List (Nat × List Word)
  /-- the boundary from which they are in force, and the entries before it, newest first, each set with its own boundary (R387) -/
  swapAt : Nat
  old : List (Nat × List (Nat × List Word))
  /-- enabled entries that were left out, by key (R386) -/
  out : List Nat
  rx : List (Nat × RxStream)
  /-- RX entries that a soft reset took away while their channels carried sound: they only fade (R392, R398) -/
  gone : List (Nat × List Word)
  deriving DecidableEq, Repr

def StrmState.reset : StrmState := ⟨[], 0, [], [], [], []⟩

end Sys2Proof.Machine
end

