-- ==== Sys2Proof/Machine/StateTb.lean ====
section
/-! DEFINITION. The state of the timebase that no register shows: the active increment, pending commits, capture queues,
comparators and event pins (09). -/
namespace Sys2Proof.Machine

/-- A capture entry (R306): the counter in units of 2^-32 ns, and the MSC. -/
structure CapEntry where
  time : Nat
  msc : Nat
  deriving DecidableEq, Repr

/-- A capture unit (R305 to R307). -/
structure CapUnit where
  /-- oldest first -/
  q : List CapEntry
  /-- qualifying edges since the last recorded one -/
  n : Nat
  /-- elapsed time of the previous qualifying edge, 2^-10 ns -/
  last : Option Nat
  deriving DecidableEq, Repr

def CapUnit.reset : CapUnit := ⟨[], 0, none⟩

/-- A trigger comparator (R308 to R311); ARMED is in CMP_STAT. -/
structure Cmp where
  /-- target: 40-bit nanoseconds for TIME and CAPTURE, MSC for MSC; none for a CAPTURE comparator without one -/
  tgt : Option Nat
  /-- it was armed with a target already reached, or reached one while ENABLE was 0 (R309, R311) -/
  late : Bool
  /-- the tick of the ARM (R309, R311) -/
  armed : Nat
  deriving DecidableEq, Repr

def Cmp.reset : Cmp := ⟨none, false, 0⟩

/-- An event pin (R314): level before inversion, and the tick a pulse ends. -/
structure EvtPin where
  level : Bool
  pulse : Option Nat
  deriving DecidableEq, Repr

def EvtPin.reset : EvtPin := ⟨false, none⟩

/-- The timebase (09). -/
structure TbState where
  /-- INCR in force, Q4.32 (R294) -/
  incr : Nat
  incrPend : Option Nat
  /-- units of 2^-32 ns (R295) -/
  stepPend : Option Int
  caps : List (Nat × CapUnit)
  cmps : List (Nat × Cmp)
  pins : List (Nat × EvtPin)
  /-- ticks of the 250 MHz clock so far, which no step and no increment moves (R31, R293) -/
  ticks : Nat
  /-- anchors before the last swaps, newest first: the boundary each ended at, and ANCHOR_MEDIA less ANCHOR_MSC (R316) -/
  anch : List (Nat × Nat)
  deriving DecidableEq, Repr

def TbState.reset : TbState := ⟨4 * 2 ^ 32, none, none, [], [], [], 0, []⟩

end Sys2Proof.Machine
end

