-- ==== Sys2Proof/Machine/Timebase.lean ====
section
/-! DEFINITION. The timebase (09): the counter, commits, snapshot sets, capture units, comparators and event pins, as functions
of the fabric and the timebase state. -/
namespace Sys2Proof.Machine

def capOfUnit (t : TbState) (k : Nat) : CapUnit := mget (fun _ => CapUnit.reset) t.caps k
def setCap (t : TbState) (k : Nat) (v : CapUnit) : TbState := { t with caps := mset (fun _ => CapUnit.reset) t.caps k v }
def cmpOf (t : TbState) (n : Nat) : Cmp := mget (fun _ => Cmp.reset) t.cmps n
def setCmp (t : TbState) (n : Nat) (v : Cmp) : TbState := { t with cmps := mset (fun _ => Cmp.reset) t.cmps n v }
def pinOf (t : TbState) (p : Nat) : EvtPin := mget (fun _ => EvtPin.reset) t.pins p
def setPin (t : TbState) (p : Nat) (v : EvtPin) : TbState := { t with pins := mset (fun _ => EvtPin.reset) t.pins p v }

/-- The offset of a capture unit's register. -/
def capAt (k off : Nat) : Nat := ra pTB (0x100 + 0x20 * k + off)
/-- The offset of a comparator's register. -/
def cmpAt (n off : Nat) : Nat := ra pTB (0x300 + 0x20 * n + off)
/-- The offset of EVT_CFG. -/
def evtAt (p : Nat) : Nat := ra pTB (0x400 + 4 * p)

/-- The timebase follows the stack master (R298). -/
def tbFollowing (f : Fabric) : Bool := getB f (ra pTB 0x50) 2

-- The counter (R293 to R297)

/-- SETTLING and the pending bits of STAT (R317). -/
def tbPendBits (f : Fabric) (t : TbState) : Fabric :=
  let f := putB (putB f (ra pTB 0x50) 0 t.incrPend.isSome) (ra pTB 0x50) 1 t.stepPend.isSome
  putB f (ra pTB 0x0C) 3 (t.incrPend.isSome || t.stepPend.isSome)

/-- One tick of the 250 MHz timebase clock (R293 to R296). -/
def tbTick (f : Fabric) (t : TbState) : Fabric × TbState :=
  let incr := t.incrPend.getD t.incr
  let old : Int := f.time.toNat
  let new : Int := old + incr + t.stepPend.getD 0
  let carry := decide (old / (2 ^ 64 : Nat) < new / (2 ^ 64 : Nat))
  let borrow := decide (new / (2 ^ 64 : Nat) < old / (2 ^ 64 : Nat))
  let f := { f with time := BitVec.ofInt 72 new }
  let t' := { t with incr := incr, incrPend := none, stepPend := none, ticks := t.ticks + 1 }
  let f := tbPendBits f t'
  let f := raiseIf carry f pTB 20
  let f := raiseIf borrow f pTB 21
  let f := raiseIf t.stepPend.isSome (if t.stepPend.isSome then bumpW f (ra pTB 0x54) else f) pTB 24
  (raiseIf t.incrPend.isSome f pTB 25, t')

/-- A write of INCR_NS (R294, R298). -/
def incrCommit (f : Fabric) (t : TbState) (v : Word) : Fabric × TbState :=
  let n := fld v 3 0 * 2 ^ 32 + rdN f (ra pTB 0x40)
  if !ready f pTB then (fail f pTB 1 0x44, t)
  else if tbFollowing f then (fail f pTB 0x0102 0x44, t)
  else if n < 0x3_8000_0000 ∨ 0x4_7FFF_FFFF < n then (fail f pTB 0x0100 0x44, t)
  else
    let t := { t with incrPend := some n }
    (tbPendBits (wrN f (ra pTB 0x44) (fld v 3 0)) t, t)

/-- A write of STEP_NS (R295, R298). -/
def stepCommit (f : Fabric) (t : TbState) (v : Word) : Fabric × TbState :=
  if !ready f pTB then (fail f pTB 1 0x4C, t)
  else if tbFollowing f then (fail f pTB 0x0102 0x4C, t)
  else if t.stepPend.isSome then (fail f pTB 0x0101 0x4C, t)
  else
    let t := { t with stepPend := some (intOf v * 2 ^ 32 + rdN f (ra pTB 0x48)) }
    (tbPendBits f t, t)

/-- The counter restarts (R297): at RESET_N, CHIP, the system PLL's lock, or a wake from DEEP. -/
def tbRestart (f : Fabric) (t : TbState) (deep : Bool) : Fabric × TbState :=
  let f := { f with time := 0 }
  let t := { t with incr := 4 * 2 ^ 32, incrPend := none, stepPend := none }
  (if deep then raise (putB f (ra pTB 0x50) 3 true) pTB 26 else f, t)

/-- The counter follows the stack master (R298, R414): its value and increment. -/
def tbFollow (f : Fabric) (t : TbState) (time incr : Nat) : Fabric × TbState :=
  ({ putB f (ra pTB 0x50) 2 true with time := BitVec.ofNat 72 time }, { t with incr := incr, incrPend := none, stepPend := none })

/-- FOLLOWING returns to 0: INCR_NS and INCR_FRAC read the master's last INCR (R298). -/
def tbUnfollow (f : Fabric) (t : TbState) : Fabric :=
  if tbFollowing f then
    wrN (wrN (putB f (ra pTB 0x50) 2 false) (ra pTB 0x44) (t.incr / 2 ^ 32)) (ra pTB 0x40) (t.incr % 2 ^ 32)
  else f

-- Snapshot sets (R299, R300, R302, R307)

/-- The words of a set after its first: fraction, wrap and MSC, at consecutive offsets from a. -/
def snapWords (a time msc : Nat) : List (Nat × Word) :=
  [(a, BitVec.ofNat 32 (time % 2 ^ 32)), (a + 4, BitVec.ofNat 32 (time / 2 ^ 64 % 256)), (a + 8, BitVec.ofNat 32 msc),
   (a + 12, BitVec.ofNat 32 (msc / 2 ^ 32))]

/-- A read of NOW_NS by requester q (R299, R300). -/
def nowRead (f : Fabric) (q : Nat) : Fabric :=
  latch (answer f q (timeNs f)) q (snapWords (ra pTB 0x64) f.time.toNat f.msc.toNat)

/-- A read of LATCH_NS by requester q (R299, R302). -/
def latchRead (f : Fabric) (q : Nat) : Fabric :=
  latch (answer f q (rdN f (ra pTB 0x80))) q
    ((upto 4).map (fun i => (ra pTB (0x84 + 4 * i), rdR f (ra pTB (0x84 + 4 * i)))))

/-- A stamp at a phase of the running tick, in 1/4096 of the tick, to 1/256 ns (R303). -/
def stampAt (f : Fabric) (t : TbState) (phase : Nat) : Nat :=
  (f.time.toNat + t.incr * phase / 4096) % 2 ^ 72 / 2 ^ 24 * 2 ^ 24

/-- The time that has passed on the 250 MHz clock, in 2^-10 ns: no step moves it (R31). -/
def elapsedAt (t : TbState) (phase : Nat) : Nat := t.ticks * 4096 + phase

/-- The block latch (R302). -/
def blockLatch (f : Fabric) (t : TbState) (msc phase : Nat) : Fabric :=
  let s := stampAt f t phase
  let f := wrN f (ra pTB 0x80) (s / 2 ^ 32 % 2 ^ 32)
  let f := wrN f (ra pTB 0x84) (s % 2 ^ 32)
  let f := wrN f (ra pTB 0x88) (s / 2 ^ 64)
  wrN (wrN f (ra pTB 0x8C) msc) (ra pTB 0x90) (msc / 2 ^ 32)

-- Capture units (R305 to R307)

/-- A recorded entry reaches the CAPTURE comparators that follow unit k (R308). -/
def capToCmp (f : Fabric) (t : TbState) (k : Nat) (e : CapEntry) : Fabric × TbState :=
  (upto 8).foldl (fun (acc : Fabric × TbState) n =>
    let f := acc.1
    let cfg := rdR f (cmpAt n 0)
    if fld cfg 1 0 = 2 ∧ fld cfg 6 3 = k ∧ getB f (cmpAt n 0x14) 0 then
      match (cmpOf acc.2 n).tgt with
      | some _ => (bump f (cmpAt n 0x18), acc.2)
      | none =>
        (f, setCmp acc.2 n { cmpOf acc.2 n with
          tgt := some ((e.time / 2 ^ 32 + min (2 ^ 31 - 1) (rdN f (cmpAt n 4))) % 2 ^ 40), late := false })
    else acc) (f, t)

/-- ANY_CAP_OVF (R317). -/
def anyOvf (f : Fabric) : Fabric := putB f (ra pTB 0x50) 4 ((upto 12).any (fun k => getB f (capAt k 4) 8))

/-- Unit k records an entry (R307). -/
def capRecord (f : Fabric) (t : TbState) (k : Nat) (e : CapEntry) : Fabric × TbState :=
  let u := capOfUnit t k
  let full := decide (4 ≤ u.q.length)
  let f := if full then anyOvf (bumpF (putB f (capAt k 4) 8 true) (capAt k 4) 31 16) else f
  let t := if full then t else setCap t k { u with q := u.q ++ [e] }
  let f := putF f (capAt k 4) 2 0 (capOfUnit t k).q.length
  let f := raise f pTB k
  let f := raiseIf full f pTB 22
  capToCmp f t k e

/-- An edge of source src at a phase of the running tick (R305, R306): the holdoff window counts elapsed time. -/
def capEdge (f : Fabric) (t : TbState) (src : Nat) (rising : Bool) (phase : Nat) : Fabric × TbState :=
  let stamp := stampAt f t phase
  let now := elapsedAt t phase
  (upto 12).foldl (fun (acc : Fabric × TbState) k =>
    let f := acc.1
    let cfg := rdR f (capAt k 0)
    let u := capOfUnit acc.2 k
    let far := match u.last with
      | none => true
      | some l => decide (fld cfg 15 8 * 16 * 2 ^ 10 < now - l)
    if fld cfg 4 0 = src ∧ bit cfg (if rising then 5 else 6) ∧ enabled f pTB ∧ far = true then
      let hit := decide (fld cfg 31 16 ≤ u.n)
      let t := setCap acc.2 k { u with n := if hit then 0 else u.n + 1, last := some now }
      if hit then capRecord f t k ⟨stamp, f.msc.toNat⟩ else (f, t)
    else acc) (f, t)

/-- The monitor of PPS_IN0 or PPS_IN1 (capture sources 8 and 9) inverts its signal (R305, R328). -/
def ppsInverted (f : Fabric) (src : Nat) : Bool :=
  (src == 8 || src == 9) && getB f (ra pREF (0x114 + 0x10 * (src - 8))) 8 && !getB f (ra pREF (0x110 + 0x10 * (src - 8))) 8

/-- An edge on a pin source (R305): an event pin counts while it is an input; a reversed PPS counts inverted (R328). -/
def pinEdge (f : Fabric) (t : TbState) (src : Nat) (rising : Bool) (phase : Nat) : Fabric × TbState :=
  if src < 8 ∧ getB f (evtAt src) 0 then (f, t)
  else capEdge f t src (rising != ppsInverted f src) phase

/-- A read of CAP_NS by requester q (R307). -/
def capRead (f : Fabric) (t : TbState) (q k : Nat) : Fabric × TbState :=
  let u := capOfUnit t k
  match u.q with
  | [] => (latch (answer f q 0) q (snapWords (capAt k 0xC) 0 0), t)
  | e :: r =>
    (latch (answer (putF f (capAt k 4) 2 0 r.length) q (e.time / 2 ^ 32 % 2 ^ 32)) q (snapWords (capAt k 0xC) e.time e.msc),
     setCap t k { u with q := r })

/-- A write of CAP_CFG (R305, R306): the count of DIV restarts, the holdoff window runs on. -/
def capCfgWrite (f : Fabric) (t : TbState) (k : Nat) (v : Word) : Fabric × TbState :=
  if 24 ≤ fld v 4 0 then (fail f pTB 0x0104 (offOf (capAt k 0)), t)
  else (wrR f (capAt k 0) (v &&& 0xFFFF_FF7F), setCap t k { capOfUnit t k with n := 0 })

-- Comparators (R308 to R313)

/-- ARMED of comparator n. -/
def cmpArmed (f : Fabric) (n : Nat) : Bool := getB f (cmpAt n 0x14) 0

/-- The target of comparator n has been reached (R308, R309). -/
def cmpReached (f : Fabric) (t : TbState) (n : Nat) : Bool :=
  match (cmpOf t n).tgt with
  | none => false
  | some g =>
    if fld (rdR f (cmpAt n 0)) 1 0 = 1 then running f && decide (g ≤ f.msc.toNat)
    else decide (0 ≤ sx 40 (time40 f + 2 ^ 40 - g))

/-- The target the registers give (R308). -/
def cmpTarget (f : Fabric) (n : Nat) : Option Nat :=
  let base := fld (rdR f (cmpAt n 0)) 1 0
  if base = 0 then some (getF f (cmpAt n 8) 7 0 * 2 ^ 32 + rdN f (cmpAt n 4))
  else if base = 1 then some (rdN f (cmpAt n 8) * 2 ^ 32 + rdN f (cmpAt n 4))
  else none

/-- A write of CMP_CMD with ARM (R309, R311). -/
def cmpArm (f : Fabric) (t : TbState) (n : Nat) : Fabric × TbState :=
  if !ready f pTB then (fail f pTB 1 (offOf (cmpAt n 0x10)), t)
  else if cmpArmed f n then (fail f pTB 0x0103 (offOf (cmpAt n 0x10)), t)
  else
    let t := setCmp t n ⟨cmpTarget f n, false, t.ticks⟩
    let late := cmpReached f t n
    (putB f (cmpAt n 0x14) 0 true, setCmp t n ⟨cmpTarget f n, late, t.ticks⟩)

/-- A fire of comparator n is due at the present tick (R308, R309): an ARM after its target fires from the tick after it. -/
def cmpDue (f : Fabric) (t : TbState) (n : Nat) : Bool :=
  cmpArmed f n && enabled f pTB && (cmpReached f t n || (cmpOf t n).late) && (!(cmpOf t n).late || decide ((cmpOf t n).armed < t.ticks))

/-- A write of CMP_CMD with DISARM (R311). -/
def cmpDisarm (f : Fabric) (t : TbState) (n : Nat) : Fabric × TbState :=
  if !ready f pTB then (fail f pTB 1 (offOf (cmpAt n 0x10)), t)
  else (putB f (cmpAt n 0x14) 0 false, setCmp t n Cmp.reset)

/-- The next target of a periodic comparator: the least g + k·per that lies above now, for a distance d from g (R310). -/
def skipTarget (g per d : Nat) : Nat × Nat := (g + (d / per + 1) * per, d / per + 1)

/-- The event pins that a fire of comparator n drives (R314). -/
def pinFire (f : Fabric) (t : TbState) (n : Nat) : TbState :=
  (upto 8).foldl (fun t p =>
    let c := rdR f (evtAt p)
    let v := pinOf t p
    if bit c 0 ∧ fld c 4 2 = n then
      if bit c 5 then setPin t p { v with level := !v.level }
      else setPin t p ⟨true, some (t.ticks + max 1 (fld c 31 16))⟩
    else t) t

/-- A fire of comparator n within the timebase (R308 to R312): status, the next target, event pins and capture units; false
where it does not fire. -/
def cmpFire (f : Fabric) (t : TbState) (n : Nat) : Fabric × TbState × Bool :=
  if !(cmpArmed f n && enabled f pTB && (cmpReached f t n || (cmpOf t n).late)) then (f, t, false)
  else
    let late := (cmpOf t n).late
    let base := fld (rdR f (cmpAt n 0)) 1 0
    let per := rdN f (cmpAt n 0xC)
    let f := putB f (cmpAt n 0x14) 1 true
    let f := if late then raise (putB f (cmpAt n 0x14) 2 true) pTB 23 else f
    let f := wrN f (cmpAt n 0x1C) (timeNs f)
    let f := raise f pTB (12 + n)
    let (f, t) :=
      if base = 2 then (f, setCmp t n { cmpOf t n with tgt := none, late := false })
      else if per = 0 then (putB f (cmpAt n 0x14) 0 false, setCmp t n Cmp.reset)
      else
        let g := (cmpOf t n).tgt.getD 0
        let r :=
          if base = 0 then
            let per := max 1000 per
            let d := sx 40 (time40 f + 2 ^ 40 - (g + per) % 2 ^ 40)
            if d < 0 then ((g + per) % 2 ^ 40, 0)
            else let k := skipTarget (g + per) per d.toNat; (k.1 % 2 ^ 40, k.2)
          else if f.msc.toNat < g + per then (g + per, 0) else skipTarget (g + per) per (f.msc.toNat - (g + per))
        (bump f (cmpAt n 0x18) r.2, setCmp t n { cmpOf t n with tgt := some r.1, late := false })
    let t := pinFire f t n
    let (f, t) := capEdge f t (16 + n) true 0
    (f, t, true)

/-- A write of CMP_CFG, CMP_T_LO, CMP_T_HI or CMP_PERIOD (R308, R311). -/
def cmpRegWrite (f : Fabric) (n off : Nat) (v : Word) : Fabric :=
  let a := cmpAt n off
  if cmpArmed f n then fail f pTB 0x0103 (offOf a)
  else if off = 0 ∧ (fld v 1 0 = 3 ∨ 12 ≤ fld v 6 3) then fail f pTB 0x0104 (offOf a)
  else wrR f a (if off = 0 then v &&& 0x1_F17B else v)

/-- Engine stop disarms the MSC comparators (R311). -/
def cmpStop (f : Fabric) (t : TbState) : Fabric × TbState :=
  (upto 8).foldl (fun (acc : Fabric × TbState) n =>
    if fld (rdR acc.1 (cmpAt n 0)) 1 0 = 1 ∧ cmpArmed acc.1 n then
      (putB (putB acc.1 (cmpAt n 0x14) 0 false) (cmpAt n 0x14) 3 true, setCmp acc.2 n Cmp.reset)
    else acc) (f, t)

/-- TB.PAGE_CTRL.ENABLE returns to 1: a comparator whose target was reached meanwhile fires with LATE (R311). -/
def tbEnable (f : Fabric) (t : TbState) : TbState :=
  (upto 8).foldl (fun t n =>
    if cmpArmed f n && cmpReached f t n then setCmp t n { cmpOf t n with late := true } else t) t

-- Event pins (R314)

/-- A write of EVT_CFG (R314). -/
def evtCfgWrite (f : Fabric) (t : TbState) (p : Nat) (v : Word) : Fabric × TbState :=
  let a := evtAt p
  if !ready f pTB then (fail f pTB 1 (offOf a), t)
  else
    let old := rdR f a
    let v := v &&& 0xFFFF_003F
    (wrR f a v, if bit v 0 != bit old 0 || bit v 5 != bit old 5 then setPin t p EvtPin.reset else t)

/-- The end of a pulse whose width has passed (R314). -/
def evtPulseEnd (t : TbState) (p : Nat) : TbState :=
  match (pinOf t p).pulse with
  | some e => if e ≤ t.ticks then setPin t p EvtPin.reset else t
  | none => t

/-- The level an output pin drives; none while the pin is an input (R314). -/
def evtLevel (f : Fabric) (t : TbState) (p : Nat) : Option Bool :=
  let c := rdR f (evtAt p)
  if bit c 0 then some ((pinOf t p).level != bit c 1) else none

/-- TB soft reset (R317): the counter and the LATCH set keep running. -/
def tbSoft (f : Fabric) (t : TbState) : Fabric × TbState :=
  let f := softClear f pTB (fun o => decide (o < 0x40))
  let f := clearBanks f 0x8040 0x9000
  let f := (upto 12).foldl (fun f k => putF f (capAt k 4) 2 0 0) f
  let f := (upto 8).foldl (fun f n => putB f (cmpAt n 0x14) 0 false) f
  let t := { TbState.reset with ticks := t.ticks }
  (tbPendBits (anyOvf f) t, t)

/-- ANCHOR_MEDIA less ANCHOR_MSC of a bank (R315). -/
def anchorOf (f : Fabric) (bank : Bool) : Nat :=
  let w (o : Nat) : Nat := (rdB f bank (ra pTB o)).toNat
  (w 0xA8 + w 0xAC * 2 ^ 32 + 2 ^ 64 - (w 0xA0 + w 0xA4 * 2 ^ 32)) % 2 ^ 64

/-- A swap of the anchors at boundary b (R316): the pair before it is kept for the sample periods before b. -/
def anchorSwap (f : Fabric) (t : TbState) (b : Nat) : TbState :=
  { t with anch := ((b, anchorOf f (!actB f pTB)) :: t.anch).take 32 }

/-- N(m) of R315 with the anchors of sample period m (R316). -/
def mediaCount (f : Fabric) (t : TbState) (m : Nat) : Nat :=
  let a := match (t.anch.takeWhile (fun e => decide (m < e.1))).getLast? with
    | some e => e.2
    | none => anchorOf f (actB f pTB)
  (a + m) % 2 ^ 64

end Sys2Proof.Machine
end

