-- ==== Sys2Proof/Machine/Net.lean ====
section
/-! DEFINITION. Network ports (12): link, frame checks and filters, management queues, transmit selection with credits and gates,
TX time-stamps and statistics, as functions of the fabric, the memories and the port state. -/
namespace Sys2Proof.Machine

def portOf (n : NetState) (p : Nat) : NetPort := if p = 0 then n.a else n.b
def setPort (n : NetState) (p : Nat) (v : NetPort) : NetState := if p = 0 then { n with a := v } else { n with b := v }
/-- The offset of a NET register. -/
def netAt (p off : Nat) : Nat := ra (pNET p) off
/-- The offset of a ring's register (R397). -/
def ringAt (p r off : Nat) : Nat := netAt p (0x600 + 0x20 * r + off)

/-- Counts in a 64-bit statistics counter, which wraps (R384). -/
def stat (n : NetState) (p i : Nat) (k : Nat := 1) : NetState :=
  let v := portOf n p
  setPort n p { v with stats := mset zeroN v.stats i ((mget zeroN v.stats i + k) % 2 ^ 64) }

def netMode (f : Fabric) (p : Nat) : Nat := getF f (netAt p 0x40) 1 0
def linkUp (f : Fabric) (p : Nat) : Bool := getB f (netAt p 0x44) 0
/-- The port rate in kbit/s (R365, R380). -/
def portRate (f : Fabric) (p : Nat) : Nat := if netMode f p = 0 then 10000000 else 25000000
/-- The time of a frame with preamble and inter-frame gap, in 1/100 ns (R379). -/
def wireTime (f : Fabric) (p len : Nat) : Nat := (len + 20) * (if netMode f p = 0 then 80 else 32)
/-- The PMA latencies of R365, in 1/256 ns to the nearest. -/
def pmaTx (f : Fabric) (p : Nat) : Nat := if netMode f p = 0 then 6349 else 3174
def pmaRx (f : Fabric) (p : Nat) : Nat := if netMode f p = 0 then 7936 else 3968

/-- SETTLING of a NET page (R397). -/
def netSettle (f : Fabric) (p : Nat) : Fabric :=
  putB f (netAt p 0x0C) 3 ((enabled f (pNET p) && !linkUp f p) || getB f (netAt p 0x844) 0)

-- Link (R365, R366)

/-- LINK_UP follows the lock, alignment and HI_BER bits (R366). -/
def linkSet (f : Fabric) (n : NetState) (p : Nat) (lock am hiber : Bool) : Fabric × NetState :=
  let was := rdR f (netAt p 0x44)
  let up := enabled f (pNET p) && lock && (netMode f p != 2 || am) && !hiber
  let f := wrN f (netAt p 0x44) (up.toNat + 2 * lock.toNat + 4 * am.toNat + 8 * hiber.toNat)
  let n := if hiber && !bit was 3 then stat n p 45 else n
  let n := if !lock && bit was 1 then stat n p 46 else n
  let n := if !up && bit was 0 then stat n p 44 else n
  let f := raiseIf (hiber && !bit was 3) f (pNET p) 15
  let f := raiseIf (up != bit was 0) f (pNET p) 0
  (netSettle f p, n)

/-- LINK_UP changes with the PCS (R366). -/
def linkChange (f : Fabric) (n : NetState) (p : Nat) (lock am hiber : Bool) : Fabric × NetState :=
  if enabled f (pNET p) then linkSet f n p lock am hiber else (f, n)

/-- A write of NET ENABLE (R397): while it is 0 the lane is off. -/
def netEnable (f : Fabric) (n : NetState) (p : Nat) (on : Bool) : Fabric × NetState :=
  let f := putB f (netAt p 0x08) 0 on
  if on then (netSettle f p, n) else linkSet f n p false false false

-- Frames on the wire (R371, R372)

/-- One step of the CRC-32 of IEEE 802.3 on a byte (R372). -/
def crcByte (c : Nat) (b : Byte) : Nat :=
  (upto 8).foldl (fun c _ => if c % 2 = 1 then Nat.xor (c / 2) 0xEDB88320 else c / 2) (Nat.xor c b.toNat)
/-- The CRC-32 of IEEE 802.3 (R372). -/
def crc32 (l : List Byte) : Nat := Nat.xor (l.foldl crcByte 0xFFFF_FFFF) 0xFFFF_FFFF

/-- A frame as it leaves the port (R371): padded with zeros to 60 bytes, with its FCS. -/
def wireBytes (l : List Byte) : List Byte :=
  let b := l ++ List.replicate (60 - l.length) 0
  b ++ leBytes 4 (crc32 b)

-- Gates and credits (R380 to R382)

def gclOf (l : List (Nat × (Nat × Nat))) (i : Nat) : Nat × Nat := mget (fun _ => (255, 0)) l i

/-- The segments of one cycle of a gate list of n entries: duration and gates (R381). -/
def gateSegs (l : List (Nat × (Nat × Nat))) (cycle n : Nat) : List (Nat × Nat) :=
  let ents := ((upto n).map (gclOf l)).filter (fun e => e.2 != 0)
  let r := ents.foldl (fun (acc : List (Nat × Nat) × Nat) e =>
    let d := min e.2 (cycle - acc.2)
    if d = 0 then acc else (acc.1 ++ [(d, e.1)], acc.2 + d)) ([], 0)
  if r.2 < cycle then
    match r.1.getLast? with
    | some e => r.1.dropLast ++ [(e.1 + (cycle - r.2), e.2)]
    | none => [(cycle, (gclOf l (n - 1)).1)]
  else r.1
/-- The segments of one operating cycle (R381). -/
def operSegs (f : Fabric) (v : NetPort) (p : Nat) : List (Nat × Nat) := gateSegs v.oper (rdN f (netAt p 0x86C)) (rdN f (netAt p 0x870))

/-- The operating list governs the gates. -/
def gating (f : Fabric) (p : Nat) : Bool := getB f (netAt p 0x840) 0 && getB f (netAt p 0x844) 1

/-- The segments from a place in the cycle on, once round. -/
def segsFrom (segs : List (Nat × Nat)) (pos : Nat) : List (Nat × Nat) :=
  let r := segs.foldl (fun (acc : List (Nat × Nat) × List (Nat × Nat) × Nat) e =>
    if acc.2.2 + e.1 ≤ pos then (acc.1 ++ [e], acc.2.1, acc.2.2 + e.1)
    else if acc.2.2 < pos then (acc.1 ++ [(pos - acc.2.2, e.2)], acc.2.1 ++ [(acc.2.2 + e.1 - pos, e.2)], acc.2.2 + e.1)
    else (acc.1, acc.2.1 ++ [e], acc.2.2 + e.1)) ([], [], 0)
  r.2.1 ++ r.1

/-- The place in the operating cycle (R381), whichever way the counter has been stepped. -/
def cyclePos (f : Fabric) (v : NetPort) (p : Nat) : Nat :=
  (sx 40 ((time40 f + 2 ^ 40 - v.cycleAt) % 2 ^ 40) % (max 1 (rdN f (netAt p 0x86C)) : Nat)).toNat

/-- Nanoseconds for which a class stays open along the segments; none where no segment closes it. -/
def openRun (s : List (Nat × Nat)) (c : Nat) : Option Nat :=
  if s.all (fun e => e.2.testBit c) then none
  else some ((s.takeWhile (fun e => e.2.testBit c)).foldl (fun a e => a + e.1) 0)

/-- Nanoseconds before the gate of a class next closes; none where it never does (R379). At the instant of a pending change the
admin list takes over (R382). -/
def gateRemain (f : Fabric) (v : NetPort) (p c : Nat) : Option Nat :=
  let here := if gating f p then openRun (segsFrom (operSegs f v p) (cyclePos f v p)) c else none
  match v.change with
  | some at_ =>
    let d := (at_ + 2 ^ 40 - time40 f) % 2 ^ 40
    if !getB f (netAt p 0x840) 0 || here.any (fun r => decide (r < d)) then here
    else (openRun (gateSegs v.admin (rdN f (netAt p 0x850)) (rdN f (netAt p 0x854))) c).map (· + d)
  | none => here

/-- The longest open run of a class in the operating list; none where it never closes (R382). -/
def longestOpen (f : Fabric) (v : NetPort) (p c : Nat) : Option Nat :=
  if !gating f p then none
  else
    let s := operSegs f v p
    if s.all (fun e => e.2.testBit c) then none
    else
      let r := (s ++ s).foldl (fun (acc : Nat × Nat) e =>
        if e.2.testBit c then (acc.1 + e.1, max acc.2 (acc.1 + e.1)) else (0, acc.2)) (0, 0)
      some r.2

/-- The credits brought to the present instant (R380), of elapsed time now in ns: a class that sends falls, one that waits rises, a
closed one holds. -/
def creditsNow (f : Fabric) (n : NetState) (p : Nat) : NetState :=
  let v := portOf n p
  let dt : Int := (n.now - v.creditAt : Nat)
  let one (cr : List (Nat × Int)) (c : Nat) : List (Nat × Int) :=
    let w := rdR f (netAt p (0x800 + 4 * c))
    if !bit w 31 then cr
    else
      let slope : Int := min (fld w 24 0) (portRate f p)
      let old := mget zeroI cr c
      let waits := v.queue.any (fun t => t.cls == c)
      let sends := match v.cur with
        | some (t, _) => t.cls == c
        | none => false
      let new :=
        if sends then old + dt * (slope - portRate f p)
        else if !v.mask.testBit c then old
        else if waits then old + dt * slope
        else if old < 0 then min 0 (old + dt * slope)
        else 0
      mset zeroI cr c new
  setPort n p { v with credit := (upto 8).foldl one v.credit, creditAt := n.now }

/-- The gates of the present instant (R381). -/
def gatesNow (f : Fabric) (n : NetState) (p : Nat) : NetState :=
  let n := creditsNow f n p
  let v := portOf n p
  if !gating f p then setPort n p { v with mask := 255 }
  else
    let pos := cyclePos f v p
    let m := match segsFrom (operSegs f v p) pos with
      | e :: _ => e.2
      | [] => 255
    setPort n p { v with mask := m, cycleAt := (time40 f + 2 ^ 40 - pos) % 2 ^ 40 }

/-- A gate interval ends and the next entry's gates apply (R381). -/
def gateInterval (f : Fabric) (n : NetState) (p : Nat) : NetState := gatesNow f n p

-- Rings (R376, R377)

/-- A frame of ring r of the port is queued or being sent: its descriptor is in progress (R376). -/
def ringBusy (v : NetPort) (r : Nat) : Bool :=
  let own (t : TxFrame) : Bool := match t.body with
    | .mgmt k _ _ _ _ => k == r
    | .stream _ _ => false
  v.queue.any own || v.cur.any (fun c => own c.1)

/-- A ring stops with ERR (R376). -/
def ringErr (f : Fabric) (p r : Nat) : Fabric :=
  putB (putB (putB f (ringAt p r 0x14) 1 true) (ringAt p r 0x14) 0 false) (ringAt p r 0x10) 0 false

/-- A write of RING_CTRL (R376, R397): clearing RUN stops the ring after the descriptor in progress. -/
def ringCtrl (f : Fabric) (n : NetState) (p r : Nat) (v : Word) : Fabric × NetState :=
  let run := bit v 0
  let size := getF f (ringAt p r 4) 10 0
  if !run then (putB (putB f (ringAt p r 0x10) 0 false) (ringAt p r 0x14) 0 (getB f (ringAt p r 0x14) 0 && ringBusy (portOf n p) r), n)
  else if getB f (ringAt p r 0x10) 0 then (f, n)
  else if size < 2 ∨ 1024 < size then (ringErr f p r, n)
  else
    let x := portOf n p
    (putB (putB f (ringAt p r 0x10) 0 true) (ringAt p r 0x14) 0 true,
     setPort n p { x with rings := mset (fun _ => RingSt.reset) x.rings r ⟨rdN f (ringAt p r 0xC), []⟩ })

/-- A write of RING_SIZE (R397): a running ring stops with ERR at a size it does not have. -/
def ringSize (f : Fabric) (p r : Nat) : Fabric :=
  let size := getF f (ringAt p r 4) 10 0
  if getB f (ringAt p r 0x10) 0 && (decide (size < 2) || decide (1024 < size)) then ringErr f p r else f

/-- The ring takes its next descriptor: it is ACTIVE, and RUN has not been cleared (R376). -/
def ringRuns (f : Fabric) (p r : Nat) : Bool := getB f (ringAt p r 0x14) 0 && getB f (ringAt p r 0x10) 0
/-- The DRAM address of a descriptor. -/
def descAt (f : Fabric) (p r i : Nat) : Nat := rdN f (ringAt p r 0) + 16 * i

/-- A frame reaches management queue q (R376, R377): bytes without FCS and tag, and its stamp in 1/256 ns. -/
def mqDeliver (f : Fabric) (m : MemState) (n : NetState) (p q : Nat) (bytes : List Byte) (tagged : Bool) (vid pcp stamp : Nat) :
    Fabric × MemState × NetState :=
  let tail := rdN f (ringAt p q 0xC)
  let drop (f : Fabric) (m : MemState) : Fabric × MemState × NetState := (raise f (pNET p) 13, m, stat n p (18 + q))
  if !ringRuns f p q || tail == rdN f (ringAt p q 8) then drop f m
  else
    let d := dramRead f m 6 (descAt f p q tail) 16
    let f := d.1
    let m := d.2.1
    let w := wordsOf 4 (rawBytes d.2.2)
    let addr := ((w[0]?.getD 0)).toNat
    if !readOk d.2.2 || decide (dramTop ≤ addr) then drop (ringErr f p q) m
    else
      let r := dramWrite f m 6 addr (bytes.take 9216)
      let w1 := 2 ^ 31 + q * 2 ^ 24 + tagged.toNat * 2 ^ 20 + bytes.length % 2 ^ 14
      let w3 := pcp * 2 ^ 20 + vid * 2 ^ 8 + stamp % 256
      let r := dramWrite r.1 r.2 6 (descAt f p q tail + 4) (leBytes 4 w1 ++ leBytes 4 (stamp / 256 % 2 ^ 32) ++ leBytes 4 w3)
      let f := wrN r.1 (ringAt p q 0xC) ((tail + 1) % getF r.1 (ringAt p q 4) 10 0)
      (raise f (pNET p) (7 + q), r.2, stat (stat n p (14 + q)) p 47)

/-- A TX descriptor is written back, and TAIL moves past every descriptor written back in order (R376, R378). -/
def txBack (f : Fabric) (m : MemState) (n : NetState) (p r i status : Nat) : Fabric × MemState × NetState :=
  let w := dramWrite f m 6 (descAt f p r i + 12) (leBytes 4 (2 ^ 31 + status))
  let f := w.1
  let x := portOf n p
  let s := mget (fun _ => RingSt.reset) x.rings r
  let size := getF f (ringAt p r 4) 10 0
  let adv := (upto 1024).foldl (fun (acc : Nat × List Nat) _ =>
    if acc.2.contains acc.1 then ((acc.1 + 1) % max 1 size, acc.2.filter (· != acc.1)) else acc)
    (rdN f (ringAt p r 0xC), s.done ++ [i])
  let f := putB (wrN f (ringAt p r 0xC) adv.1) (ringAt p r 0x14) 0 (ringRuns f p r)
  let n := setPort n p { x with rings := mset (fun _ => RingSt.reset) x.rings r { s with done := adv.2 } }
  (raise f (pNET p) (11 + (r - 4)), w.2, n)

/-- Whether a frame is unicast (0), multicast (1) or broadcast (2). -/
def castOf (dst : List Byte) : Nat :=
  if dst.all (fun b => b == 0xFF) then 2 else if (dst.head?.elim 0 (·.toNat)) % 2 = 1 then 1 else 0

/-- A management TX descriptor is read and its frame queued, or refused (R366, R371, R377, R378): TX ring t. A ring's next frame is
ready when the one before it has been sent or refused, so that the ring's order holds across the classes. -/
def txDescriptor (f : Fabric) (m : MemState) (n : NetState) (p t : Nat) : Fabric × MemState × NetState :=
  let r := 4 + t
  let x := portOf n p
  let s := mget (fun _ => RingSt.reset) x.rings r
  if !ringRuns f p r || ringBusy x r || s.fetch == rdN f (ringAt p r 8) then (f, m, n)
  else
    let i := s.fetch
    let d := dramRead f m 6 (descAt f p r i) 16
    let f := d.1
    let m := d.2.1
    let w := wordsOf 4 (rawBytes d.2.2)
    let addr := (w[0]?.getD 0).toNat
    let w1 := w[1]?.getD 0
    let len := fld w1 13 0
    if !readOk d.2.2 || decide (dramTop ≤ addr) then (ringErr f p r, m, n)
    else
      let s' : RingSt := { s with fetch := (i + 1) % getF f (ringAt p r 4) 10 0 }
      let n := setPort n p { x with rings := mset (fun _ => RingSt.reset) x.rings r s' }
      if len < 14 ∨ getF f (netAt p 0x50) 13 0 < len + 4 then
        let b := txBack f m (stat n p 39) p r i 1
        (raise b.1 (pNET p) 4, b.2)
      else if dramBad addr len then txBack f m n p r i 2
      else if !linkUp f p then txBack f m n p r i 3
      else
        let b := dramRead f m 6 addr len
        let n := if readOk b.2.2 then n else stat n p 22
        let bytes := zeroPoison b.2.2
        let n := creditsNow f n p
        let x := portOf n p
        let fr : TxFrame := ⟨fld w1 18 16, max 64 (len + 4), castOf (bytes.take 6), decide (len < 60), f.msc.toNat,
          .mgmt r i (fld (w[2]?.getD 0) 15 0) (bit w1 20) (wireBytes bytes)⟩
        (b.1, b.2.1, setPort n p { x with queue := x.queue ++ [fr] })

-- Transmit selection (R379, R382)

/-- A frame leaves a class queue. -/
def dropFrame (v : NetPort) (t : TxFrame) : NetPort := { v with queue := v.queue.erase t }

/-- Frames at the head of a class that no open interval can hold are discarded (R382). -/
def gateDrops (f : Fabric) (m : MemState) (n : NetState) (p : Nat) : Fabric × MemState × NetState :=
  (portOf n p).queue.foldl (fun (acc : Fabric × MemState × NetState) t =>
    let v := portOf acc.2.2 p
    match longestOpen acc.1 v p t.cls with
    | none => acc
    | some ns =>
      if (v.queue.find? (fun u => u.cls == t.cls)) == some t && decide (100 * ns < wireTime acc.1 p t.len) then
        let n := stat (setPort acc.2.2 p (dropFrame v t)) p 41
        let f := raise acc.1 (pNET p) 16
        match t.body with
        | .mgmt r i _ _ _ => txBack f acc.2.1 n p r i 4
        | .stream _ _ => (f, acc.2.1, n)
      else acc) (f, m, n)

/-- A queued management frame that a lowered MAX_FRAME no longer admits (R370, R371). -/
def tooLong (f : Fabric) (p : Nat) (t : TxFrame) : Bool :=
  match t.body with
  | .mgmt _ _ _ _ _ => decide (getF f (netAt p 0x50) 13 0 < t.len)
  | .stream _ _ => false
/-- Management frames at the head of a class that are too long are not sent (R370, R371): each is written back with TX_LEN_ERR. -/
def lenDrops (f : Fabric) (m : MemState) (n : NetState) (p : Nat) : Fabric × MemState × NetState :=
  (portOf n p).queue.foldl (fun (acc : Fabric × MemState × NetState) t =>
    let v := portOf acc.2.2 p
    if tooLong acc.1 p t && (v.queue.find? (fun u => u.cls == t.cls)) == some t then
      match t.body with
      | .mgmt r i _ _ _ =>
        let b := txBack acc.1 acc.2.1 (stat (setPort acc.2.2 p (dropFrame v t)) p 39) p r i 1
        (raise b.1 (pNET p) 4, b.2)
      | .stream _ _ => acc
    else acc) (f, m, n)

/-- The head of a class may start (R379). -/
def mayStartFrame (f : Fabric) (v : NetPort) (p : Nat) (t : TxFrame) : Bool :=
  v.mask.testBit t.cls &&
    (!getB f (netAt p (0x800 + 4 * t.cls)) 31 || decide (0 ≤ mget zeroI v.credit t.cls)) &&
    (match gateRemain f v p t.cls with
     | none => true
     | some ns => decide (wireTime f p t.len ≤ 100 * ns))

/-- The frame an idle port starts (R379). -/
def selectFrame (f : Fabric) (v : NetPort) (p : Nat) : Option TxFrame :=
  ((upto 8).reverse.filterMap (fun c => v.queue.find? (fun t => t.cls == c))).find? (mayStartFrame f v p)

/-- An idle port starts a frame (R379); its SFD crosses at a stamp in 1/256 ns. -/
def txStart (f : Fabric) (m : MemState) (n : NetState) (p stamp : Nat) : Fabric × MemState × NetState :=
  if !linkUp f p || (portOf n p).cur.isSome then (f, m, n)
  else
    let (f, m, n) := gateDrops f m (gatesNow f n p) p
    let (f, m, n) := lenDrops f m n p
    match selectFrame f (portOf n p) p with
    | none => (f, m, n)
    | some t => (f, m, setPort n p { dropFrame (portOf n p) t with cur := some (t, stamp) })

/-- A TX stamp reaches the queue, or is lost (R383). -/
def tsqPush (f : Fabric) (n : NetState) (p : Nat) (e : TsEntry) : Fabric × NetState :=
  let v := portOf n p
  if v.tsq.length < 16 then
    (raise (putF f (netAt p 0x70C) 4 0 (v.tsq.length + 1)) (pNET p) 5, setPort n p { v with tsq := v.tsq ++ [e] })
  else
    let f := putB f (netAt p 0x70C) 8 true
    (raise (wrN (bump f (netAt p 0x710)) (netAt p 0x714) e.tag) (pNET p) 6, n)

/-- The TX stamp of a frame (R367). -/
def txStamp (f : Fabric) (p boundary : Nat) : Nat := (boundary + pmaTx f p + getF f (netAt p 0x54) 23 0) % 2 ^ 48

/-- A frame has left the port (R376, R383, R384). -/
def txEnd (f : Fabric) (m : MemState) (n : NetState) (p : Nat) : Fabric × MemState × NetState :=
  match (portOf n p).cur with
  | none => (f, m, n)
  | some (t, stamp) =>
    let n := creditsNow f n p
    let n := setPort n p { portOf n p with cur := none }
    let n := stat (stat n p 32) p 33 t.len
    let n := if t.padded then stat n p 38 else n
    let n := if t.cast = 1 then stat n p 36 else if t.cast = 2 then stat n p 37 else n
    match t.body with
    | .stream pk _ =>
      let a := ra (pSTRM + 5 + pk.stream / 256) (0x40 + 0xC * (pk.stream % 256) + 4)
      (bump f a, m, stat n p 34)
    | .mgmt r i tag req _ =>
      let (f, m, n) := txBack f m (stat n p 35) p r i 0
      if req then
        let s := txStamp f p stamp
        let r := tsqPush f (stat n p 43) p ⟨tag, t.cls, s / 256 % 2 ^ 32, s % 256⟩
        (r.1, m, r.2)
      else (f, m, n)

/-- A read of TSQ_TAG (R383). -/
def tsqRead (f : Fabric) (n : NetState) (q p : Nat) : Fabric × NetState :=
  let v := portOf n p
  match v.tsq with
  | [] => (latch (answer f q 0) q [(netAt p 0x704, 0), (netAt p 0x708, 0)], n)
  | e :: r =>
    let f := latch (answer f q (2 ^ 31 + e.cls * 2 ^ 16 + e.tag)) q
      [(netAt p 0x704, BitVec.ofNat 32 e.ns), (netAt p 0x708, BitVec.ofNat 32 (e.frac * 2 ^ 24))]
    (putF f (netAt p 0x70C) 4 0 r.length, setPort n p { v with tsq := r })

-- Gate lists (R381, R382)

/-- The change instant of R382. -/
def changeInstant (f : Fabric) (p : Nat) : Nat :=
  let base := getF f (netAt p 0x84C) 7 0 * 2 ^ 32 + rdN f (netAt p 0x848)
  let cycle := rdN f (netAt p 0x850)
  let ahead := (base + 2 ^ 40 - time40 f) % 2 ^ 40
  if 0 < ahead ∧ ahead ≤ 2 ^ 39 then base
  else
    let d := (time40 f + 2 ^ 40 - base) % 2 ^ 40
    (base + (d / cycle + 1) * cycle) % 2 ^ 40

/-- A write of GATE_CTRL (R381, R382): one that asks for a change while PENDING is rejected whole. -/
def gateCtrl (f : Fabric) (m : MemState) (n : NetState) (p : Nat) (v : Word) : Fabric × MemState × NetState :=
  let pend := getB f (netAt p 0x844) 0
  if bit v 1 && pend then (fail f (pNET p) 0x0103 0x840, m, n)
  else
    let f := putB f (netAt p 0x840) 0 (bit v 0)
    let n := gatesNow f n p
    if !bit v 1 then (f, m, n)
    else
      let n := setPort n p { portOf n p with change := some (changeInstant f p) }
      gateDrops (netSettle (putB f (netAt p 0x844) 0 true) p) m n p

/-- The change instant is reached (R382). -/
def gateApply (f : Fabric) (m : MemState) (n : NetState) (p : Nat) : Fabric × MemState × NetState :=
  match (portOf n p).change with
  | none => (f, m, n)
  | some at_ =>
    if 2 ^ 39 ≤ (time40 f + 2 ^ 40 - at_) % 2 ^ 40 then (f, m, n)
    else
      let n := creditsNow f n p
      let v := portOf n p
      let f := wrR (wrR (wrR f (netAt p 0x868) (rdR f (netAt p 0x848))) (netAt p 0x86C) (rdR f (netAt p 0x850)))
        (netAt p 0x870) (rdR f (netAt p 0x854))
      let f := putB (putB f (netAt p 0x844) 0 false) (netAt p 0x844) 1 true
      let n := gatesNow f (setPort n p { v with oper := v.admin, change := none, cycleAt := at_ }) p
      gateDrops (raise (netSettle f p) (pNET p) 14) m n p

/-- A write of GCL_ACCESS by requester q (R382, R397). -/
def gclAccess (f : Fabric) (n : NetState) (q p : Nat) (v : Word) : Fabric × NetState :=
  let sel := rdO f q (netAt p 0x858)
  let i := fld sel 7 0
  let x := portOf n p
  let (f, n) :=
    if !bit v 0 then (f, n)
    else if bit sel 16 then (fail f (pNET p) 0x0100 0x864, n)
    else if getB f (netAt p 0x844) 0 then (fail f (pNET p) 0x0103 0x864, n)
    else
      let e := (fld (rdO f q (netAt p 0x85C)) 7 0, fld (rdO f q (netAt p 0x860)) 29 0)
      (f, setPort n p { x with admin := mset (fun _ => (255, 0)) x.admin i e })
  if bit v 1 then
    let x := portOf n p
    let e := gclOf (if bit sel 16 then x.oper else x.admin) i
    (wrO (wrO f q (netAt p 0x85C) (BitVec.ofNat 32 e.1)) q (netAt p 0x860) (BitVec.ofNat 32 e.2), n)
  else (f, n)

-- Registers with checks, statistics, soft reset

/-- A write of PORT_CFG, MAX_FRAME or an admin field (R365, R370, R382); txMax is the longest frame of the port's enabled TX
streams. -/
def netWrite (f : Fabric) (p off txMax : Nat) (v : Word) : Fabric :=
  let a := netAt p off
  if off = 0x40 then
    if fld v 1 0 = 3 then fail f (pNET p) 0x0100 off
    else if enabled f (pNET p) ∧ fld v 1 0 ≠ netMode f p then fail f (pNET p) 0x0102 off
    else wrR f a (v &&& 0x33)
  else if off = 0x50 then
    let l := fld v 13 0
    if l < 64 ∨ 9216 < l then fail f (pNET p) 0x0100 off
    else if l < txMax then fail f (pNET p) 0x0101 off
    else wrN f a l
  else if getB f (netAt p 0x844) 0 then fail f (pNET p) 0x0103 off
  else if off = 0x850 ∧ (v.toNat < 1000 ∨ 1000000000 < v.toNat) then fail f (pNET p) 0x0100 off
  else if off = 0x854 ∧ (fld v 8 0 < 1 ∨ 256 < fld v 8 0) then fail f (pNET p) 0x0100 off
  else if off = 0x854 then wrR f a (v &&& 0x1FF)
  else if off = 0x84C then wrR f a (v &&& 0xFF)
  else wrR f a v

/-- A write of STATS_CTRL (R384). -/
def statsCtrl (f : Fabric) (n : NetState) (p : Nat) (v : Word) : Fabric × NetState :=
  let f := putB f (netAt p 0x580) 1 (bit v 1)
  if !bit v 0 then (f, n)
  else
    let x := portOf n p
    let f := (upto 48).foldl (fun f i =>
      let c := mget zeroN x.stats i
      wrN (wrN f (netAt p (0x400 + 8 * i)) (c % 2 ^ 32)) (netAt p (0x404 + 8 * i)) (c / 2 ^ 32)) f
    (f, if bit v 1 then setPort n p { x with stats := [] } else n)

/-- A NET soft reset (R397). -/
def netSoft (f : Fabric) (n : NetState) (p : Nat) : Fabric × NetState :=
  let f := softClear f (pNET p) (fun o => decide (o < 0x40))
  let f := (upto 6).foldl (fun f r => putB f (ringAt p r 0x14) 0 false) f
  let f := (upto 96).foldl (fun f i => wrN f (netAt p (0x400 + 4 * i)) 0) f
  let f := putB (putF f (netAt p 0x70C) 4 0 0) (netAt p 0x844) 0 false
  let n := gatesNow f n p
  (netSettle (softClearOwn f (pNET p)) p, setPort n p { portOf n p with stats := [], tsq := [], change := none, mask := 255 })

-- Received frames (R369 to R375)

/-- The hash bin of a destination (R372). -/
def hashBin (dst : List Byte) : Nat := nfld (crc32 dst) 31 20

/-- What the device reads of a frame: its header, with any VLAN tag removed. -/
structure Eth where
  dst : List Byte
  tagged : Bool
  vid : Nat
  pcp : Nat
  etype : Nat
  /-- the frame without tag and FCS -/
  bytes : List Byte
  /-- from the first byte after the EtherType -/
  pay : List Byte
  deriving DecidableEq, Repr

/-- Bytes i to i + n - 1 as a number, most significant first. -/
def be (l : List Byte) (i n : Nat) : Nat := beNat ((l.drop i).take n)

/-- Reads the Ethernet header (R373). -/
def ethOf (frame : List Byte) : Eth :=
  let b := frame.take (frame.length - 4)
  let tag := be b 12 2 == 0x8100
  let strip := if tag then b.take 12 ++ b.drop 16 else b
  { dst := b.take 6, tagged := tag, vid := if tag then be b 14 2 % 4096 else 0, pcp := if tag then be b 14 2 / 2 ^ 13 else 0,
    etype := be strip 12 2, bytes := strip, pay := strip.drop 14 }

/-- The address filter (R372). -/
def addrPass (f : Fabric) (p : Nat) (dst : List Byte) : Bool :=
  let d := beNat dst
  let exact := (upto 32).any (fun e =>
    getB f (netAt p (0xA4 + 8 * e)) 16 &&
      rdN f (netAt p (0xA0 + 8 * e)) * 2 ^ 16 + getF f (netAt p (0xA4 + 8 * e)) 15 0 == d)
  let own := rdN f (netAt p 0x48) * 2 ^ 16 + getF f (netAt p 0x4C) 15 0 == d
  let h := hashBin dst
  getB f (netAt p 0x40) 4 || castOf dst == 2 || exact ||
    (if castOf dst = 0 then own else getB f (netAt p (0x200 + 4 * (h / 32))) (h % 32))

/-- The VLAN filter (R373). -/
def vlanPass (f : Fabric) (p : Nat) (e : Eth) : Bool :=
  !e.tagged || e.vid == 0 || !getB f (netAt p 0x40) 5 ||
    (upto 16).any (fun v => getB f (netAt p (0x60 + 4 * v)) 15 && getF f (netAt p (0x60 + 4 * v)) 11 0 == e.vid)

/-- The first check of R369 a frame fails: its counter and cause; none where it passes all. -/
def frameFault (f : Fabric) (p : Nat) (frame : List Byte) (pcsErr : Bool) : Option (Nat × Option Nat) :=
  let e := ethOf frame
  if frame.length < 64 then some (5, some 1)
  else if getF f (netAt p 0x50) 13 0 < frame.length then some (6, some 2)
  else if crc32 (frame.take (frame.length - 4)) ≠ leNat (frame.drop (frame.length - 4)) then some (7, some 3)
  else if pcsErr then some (8, none)
  else if be frame 12 2 = 0x8808 then some (9, none)
  else if !addrPass f p e.dst then some (10, none)
  else if !vlanPass f p e then some (11, none)
  else none

/-- The ones' complement sum of 16-bit words. -/
def onesSum (l : List Byte) : Nat :=
  let go := (upto ((l.length + 1) / 2)).foldl (fun a i => a + beNat ((l ++ [0]).drop (2 * i) |>.take 2)) 0
  let s := go % 65536 + go / 65536
  s % 65536 + s / 65536

/-- What the device reads of an IP frame (R375). -/
structure Ip where
  v6 : Bool
  /-- protocol, or the first next header that is not an extension -/
  proto : Nat
  /-- a fragment, or a frame with extension headers -/
  odd : Bool
  dst : List Byte
  dport : Nat
  /-- the UDP payload -/
  pay : List Byte
  /-- header and UDP checksums hold -/
  ok : Bool
  deriving DecidableEq, Repr

/-- The header after IPv6 extension headers: next header and rest (R374). -/
def skipExt : Nat → Nat → List Byte → Nat × List Byte
  | 0, nh, l => (nh, l)
  | k + 1, nh, l =>
    if nh = 0 ∨ nh = 43 ∨ nh = 60 then skipExt k (be l 0 1) (l.drop (8 * (be l 1 1 + 1))) else (nh, l)

/-- Reads an IP header and, for UDP, its ports, payload and checksums (R375). -/
def ipOf (e : Eth) : Option Ip :=
  let l := e.pay
  let udp (v6 : Bool) (src dst seg : List Byte) : Nat × List Byte × Bool :=
    let ulen := be seg 4 2
    let pseudo := src ++ dst ++ (if v6 then beBytes 4 ulen ++ [0, 0, 0, 17] else [0, 17] ++ beBytes 2 ulen)
    let ck := be seg 6 2
    (be seg 2 2, (seg.take ulen).drop 8, (!v6 && ck == 0) || onesSum (pseudo ++ seg.take ulen) == 0xFFFF)
  if e.etype = 0x0800 ∧ be l 0 1 / 16 = 4 then
    let ihl := 4 * (be l 0 1 % 16)
    let frag := be l 6 2 % 2 ^ 14 != 0
    let seg := (l.take (be l 2 2)).drop ihl
    let hdrOk := onesSum (l.take ihl) == 0xFFFF
    let proto := be l 9 1
    let u := if proto = 17 ∧ !frag then udp false ((l.drop 12).take 4) ((l.drop 16).take 4) seg else (0, [], true)
    some { v6 := false, proto := proto, odd := frag, dst := (l.drop 16).take 4, dport := u.1, pay := u.2.1, ok := hdrOk && u.2.2 }
  else if e.etype = 0x86DD ∧ be l 0 1 / 16 = 6 then
    let nh := be l 6 1
    let x := skipExt 8 nh (l.drop 40)
    let ext := x.1 != nh || nh == 44
    let u := if nh = 17 then udp true ((l.drop 8).take 16) ((l.drop 24).take 16) ((l.drop 40).take (be l 4 2)) else (0, [], true)
    some { v6 := true, proto := x.1, odd := ext, dst := (l.drop 24).take 16, dport := u.1, pay := u.2.1, ok := u.2.2 }
  else none

/-- The management queue of a frame (R374). -/
def queueOf (e : Eth) (ip : Option Ip) : Nat :=
  let bad := ip.elim false (fun i => !i.ok)
  let port (n : Nat) : Bool := ip.elim false (fun i => i.proto == 17 && !i.odd && i.dport == n)
  let sub := be e.pay 0 1
  if bad then 3
  else if e.etype = 0x88F7 ∨ port 319 ∨ port 320 then 0
  else if e.etype = 0x22F0 ∧ (sub = 0xFA ∨ sub = 0xFB ∨ sub = 0xFC) then 1
  else if e.etype = 0x0806 ∨ ip.elim false (fun i => if i.v6 then i.proto == 58 else !i.odd && (i.proto == 1 || i.proto == 2)) then 2
  else 3

/-- A frame as the port receives it: its bytes from the destination address to the FCS, PCS errors, FEC codewords corrected
and not, memory that did not keep pace, and its SFD at a phase of the running tick (1/4096). -/
structure RxIn where
  bytes : List Byte
  pcsErr : Bool
  fecCorr : Nat
  fecBad : Nat
  overflow : Bool
  phase : Nat
  deriving DecidableEq, Repr

/-- The RX stamp of a frame, in 1/256 ns (R367). -/
def rxStamp (f : Fabric) (t : TbState) (p phase : Nat) : Nat :=
  (stampAt f t phase / 2 ^ 24 + 2 ^ 48 - pmaRx f p - getF f (netAt p 0x58) 23 0) % 2 ^ 48

/-- The size class of R384 of a frame. -/
def sizeClass (len : Nat) : Nat :=
  if len ≤ 64 then 25 else if len ≤ 127 then 26 else if len ≤ 255 then 27 else if len ≤ 511 then 28
  else if len ≤ 1023 then 29 else if len ≤ 1522 then 30 else 31

/-- The counters of a frame that passes every check (R384). -/
def countOk (n : NetState) (p : Nat) (e : Eth) (len : Nat) : NetState :=
  stat (stat (stat (stat n p 0) p 1 len) p (2 + castOf e.dst)) p (sizeClass len)

end Sys2Proof.Machine
end

