-- ==== Sys2Proof/Machine/StateChains.lean ====
section
/-! DEFINITION. The state of the speaker chains that no register shows: filter state, dynamics state, crossfades and stage
switches (06). -/
namespace Sys2Proof.Machine

/-- The state of one biquad, Q24.56 (R191). -/
structure BqSt where
  x1 : Int
  x2 : Int
  y1 : Int
  y2 : Int
  deriving DecidableEq, Repr

/-- A biquad in zero state. -/
def BqSt.zero : BqSt := ⟨0, 0, 0, 0⟩

/-- A convolution response in force (R194). -/
structure Resp where
  len : Nat
  shift : Nat
  /-- the non-zero taps by index -/
  taps : List (Nat × Int)
  deriving DecidableEq, Repr

/-- What the two banks say of one chain (R185, R214, R215, R219, R221). -/
structure ChainCfg where
  ctrl : Word
  /-- SPK[0].PAGE_CTRL.ENABLE (R220) -/
  on : Bool
  inGain : Int
  outGain : Int
  /-- bulk delay as used (R211) -/
  dly : Nat
  /-- CH_XF_CFG -/
  xf : Word
  /-- five coefficients per biquad used (R214) -/
  bq : List Int
  /-- every stored coefficient word of the chain, used or not, by address (R193) -/
  bqAll : List (Nat × Word)
  /-- the ten words of the dynamics record (R214) -/
  dyn : List Word
  /-- the response in force (R195, R198, R200, R202, R222) -/
  resp : Resp
  /-- LEN_CODE and SHIFT in their places in CNV_CFG, and the response they declare, admitted or not (R205) -/
  decl : Word × List (Nat × Int)
  deriving DecidableEq, Repr

/-- A chain that has never been enabled. -/
def ChainCfg.off : ChainCfg := ⟨0, false, 2 ^ 28, 2 ^ 28, 0, 0, [], [], [], ⟨128, 0, []⟩, (0, [])⟩

/-- A crossfade between an old value and the one in force: first sample and length (R187, R193, R205, R212). -/
structure Fade (α : Type) where
  start : Nat
  len : Nat
  old : α
  deriving DecidableEq, Repr

/-- A step of OUT_GAIN (R213). -/
structure OutStep where
  old : Int
  new : Int
  tmo : Nat
  ramp : Nat
  start : Nat
  crossed : Option Nat
  timed : Bool
  deriving DecidableEq, Repr

/-- One configuration of a chain being run (R189). -/
structure Side where
  cfg : ChainCfg
  iir : List BqSt
  /-- compressor state, limiter state (dB, Q8.24), mean square at 2^-54 (R206) -/
  s : Int
  r : Int
  m : Int
  /-- limiter targets of the last samples, newest first (R206) -/
  qs : List Int
  /-- the chain's lines hold zeros before this MSC (R189, R211) -/
  since : Nat
  /-- the lookahead line holds zeros before this MSC (R207) -/
  dynFrom : Nat
  /-- EQ change: the old coefficients and their state (R193) -/
  eq : Option (Fade (List Int × List BqSt))
  /-- response change (R205) -/
  rsp : Option (Fade Resp)
  /-- delay change: old bulk delay (R212) -/
  dly : Option (Fade Nat)
  /-- delay change: old lookahead (R212) -/
  la : Option (Fade Nat)
  /-- change of the input sum: old CH_CTRL (R187) -/
  sum : Option (Fade Word)
  /-- ramp of the stage-1 gain: old gain (R188) -/
  ramp : Option (Fade Int)
  /-- step of the stage-6 gain (R213) -/
  step : Option OutStep
  /-- the stage-6 gain once no step runs -/
  outGain : Int
  deriving DecidableEq, Repr

/-- A side with nothing stored. -/
def Side.zero : Side where
  cfg := ChainCfg.off
  iir := []
  s := 0
  r := 0
  m := 0
  qs := []
  since := 0
  dynFrom := 0
  eq := none
  rsp := none
  dly := none
  la := none
  sum := none
  ramp := none
  step := none
  outGain := 2 ^ 28

/-- A speaker chain: the configuration in force, and the old one while a stage switch runs (R189). -/
structure Chain where
  cur : Side
  /-- first sample of the stage switch, and the old configuration -/
  alt : Option (Nat × Side)
  deriving DecidableEq, Repr

def Chain.reset : Chain := ⟨Side.zero, none⟩

/-- The speaker chains by number. -/
structure ChainState where
  chains : List (Nat × Chain)
  deriving DecidableEq, Repr

def ChainState.reset : ChainState := ⟨[]⟩

/-- A word that an engine stage finds with an uncorrectable error in a block: in DRAM, with the byte address of its codeword
(R201, R211, R465), or in the history SRAM (R135, R476). -/
inductive MemFail
  /-- the tail coefficients of the partition whose first tap is given -/
  | tail (chain first addr : Nat)
  /-- the input-history sample of an MSC -/
  | hist (chain msc addr : Nat)
  /-- the delay-line sample of an MSC -/
  | dly (chain msc addr : Nat)
  /-- an object's history sample of a render MSC, with its word index in the array -/
  | past (obj msc word : Nat)
  deriving DecidableEq, Repr

end Sys2Proof.Machine
end

