-- ==== Sys2Proof/Machine/StateCores.lean ====
section
/-! DEFINITION. The state of the Cheba cores that no register shows, and their bundles as decoded (08). -/
namespace Sys2Proof.Machine

/-- A core's DMA transfer in progress (R279). -/
structure CoreDma where
  loc : Nat
  isY : Bool
  bus : Nat
  words : Nat
  /-- local to bus -/
  out : Bool
  /-- CODE found at the start: 0, 1 LOCAL_RANGE or 2 BUS_RANGE -/
  code : Nat
  deriving DecidableEq, Repr

/-- What follows the delay slots of a flow-control bundle (R269, R273). -/
structure Delay where
  /-- delay slots still to issue -/
  left : Nat
  /-- branch target, where the branch is taken -/
  target : Option Nat
  /-- SR restored by RTI -/
  sr : Option Word
  deriving DecidableEq, Repr

/-- A Cheba core (08): memories, registers, pipeline and events. CORE_STAT holds its STATE. -/
structure Core where
  /-- program memory by bundle, X and Y by word; the parameter area is in the banks (R248, R285) -/
  pm : List (Nat × BitVec 64)
  x : List (Nat × Word)
  y : List (Nat × Word)
  /-- registers by the code of R252, accumulator parts and SR included -/
  regs : List (Nat × Word)
  pc : Nat
  lastPc : Nat
  /-- results not yet visible: bundles to wait, register code, value (R267) -/
  pend : List (Nat × Nat × Word)
  delay : Option Delay
  /-- after RTI, one bundle must issue before the next entry (R272) -/
  rtiHold : Bool
  /-- EVT_EN (R277) -/
  evtEn : BitVec 8
  evtPend : BitVec 8
  vbr : Nat
  xbuf : Bool
  blkMsc : Nat
  cyc : Nat
  /-- cycles at the block's BDONE -/
  cycDone : Nat
  bdone : Bool
  /-- the outputs of the last block were handed over (R282) -/
  handed : Bool
  /-- a start is due at the tick just received (R287) -/
  due : Bool
  /-- MSC of the start asked for; none for the next tick -/
  startAt : Option Nat
  /-- the parameters as the core still sees them, after a swap whose block tick has not come (R285) -/
  params : Option (List (Nat × Word))
  timerRld : Nat
  /-- whole nanoseconds of TIME (40 bits) at which the timer reaches 0 -/
  timerAt : Nat
  dmaLoc : Word
  dmaBus : Word
  dma : Option CoreDma
  dmaErr : Bool
  dmaRej : Bool
  dmaCode : Nat
  deriving DecidableEq, Repr

/-- SR as a core starts (R254). -/
def coreRegs0 : List (Nat × Word) := [(0x41, 0x100)]

def Core.reset : Core where
  pm := []
  x := []
  y := []
  regs := coreRegs0
  pc := 0
  lastPc := 0
  pend := []
  delay := none
  rtiHold := false
  evtEn := 0
  evtPend := 0
  vbr := 0
  xbuf := false
  blkMsc := 0
  cyc := 0
  cycDone := 0
  bdone := false
  handed := false
  due := false
  startAt := none
  params := none
  timerRld := 0
  timerAt := 0
  dmaLoc := 0
  dmaBus := 0
  dma := none
  dmaErr := false
  dmaRej := false
  dmaCode := 0

/-- The sixteen cores (R248). -/
structure CoreState where
  cores : List (Nat × Core)
  deriving DecidableEq, Repr

def CoreState.reset : CoreState := ⟨[]⟩

/-- Three-operand ALU operations (R257, R265). -/
inductive Alu3
  | add | adds | sub | subs | and | or | xor | min | max | mulr | muli
  deriving DecidableEq, Repr

/-- Shifts (R265). -/
inductive ShiftOp
  | asr | lsr | lsl
  deriving DecidableEq, Repr

/-- The compute slot (R265). -/
inductive Comp
  | nop
  | mac (a x1 y1 x2 y2 : Nat) (neg clr single : Bool)
  | adda (ad as_ : Nat)
  | suba (ad as_ : Nat)
  | rnd (dd as_ : Nat) (sh : Int)
  | mvda (ad ds : Nat)
  | asha (ad as_ : Nat) (sh : Int)
  | clra (ad : Nat)
  | alu (op : Alu3) (dd s1 s2 : Nat)
  | shift (op : ShiftOp) (dd ds n : Nat)
  | abs (dd ds : Nat)
  | neg (dd ds : Nat)
  | cmp (s1 s2 : Nat)
  | br (cc off : Nat)
  | call (cc off : Nat)
  | jr (cc ds : Nat)
  | loop (k ds end_ : Nat)
  | loopi (k n end_ : Nat)
  | ldi (code : Nat) (imm : Word)
  | rti
  | wait
  | bdone
  | halt
  | mvts (spec ds : Nat)
  | mvfs (dd spec : Nat)
  deriving DecidableEq, Repr

/-- A move slot (R263). -/
inductive MSlot
  | nop
  | mov (dst src : Nat)
  /-- memory access: X or Y, load or store, address register, post-modify code, register; 0x1F for an address update only -/
  | mem (isY store : Bool) (i pm reg : Nat)
  /-- short immediate: register code and value -/
  | imm (dst : Nat) (v : Int)
  deriving DecidableEq, Repr

/-- A decoded bundle (R262). -/
structure Bundle where
  comp : Comp
  m1 : MSlot
  m0 : MSlot
  deriving DecidableEq, Repr

end Sys2Proof.Machine
end

