-- ==== Sys2Proof/Machine/StateMatrix.lean ====
section
/-! DEFINITION. The state of the crosspoint matrix that no register shows: transitions, fades and generator phases (05). -/
namespace Sys2Proof.Machine

/-- What a transition belongs to (R165, R168): a node (s, d) or an express route. -/
inductive RouteKey
  | node (s d : Nat)
  | xr (i : Nat)
  deriving DecidableEq, Repr

/-- One end of a transition: where the route comes from and goes to, and its gain; none when absent. -/
structure Route where
  src : Nat
  dst : Nat
  gain : Int
  deriving DecidableEq, Repr

/-- A transition of the matrix (R160 to R167). -/
structure Trans where
  key : RouteKey
  old : Option Route
  new : Option Route
  /-- a route change crossfades; a gain change waits for a zero crossing (R162) -/
  route : Bool
  /-- crossfade length and law (R163, R164) -/
  len : Nat
  power : Bool
  /-- timeout and ramp length of a gain change (R161) -/
  tmo : Nat
  ramp : Nat
  /-- wall MSC of position 0; none while queued -/
  start : Option Nat
  /-- position of the crossing found (R160) -/
  crossed : Option Nat
  /-- the timeout has been reported (R161) -/
  timed : Bool
  deriving DecidableEq, Repr

/-- A fade of MTX[0].ENABLE (R184): weights in 1/128 from level k0 at wall MSC start. -/
structure MtxFade where
  start : Nat
  k0 : Nat
  up : Bool
  deriving DecidableEq, Repr

/-- The matrix (05). -/
structure MtxState where
  /-- slots and queue, in queue order (R165) -/
  trans : List Trans
  fade : MtxFade
  /-- tone phases 0-7 (R170) -/
  phase : List Nat
  /-- the MSC of the session's first sample period (R170) -/
  origin : Nat
  /-- samples of the generators formed so far in the session -/
  formed : Nat
  /-- an LD operation runs on the shadow bank (R159) -/
  ldBusy : Bool
  deriving DecidableEq, Repr

def MtxState.reset : MtxState := ⟨[], ⟨0, 0, false⟩, [0, 0, 0, 0, 0, 0, 0, 0], 0, 0, false⟩

end Sys2Proof.Machine
end

