-- ==== Sys2Proof/Machine/StateStk.lean ====
section
/-! DEFINITION. The state of the Uhlyen links and the stack that no register shows (13). -/
namespace Sys2Proof.Machine

/-- One Uhlyen link (R399 to R402). -/
structure UhlLink where
  /-- a training or retraining is in progress -/
  training : Bool
  /-- lanes are locked and aligned; the identity exchange is due -/
  trained : Bool
  /-- lane rate tried or in use: 1 25.78125 Gb/s, 2 10.3125 Gb/s -/
  rate : Nat
  /-- when the last DLY_REQ left: {WRAP_COUNT, TIME_NS, TIME_FRAC[31:16]} (R413) -/
  reqAt : Option Nat
  deriving DecidableEq, Repr

def UhlLink.reset : UhlLink := ⟨false, false, 1, none⟩

/-- A cycle frame (R404, R405): header words, control slots, channel groups and sum groups with their CRC-32C; a part that
never came is not listed. -/
structure CycFrame where
  hdr : List (BitVec 64)
  ctrl : List (BitVec 128)
  grps : List (Nat × List Word × Word)
  sums : List (Nat × List (BitVec 40) × Word)
  deriving DecidableEq, Repr

/-- An announced change (R405, R421, R425): stack MSC, groups present, open link. -/
structure Change where
  at_ : Nat
  present : Nat
  openLink : Nat
  /-- readers fade the groups that leave (R425) -/
  fades : Bool
  /-- timing returns to the strapped master (R419) -/
  handback : Bool
  deriving DecidableEq, Repr

/-- Reception of one group (R408): consecutive cycles missed, and its phase. -/
structure GrpRx where
  miss : Nat
  ph : Phase
  deriving DecidableEq, Repr

def GrpRx.reset : GrpRx := ⟨0, .live⟩

/-- A member as the timing master's roll call sees it (R417). -/
structure RollSt where
  misses : Nat
  answers : Nat
  /-- the roll number of the ROLL not yet answered -/
  wait : Option Nat
  degraded : Bool
  deriving DecidableEq, Repr

def RollSt.reset : RollSt := ⟨0, 0, none, false⟩

/-- A remote access in flight (R428): tag, member, requester, stack window address, write. -/
structure Remote where
  tag : Nat
  member : Nat
  req : Nat
  addr : Nat
  write : Bool
  deriving DecidableEq, Repr

/-- The stack (13). -/
structure StkState where
  ue : UhlLink
  uw : UhlLink
  /-- frames received in the cycle in progress, by direction -/
  recE : Option CycFrame
  recW : Option CycFrame
  /-- the last frame sent in each direction -/
  sentE : Option CycFrame
  sentW : Option CycFrame
  /-- synchronous messages waiting for a free control slot (R427), each with its direction: 0 east, 1 west, 2 toward DST -/
  syncQ : List (Nat × BitVec 128)
  /-- CRC failures of groups this device reads (R452) -/
  readCrc : Nat
  /-- express messages sent: port 0 UE, 1 UW, and message -/
  out : List (Nat × BitVec 128)
  /-- devices of the ring as enumeration found them; 0 before -/
  count : Nat
  /-- groups present: bits 0-127 channel groups, 128-159 sum groups -/
  present : Nat
  /-- ID of the member whose UE port faces the open link -/
  openLink : Nat
  /-- failed links, each named as openLink is (R420) -/
  failed : List Nat
  change : Option Change
  /-- words 0 to 2 of the last header with MASTER_VALID -/
  master : Option (List (BitVec 64))
  /-- elapsed time in ns of the last sample tick (R409) -/
  tickAt : Nat
  /-- such a header has come in the cycle in progress -/
  heard : Bool
  grps : List (Nat × GrpRx)
  /-- the sample each slot last carried; sum slot L at 2^16 + L -/
  held : List (Nat × Int)
  rolls : List (Nat × RollSt)
  rollNo : Nat
  remote : List Remote
  nextTag : Nat
  mismatch : Bool
  /-- enumeration has been sent since the ring came up -/
  enumSent : Bool
  /-- cycles originated -/
  seq : Nat
  /-- uncorrectable memory errors and ring CRC failures at the last ROLL_ANS -/
  ueLast : Nat
  crcLast : Nat
  deriving DecidableEq, Repr

def StkState.reset : StkState where
  ue := UhlLink.reset
  uw := UhlLink.reset
  recE := none
  recW := none
  sentE := none
  sentW := none
  syncQ := []
  readCrc := 0
  out := []
  count := 0
  present := 0
  openLink := 0
  failed := []
  change := none
  master := none
  tickAt := 0
  heard := false
  grps := []
  held := []
  rolls := []
  rollNo := 0
  remote := []
  nextTag := 0
  mismatch := false
  enumSent := false
  seq := 0
  ueLast := 0
  crcLast := 0

end Sys2Proof.Machine
end

