-- ==== Sys2Proof/Machine/StateInc.lean ====
section
/-! DEFINITION. The state of input conditioning that no register shows: channels, rate groups and slips (07). -/
namespace Sys2Proof.Machine

/-- A slip that has been decided (R235): its window starts with the sample the buffer receives as number start. -/
structure Slip where
  drop : Bool
  start : Nat
  deriving DecidableEq, Repr

/-- The states of a rate group, as GRP_STAT.STATE numbers them (R230). -/
inductive GrpSt
  | off
  | acquire
  | fast
  | track
  | lost
  | range
  deriving DecidableEq, Repr

def GrpSt.code : GrpSt → Nat
  | .off => 0
  | .acquire => 1
  | .fast => 2
  | .track => 3
  | .lost => 4
  | .range => 5

/-- A decision a leader has published (R237), with the update it belongs to. -/
structure Follow where
  /-- render MSC u of the update -/
  at_ : Nat
  rho : Option Int
  /-- read position at 2^-48 for sample u + 2B -/
  pos : Option Int
  /-- slip: none 0, drop 1, repeat 2, with its index in the window -/
  slip : Nat
  slipIdx : Nat
  /-- the slip's sample by its number since the synchronising reset, which only the leader knows (R237) -/
  place : Option Nat
  deriving DecidableEq, Repr

/-- A rate group (R228 to R237). -/
structure Grp where
  st : GrpSt
  /-- MSC at which the measurement began, or FAST was entered -/
  since : Nat
  /-- source samples counted -/
  count : Nat
  /-- pre-decimation factor -/
  p : Nat
  /-- Q4.60 -/
  rho0 : Int
  rho : Int
  i : Int
  /-- read position at 2^-48 of an input sample -/
  pos : Int
  /-- input samples received since the last synchronising reset, before and after pre-decimation -/
  rawIn : Nat
  arrived : Nat
  /-- consecutive updates at which the ratio was clamped (R232) -/
  clamped : Nat
  slip : Option Slip
  /-- a published group's slip that waits for the next update: its index in the window (R237) -/
  placed : Option (Slip × Nat)
  /-- the last render MSC at which the loop updated -/
  lastUpd : Option Nat
  /-- first sample of a fade-out of the group's channels (R232, R233) -/
  fade : Option Nat
  /-- decisions not yet applied (R237) -/
  follow : List Follow
  /-- the follower's output is 0 to this MSC (R237) -/
  missTo : Nat
  deriving DecidableEq, Repr

def Grp.reset : Grp := ⟨.off, 0, 0, 1, 0, 0, 0, 0, 0, 0, 0, none, none, none, none, [], 0⟩

/-- A conditioning channel (R224, R238 to R243). -/
structure IncCh where
  /-- CH_CFG and CH_SRC in force -/
  cfg : Word
  src : Nat
  /-- first sample after the last synchronising reset -/
  m0 : Nat
  /-- a synchronising reset is due at the next block (R240) -/
  due : Bool
  /-- offset estimate, Q5.59 -/
  e : Int
  /-- ramp of the subtracted estimate: first sample, rising (R239) -/
  dc : Option (Nat × Bool)
  /-- first sample of a fade-out (R247) -/
  fade : Option Nat
  /-- the rate group's raw input samples, and its buffer, by number since the synchronising reset -/
  raw : List (Nat × Int)
  buf : List (Nat × Int)
  /-- a pre-decimated sample of the block saturated (R244) -/
  sat : Bool
  deriving DecidableEq, Repr

def IncCh.reset : IncCh := ⟨0, 0, 0, false, 0, none, none, [], [], false⟩

/-- A word a leader publishes (R237): group, update MSC, ratio, position, slip code and index. -/
structure FollowWord where
  grp : Nat
  at_ : Nat
  rho : Int
  pos : Int
  slip : Nat
  slipIdx : Nat
  deriving DecidableEq, Repr

/-- Input conditioning (07). -/
structure IncState where
  chs : List (Nat × IncCh)
  grps : List (Nat × Grp)
  /-- samples with an ingress MSC below this keep the configuration in force before the last swap (R240) -/
  swapAt : Nat
  /-- the next sample period to be conditioned -/
  next : Nat
  /-- INC[0].ENABLE as last acted on (R247) -/
  on : Bool
  /-- words published and not yet sent -/
  pub : List FollowWord
  /-- this device's groups publish their decisions: it contributes to a stack (R237, R416) -/
  pubs : Bool
  /-- groups in follow mode whose leader is this device (R237, R434) -/
  own : List Nat
  deriving DecidableEq, Repr

def IncState.reset : IncState := ⟨[], [], 0, 0, false, [], false, []⟩

end Sys2Proof.Machine
end

