-- ==== Sys2Proof/Machine/StateRender.lean ====
section
/-! DEFINITION. The state of the Serririx path engine that no register shows: segment queues, positions, directions,
paths and their ticks (03, 04), and the sample store shared by every engine stage. -/
namespace Sys2Proof.Machine

/-- A motion segment (03): target, gain and arrival as a render MSC. -/
structure Seg where
  tx : Int
  ty : Int
  tz : Int
  tg : Int
  arr : Int
  deriving DecidableEq, Repr

/-- An object's motion and panning state (R82, R88, R98 to R101). -/
structure Obj where
  /-- position and gain at the last evaluated boundary -/
  px : Int
  py : Int
  pz : Int
  pg : Int
  /-- start of the head segment; none while it waits for the first boundary (R84) -/
  start : Option Int
  /-- position and gain at the head's start, or the held target -/
  bx : Int
  by_ : Int
  bz : Int
  bg : Int
  segs : List Seg
  /-- the pending queue of a REPLACE (R88) -/
  pend : Option (List Seg)
  /-- direction u, Q2.30 (R98) -/
  ux : Int
  uy : Int
  uz : Int
  /-- triangle found at the previous boundary (R100) -/
  tri : Option Nat
  /-- a full scan is pending (R101) -/
  deferred : Bool
  /-- amplitude-panning gains at the last boundary: speaker and Q2.30 gain (R101) -/
  amp : List (Nat × Int)
  deriving DecidableEq, Repr

/-- An object that has never moved: at the origin with gain 0, facing (0, 1.0, 0) (R98). -/
def Obj.reset : Obj where
  px := 0
  py := 0
  pz := 0
  pg := 0
  start := none
  bx := 0
  by_ := 0
  bz := 0
  bg := 0
  segs := []
  pend := none
  ux := 0
  uy := 2 ^ 30
  uz := 0
  tri := none
  deferred := false
  amp := []

/-- One tick of one path (R106): from boundary m0, the carried and the next gain and delay. -/
structure PathTick where
  m0 : Nat
  spk : Nat
  g0 : Int
  g1 : Int
  t0 : Int
  t1 : Int
  deriving DecidableEq, Repr

/-- A path (object, footprint entry): what it carries at the last boundary, and its latest ticks (R106 to R110). -/
structure Path where
  /-- speaker, gain and delay carried into the next tick; none for an inactive path -/
  cur : Option (Nat × Int × Int)
  ticks : List PathTick
  deriving DecidableEq, Repr

/-- A path that has never been active. -/
def Path.reset : Path := ⟨none, []⟩

/-- The path engine (03, 04). -/
structure RenderState where
  objs : List (Nat × Obj)
  /-- paths, key object · 256 + footprint entry -/
  paths : List (Nat × Path)
  /-- the next tick boundary to evaluate (R78) -/
  nextB : Nat
  /-- the first boundary of the session or soft reset has been evaluated (R140) -/
  settled : Bool
  /-- the next search of every object is a full scan: engine start or mesh swap (R100) -/
  meshNew : Bool
  deriving DecidableEq, Repr

def RenderState.reset : RenderState := ⟨[], [], 0, true, false⟩

/-- The samples of every stage: key MSC · 2^20 + identity, where an identity below 0x1_0000 is an endpoint (R148) and the
others are the internal lines of SampleId. -/
structure Audio where
  smp : List (Nat × Int)
  /-- samples of sources that run at another rate or on another clock (R225): key (MSC · 256 + j) · 2^20 + endpoint for the
  j-th that arrived in that sample period -/
  raw : List (Nat × Int)
  /-- how many arrived in a sample period, key MSC · 2^20 + endpoint -/
  rawN : List (Nat × Nat)
  /-- the endpoints that deliver so -/
  async : List (Nat × Bool)
  /-- for an endpoint that delivers at fs on the media clock, the MSC after the last one it delivered -/
  last : List (Nat × Nat)
  deriving DecidableEq, Repr

def Audio.reset : Audio := ⟨[], [], [], [], []⟩

/-- Internal sample lines: renderer history, chain stages, conditioning lines, generators. -/
def idHist (o : Nat) : Nat := 0x1_0000 + o
/-- The input of stage 3 of a chain (06). -/
def idCnv (n : Nat) : Nat := 0x2_0000 + n
/-- The input of stage 4 of a chain (06). -/
def idDyn (n : Nat) : Nat := 0x3_0000 + n
/-- The input of stage 5 of a chain (06). -/
def idBulk (n : Nat) : Nat := 0x4_0000 + n
/-- The input of stage 6 of a chain (06). -/
def idOut (n : Nat) : Nat := 0x5_0000 + n
/-- The start-gated samples of a conditioning channel before its buffer (07). -/
def idInc (n : Nat) : Nat := 0x6_0000 + n
/-- The second filter branch of a chain during an EQ crossfade (06). -/
def idAlt (n : Nat) : Nat := 0x7_0000 + n

/-- A sample; 0 where none was written. -/
def sample (a : Audio) (msc : Int) (ident : Nat) : Int :=
  if msc < 0 then 0 else mget zeroI a.smp (msc.toNat * 2 ^ 20 + ident)
/-- Writes a sample. -/
def putSample (a : Audio) (msc ident : Nat) (v : Int) : Audio := { a with smp := mset zeroI a.smp (msc * 2 ^ 20 + ident) v }
/-- Drops the samples of an internal line. -/
def dropLine (a : Audio) (p : Nat → Bool) :
    Audio := { a with smp := mfilter (fun k => !p (k % 2 ^ 20)) a.smp }
/-- Drops every sample older than an MSC; no rule reads further back than 2^19 samples. -/
def dropOld (a : Audio) (msc : Nat) : Audio :=
  { a with smp := mfilter (fun k => decide (msc * 2 ^ 20 ≤ k)) a.smp,
           raw := mfilter (fun k => decide (msc * 2 ^ 28 ≤ k)) a.raw,
           rawN := mfilter (fun k => decide (msc * 2 ^ 20 ≤ k)) a.rawN }

/-- A source that is not at fs on the media clock delivers a sample in sample period msc (R225). -/
def putRaw (a : Audio) (msc ep : Nat) (v : Int) : Audio :=
  let n := mget zeroN a.rawN (msc * 2 ^ 20 + ep)
  { a with raw := mset zeroI a.raw ((msc * 256 + n % 256) * 2 ^ 20 + ep) v,
           rawN := mset zeroN a.rawN (msc * 2 ^ 20 + ep) (n + 1),
           async := mset falseB a.async ep true }

/-- A source at fs on the media clock delivers its sample of a sample period (R225). -/
def putSource (a : Audio) (msc ep : Nat) (v : Int) : Audio :=
  putSample { a with async := mset falseB a.async ep false, last := mset zeroN a.last ep (max (mget zeroN a.last ep) (msc + 1)) } msc ep v

/-- The samples of a source that arrived in a sample period, in order: none from one that delivers nothing. -/
def arrivals (a : Audio) (msc ep : Nat) : List Int :=
  if mget falseB a.async ep then
    (List.range (min 256 (mget zeroN a.rawN (msc * 2 ^ 20 + ep)))).map (fun j => mget zeroI a.raw ((msc * 256 + j) * 2 ^ 20 + ep))
  else if msc < mget zeroN a.last ep then [sample a msc ep]
  else []

/-- The sample with sub-index j of a source in a sample period. -/
def subSample (a : Audio) (msc : Int) (j ep : Nat) : Int :=
  if msc < 0 then 0 else mget zeroI a.raw ((msc.toNat * 256 + j) * 2 ^ 20 + ep)

end Sys2Proof.Machine
end

