-- ==== Sys2Proof/Machine/StateTri.lean ====
section
/-! DEFINITION. The state of trifle redundancy that no register shows (14). -/
namespace Sys2Proof.Machine

/-- A vote received or sent for a vote block (R437): positions are 1 P0, 2 P1, 3 P2; roles as in R432. -/
structure VoteRec where
  src : Nat
  block : Nat
  check : Nat
  role : Nat
  err : Bool
  pos : Nat
  owner : Bool
  deriving DecidableEq, Repr

/-- What is due at a vote-block boundary (R442, R444). -/
inductive Due
  /-- an order: the position that takes the outputs -/
  | order (pos : Nat)
  /-- the owner releases because another owns -/
  | release
  deriving DecidableEq, Repr

/-- A REJOIN in progress (R446 to R448): source member, phase, MSC at which the phase began. -/
structure Rejoin where
  source : Nat
  phase : Nat
  since : Nat
  deriving DecidableEq, Repr

/-- The trifle (14). -/
structure TriState where
  /-- votes held, newest last -/
  votes : List VoteRec
  /-- the last vote of each sender: 256·BLOCK + ALIVE -/
  alive : List (Nat × Option Nat)
  /-- this member's next ALIVE value -/
  nextAlive : Nat
  /-- consecutive blocks: owner in minority, this member in minority, owner absent -/
  ownerMin : Nat
  selfMin : Nat
  ownerAbs : Nat
  /-- consecutive blocks in which the vote of a position was absent -/
  gone : List (Nat × Nat)
  /-- the role each position last voted with -/
  roles : List (Nat × Nat)
  /-- due at an egress MSC (stack MSC) -/
  due : Option (Nat × Due)
  /-- this owner took the outputs by an order (R442) -/
  byOrder : Bool
  /-- CATCHUP was entered by demotion (R449) -/
  demoted : Bool
  /-- consecutive matches in CATCHUP (R449) -/
  matched : Nat
  /-- own MSC at which CATCHUP was entered (R449, R450) -/
  catchAt : Nat
  /-- changes of ownership: own MSC and whether it owns from there, newest first -/
  owns : List (Nat × Bool)
  /-- alive-counter entries: the previous value (R453) -/
  alv : List (Nat × Option Nat)
  /-- error counts at the last vote: uncorrectable memory errors, ring CRC failures, frame errors (R452) -/
  errBase : Nat × Nat × Nat
  rejoin : Option Rejoin
  /-- SNAP words received for the piece in progress: sequence number and 64 bits (R447) -/
  snap : List (Nat × Nat)
  deriving DecidableEq, Repr

def TriState.reset : TriState where
  votes := []
  alive := []
  nextAlive := 0
  ownerMin := 0
  selfMin := 0
  ownerAbs := 0
  gone := []
  roles := []
  due := none
  byOrder := false
  demoted := false
  matched := 0
  catchAt := 0
  owns := []
  alv := []
  errBase := (0, 0, 0)
  rejoin := none
  snap := []

/-- A piece of short state as it stands after its replay (R447, R448). -/
inductive Piece
  | inc (c : Nat) (v : IncCh)
  | obj (o : Nat) (v : Obj) (paths : List (Nat × Path))
  | mtx (trans : List Trans)
  | gen (phase : List Nat) (formed : Nat)
  | chain (cs : List (Nat × Chain))
  deriving DecidableEq, Repr

end Sys2Proof.Machine
end

