-- ==== Sys2Proof/Syntax.lean ====
section
/-! DEFINITION. The commands of the OXZ1024: one constructor for each row of the opcode table, with the operands
a command carries; those without operands stand last. A write or read of a register names its requester (R50); an event on a pin, a link, a clock or
inside the device carries what the device observes there. -/
namespace Sys2Proof

open Sys2Proof.Machine

/-- The requesters of R48 and R50. -/
inductive Req
  | host
  | stack
  | quad (n : Fin 4)
  deriving DecidableEq, Repr

/-- SYS.ACC_ERR_INFO.REQ of a requester (R50). -/
def Req.code : Req → Nat
  | .host => 0
  | .stack => 1
  | .quad n => 2 + n.val

/-- The width of an access (R46, R47). -/
inductive AccSize
  | b8
  | b16
  | b32
  | b64
  deriving DecidableEq, Repr

/-- Bytes of an access. -/
def AccSize.bytes : AccSize → Nat
  | .b8 => 1
  | .b16 => 2
  | .b32 => 4
  | .b64 => 8

/-- The address spaces of R50. -/
inductive Space
  | bar0
  | stackWindow
  | dram
  deriving DecidableEq, Repr

/-- SYS.ACC_ERR_INFO.SPACE (R50). -/
def Space.code : Space → Nat
  | .bar0 => 0
  | .stackWindow => 1
  | .dram => 2

/-- Strap pins and I/O bank supplies as the device finds them when it samples and measures them (R527, R528, R532): supplies
in millivolts. -/
structure Straps where
  stkRole : Fin 4
  triPos : Fin 4
  hostSel : Bool
  mvA : Nat
  mvB : Nat
  mvC : Nat
  deriving DecidableEq, Repr

/-- A transition that waits for a zero crossing: of a node or express route, or of a chain's output gain (R161, R213). -/
inductive TransKey
  | route (k : RouteKey)
  | chain (n : Fin 1024)
  deriving DecidableEq, Repr

/-- A buffer whose scheduled slip is placed (R235, R353, R388). -/
inductive SlipTarget
  | group (g : Fin 32)
  | port (i : Fin 16) (out : Bool)
  | stream (n : Fin 512)
  deriving DecidableEq, Repr

/-- The commands. -/
inductive Instr
  | sampleTick (phase : Fin 4096)
  | blockTick (phase : Fin 4096) (fails : List MemFail)
  | sessionCfgWrite (q : Req) (v : Word)
  | registerWrite (q : Req) (addr : Nat) (size : AccSize) (v : BitVec 64)
  | windowWrite (q : Req) (addr : Nat) (size : AccSize) (v : BitVec 64)
  | unmappedAccess (q : Req) (space : Space) (addr : Nat) (write : Bool)
  | pairRead (q : Req) (addr : Nat) (size : AccSize)
  | pageEnableWrite (q : Req) (page : Fin 1024) (on : Bool)
  | softRst (q : Req) (page : Fin 1024)
  | softRstDone (page : Fin 1024)
  | chipReset (q : Req) (straps : Straps)
  | resetNAssert (hot : Bool)
  | resetNRelease (straps : Straps)
  | pwrgoodRise (straps : Straps)
  | vddioARise (sel33 : Bool)
  | vecEoi (q : Req) (v : Word)
  | dmaRun (q : Req) (ch : Fin 8) (vector : Fin 64)
  | dmaStop (q : Req) (ch : Fin 8) (vector : Fin 64)
  | dmaDescriptorStart (ch : Fin 8) (desc : Option Desc)
  | dmaDescriptorComplete (ch : Fin 8) (data : Option (List Byte)) (statusOk : Bool)
  | writeS (addr : Word) (words : List Word)
  | readS (addr : Word) (words : Nat)
  | writeQ (addr : Word) (words : List Word)
  | readQ (addr : Word) (words : Nat)
  | qspiCsRise (partialWord : Bool)
  | opAbort (q : Req) (op : OpId)
  | append (q : Req) (tns msc : Bool)
  | replace (q : Req) (tns msc : Bool)
  | objPosRead (q : Req) (obj : Fin 1024)
  | pralineCtrlWrite (q : Req) (obj : Fin 1024) (v : Word)
  | counterClear (q : Req) (page : Fin 1024) (v : Word) (incremented : Word)
  | mapWrite (q : Req) (dst : Bool) (i : Fin 2048) (v : Word)
  | nodeWrite (q : Req) (gain : Word)
  | nodeRead (q : Req)
  | zcTimeout (k : TransKey)
  | transitionEnd (k : RouteKey)
  | loadMerge (q : Req)
  | loadReplace (q : Req)
  | clear (q : Req)
  | xrWrite (q : Req)
  | xrRead (q : Req)
  | bankCtrlWrite (q : Req) (page : Fin 1024) (v : Word)
  | swapArm (q : Req) (g : Fin 16)
  | swapCommit (g : Fin 16)
  | swapCopyDone (g : Fin 16)
  | save (q : Req)
  | recall (q : Req)
  | check (q : Req)
  | chCtrlWrite (q : Req) (chain : Fin 1024) (v : Word)
  | cnvCfgWrite (q : Req) (chain : Fin 1024) (v : Word)
  | load (q : Req)
  | incChWrite (q : Req) (chan : Fin 1024) (src : Bool) (v : Word)
  | resync (q : Req) (chan : Fin 1024) (v : Word)
  | conditioningWarmupEnd (chan : Fin 1024)
  | conditioningRampEnd (chan : Fin 1024)
  | conditioningFadeEnd (grp : Fin 32)
  | asrcMeasureEnd (grp : Fin 32)
  | asrcFastEnd (grp : Fin 32)
  | asrcLoopUpdate (grp : Fin 32)
  | slipPlace (t : SlipTarget)
  | bundleIssue (core : Fin 16) (memErr : Bool)
  | nop (core : Fin 16)
  | mac (core : Fin 16) (a : Fin 4) (x1 y1 x2 y2 : Fin 16) (neg clr single : Bool)
  | adda (core : Fin 16) (ad as_ : Fin 4)
  | suba (core : Fin 16) (ad as_ : Fin 4)
  | rnd (core : Fin 16) (dd : Fin 16) (as_ : Fin 4) (sh : BitVec 5)
  | mvda (core : Fin 16) (ad : Fin 4) (ds : Fin 16)
  | asha (core : Fin 16) (ad as_ : Fin 4) (sh : BitVec 7)
  | clra (core : Fin 16) (ad : Fin 4)
  | add (core : Fin 16) (dd s1 s2 : Fin 16)
  | adds (core : Fin 16) (dd s1 s2 : Fin 16)
  | sub (core : Fin 16) (dd s1 s2 : Fin 16)
  | subs (core : Fin 16) (dd s1 s2 : Fin 16)
  | and (core : Fin 16) (dd s1 s2 : Fin 16)
  | or (core : Fin 16) (dd s1 s2 : Fin 16)
  | xor (core : Fin 16) (dd s1 s2 : Fin 16)
  | asr (core : Fin 16) (dd ds : Fin 16) (n : Fin 32)
  | lsr (core : Fin 16) (dd ds : Fin 16) (n : Fin 32)
  | lsl (core : Fin 16) (dd ds : Fin 16) (n : Fin 32)
  | abs (core : Fin 16) (dd ds : Fin 16)
  | neg (core : Fin 16) (dd ds : Fin 16)
  | min (core : Fin 16) (dd s1 s2 : Fin 16)
  | max (core : Fin 16) (dd s1 s2 : Fin 16)
  | cmp (core : Fin 16) (s1 s2 : Fin 16)
  | mulr (core : Fin 16) (dd s1 s2 : Fin 16)
  | muli (core : Fin 16) (dd s1 s2 : Fin 16)
  | br (core : Fin 16) (cc : Fin 32) (offset : BitVec 16)
  | call (core : Fin 16) (cc : Fin 32) (offset : BitVec 16)
  | jr (core : Fin 16) (cc : Fin 32) (ds : Fin 16)
  | loop (core : Fin 16) (level : Fin 4) (ds : Fin 16) (end_ : Fin 8192)
  | loopi (core : Fin 16) (level : Fin 4) (n : BitVec 16) (end_ : Fin 8192)
  | ldi (core : Fin 16) (code : Fin 128) (imm : Word)
  | rti (core : Fin 16)
  | wait (core : Fin 16)
  | bdone (core : Fin 16)
  | halt (core : Fin 16)
  | mvts (core : Fin 16) (spec : Fin 64) (ds : Fin 16)
  | mvfs (core : Fin 16) (dd : Fin 16) (spec : Fin 64)
  | mov (core : Fin 16) (dst src : Fin 128)
  | ldx (core : Fin 16) (i : Fin 8) (pm : Fin 4) (reg : Fin 28)
  | stx (core : Fin 16) (i : Fin 8) (pm : Fin 4) (reg : Fin 28)
  | ldy (core : Fin 16) (i : Fin 8) (pm : Fin 4) (reg : Fin 28)
  | sty (core : Fin 16) (i : Fin 8) (pm : Fin 4) (reg : Fin 28)
  | modx (core : Fin 16) (i : Fin 8) (pm : Fin 4)
  | mody (core : Fin 16) (i : Fin 8) (pm : Fin 4)
  | setp (core : Fin 16) (i : Fin 8) (v : BitVec 9)
  | setm (core : Fin 16) (i : Fin 8) (v : BitVec 9)
  | setl (core : Fin 16) (i : Fin 8) (v : BitVec 9)
  | setd (core : Fin 16) (i : Fin 8) (v : BitVec 9)
  | interruptEntry (core : Fin 16)
  | coreWake (core : Fin 16) (slept : Nat)
  | coreTimer (core : Fin 16)
  | mailboxWrite (q : Req) (core : Fin 16) (v : Word)
  | evtRaise (q : Req) (core : Fin 16) (v : Word)
  | coreDmaEnd (core : Fin 16)
  | dspEnableWrite (q : Req) (core : Fin 16) (on : Bool)
  | coreStart (core : Fin 16)
  | incrCommit (q : Req) (v : Word)
  | stepCommit (q : Req) (v : Word)
  | nowRead (q : Req)
  | latchRead (q : Req)
  | captureEdge (src : Fin 32) (rising : Bool) (ns : Fin 4) (part : Fin 1024)
  | capRead (q : Req) (unit : Fin 12)
  | cmpArm (q : Req) (n : Fin 8)
  | cmpDisarm (q : Req) (n : Fin 8)
  | comparatorFire (n : Fin 8)
  | evtCfgWrite (q : Req) (pin : Fin 8) (v : Word)
  | evtPulseEnd (pin : Fin 8)
  | refEdge (r : Fin 9) (error : Int) (interval high : Nat)
  | refLoss (r : Fin 9)
  | refCheckEnd (r : Fin 9)
  | refWtrEnd (r : Fin 9)
  | refDisqEnd (r : Fin 9)
  | tbGridWrite (q : Req) (v : Word)
  | mpllLockLoss (pll48 pll44 : Bool)
  | cgEnable (q : Req) (cg : Fin 16)
  | cgStart (cg : Fin 16) (rate : Nat)
  | cgDisable (q : Req) (cg : Fin 16)
  | sgArm (q : Req) (g : Fin 4)
  | sgDisarm (q : Req) (g : Fin 4)
  | sgStart (g : Fin 4)
  | portFrame (cg : Fin 16) (slots : List (Nat × Nat × Nat)) (bits rate : Nat)
  | portFillCheck (cg : Fin 16)
  | steerUpdate (cg : Fin 16)
  | noSck (cg : Fin 16)
  | noFs (cg : Fin 16)
  | portFadeEnd (cg : Fin 16) (out : Bool)
  | portRecoveryEnd (cg : Fin 16) (out : Bool)
  | pinBackoff (pin : Pin)
  | pinBackoffEnd (pin : Pin)
  | linkUpChange (port : Fin 2) (lock am hiBer : Bool)
  | rxFrame (port : Fin 2) (frame : RxIn)
  | streamFadeEnd (n : Fin 512)
  | streamRecoveryEnd (n : Fin 512)
  | streamPortDown (n : Fin 512) (port : Fin 2)
  | txDescriptor (port : Fin 2) (ring : Fin 2)
  | txFrameStart (port : Fin 2) (phase : Fin 4096)
  | txFrameEnd (port : Fin 2)
  | tsqRead (q : Req) (port : Fin 2)
  | gateInterval (port : Fin 2)
  | gateChange (q : Req) (port : Fin 2) (v : Word)
  | gateChangeApply (port : Fin 2)
  | statsSnap (q : Req) (port : Fin 2) (v : Word)
  | streamWrite (q : Req)
  | streamRead (q : Req)
  | streamPacketQueue (n : Fin 512)
  | streamTxLate (port : Fin 2)
  | uhlRateFallback (link : Fin 2)
  | laneMarker (link : Fin 2) (phys lane : Fin 4) (inverted : Bool)
  | laneFail (link : Fin 2) (lane : Fin 4)
  | linkRetrainEnd (link : Fin 2)
  | laneRestore (link : Fin 2)
  | uhlLinkUp (link : Fin 2) (partner : Option Nat)
  | uhlLinkDown (link : Fin 2)
  | cycleFrame (link : Fin 2) (residence : Nat) (frame : CycFrame)
  | linkDelayMeasure (link : Fin 2) (hops : List (Nat × Nat))
  | dlyReq (link : Fin 2) (m : BitVec 128) (residence : Nat)
  | dlyRsp (link : Fin 2) (m : BitVec 128) (residence : Nat)
  | cmdEnum (q : Req)
  | enum (link : Fin 2) (m : BitVec 128)
  | roll (link : Fin 2) (m : BitVec 128)
  | rollAns (link : Fin 2) (m : BitVec 128)
  | rollAnsMiss (member : Fin 64)
  | handback (q : Req)
  | linkFail (link : Fin 2) (m : BitVec 128)
  | restore (q : Req)
  | stkMapWrite (q : Req) (v : Word)
  | stackWindowAccess (q : Req) (addr : Nat) (wdata : Option Word)
  | regRd (link : Fin 2) (m : BitVec 128)
  | regWr (link : Fin 2) (m : BitVec 128)
  | regRsp (link : Fin 2) (m : BitVec 128)
  | followRatio (link : Fin 2) (m : BitVec 128) (st : GrpSt) (p : Nat) (rho0 : Int)
  | followPos (link : Fin 2) (m : BitVec 128)
  | vote (link : Fin 2) (m : BitVec 128)
  | order (link : Fin 2) (m : BitVec 128)
  | ownInChange (in0 in1 : Bool)
  | take (q : Req)
  | rejoin (q : Req)
  | rejoinPhaseEnd (travel : Nat) (digests : Bool)
  | snap (link : Fin 2) (m : BitVec 128)
  | snapInstall (piece : Piece) (complete : Bool)
  | alvFeed (q : Req) (entry : Fin 32) (v : Word)
  | feedB (q : Req) (ctx : Fin 8) (v : Word)
  | feedW (q : Req) (ctx : Fin 8) (v : Word)
  | loadInit (q : Req) (ctx : Fin 8)
  | feed (q : Req)
  | dramRead (ch : Fin 2)
  | dramWrite (ch : Fin 2)
  | writeBatchEnd (ch : Fin 2) (timed : Bool)
  | dramRefresh (ch : Fin 2) (postpone : Bool)
  | dramTempPoll (ch : Fin 2) (hot ovr : Bool)
  | drcEnable (q : Req) (ch : Fin 2)
  | dramTrainEnd (ch : Fin 2) (ok : Bool)
  | dramTracking (ch : Fin 2) (ns : Nat)
  | drcDisable (q : Req) (ch : Fin 2)
  | scrubLine (ch : Fin 2)
  | injArm (q : Req) (ch : Fin 2) (v : Word)
  | sramPatrol (array : Fin 26) (word : Nat) (error : Option Bool)
  | busRequest (master : Fin 10) (id : Nat) (rt : Bool) (addr len : Nat) (wdata : Option (List (Byte × Bool)))
  | quiet (q : Req)
  | active (q : Req)
  | retain (q : Req)
  | deep (q : Req)
  | wakeTempSample (tj : BitVec 16)
  | wakeDeep (straps : Straps)
  | thermalSample (sensors : List Int)
  | shutClr (q : Req)
  | currentLimit (estimate : Nat)
  | shedForceWrite (q : Req) (v : Word)
  | start (q : Req)
  | engineStartTick (phase : Fin 4096)
  | stop (q : Req)
  | oscReturn (straps : Straps)
  | crumbWrite (page : Fin 1024)
  | lostCrumb (page : Fin 1024)
  | markHi (q : Req) (v : Word)
  | flush (q : Req)
  | cntSnap (q : Req) (v : Word)
  | loadMeterUpdate (busy : List Nat)
  | ocDataRead (q : Req)
  | extest (pins shift : List Bool)
  | samplePreload (pins shift : List Bool)
  | extestPulse (pins shift : List Bool)
  | extestTrain (pins shift : List Bool)
  | pcieLinkUp (up : Bool) (gen : Fin 5) (width : Fin 5)
  | pwrgoodFall
  | perstN
  | qspiStatus
  | clrStatus
  | qspiId
  | qspiReadTimeout
  | qspiPostedWriteDone
  | geometryTick
  | transitionStart
  | ldEnd
  | bankSwap
  | sceneOpEnd
  | loadEnd
  | tbTick
  | refSelect
  | holdoverRecord
  | holdoverExpire
  | systemPllLock
  | faultEnd
  | rollCall
  | deputyTakeover
  | restoreAnnounce
  | chgAtApply
  | remoteAccessTimeout
  | voteEvaluate
  | handover
  | catchupTimeout
  | feedEnd
  | requestAged
  | fenceDone
  | psComplete
  | wakeNFall
  | qsCsNFall
  | aonTimerExpire
  | wakeRetain
  | retainScrubExcursion
  | thermalRelease
  | shutdownFadeEnd
  | thermtrip
  | vddDsLow
  | boostHoldoffEnd
  | boostGrant
  | engineStopEnd
  | oscLoss
  | partialLineTimeout
  | flushEnd
  | tapReset
  | idcode
  | clamp
  | highz
  | bypass
  deriving DecidableEq, Repr

end Sys2Proof
end

