-- ==== Sys2Proof/Config.lean ====
section
/-! DEFINITION. What the specification leaves open, as constants without a body: no proof can see what they are, so a claim
holds whatever they are. Each is named in a log entry (notes/assumptions). -/
namespace Sys2Proof.Config

/-- Interpolator coefficient of phase row p, tap k, before the row constraints of R111 and R112 (log 10). -/
opaque interp : Nat → Nat → Int

/-- Decimator kernel: ratio code, tap index (R225 to R227; log 11). -/
opaque decimKernel : Nat → Nat → Int

/-- ASRC kernel: P, phase row, tap (R229; log 12). -/
opaque asrcKernel : Nat → Nat → Nat → Int

/-- Pre-decimation kernel of a rate group: P, tap (R229; log 12). -/
opaque preKernel : Nat → Nat → Int

/-- Pink noise sample: seed, level, sample number of the session (R170; log 13). -/
opaque pink : Nat → Nat → Nat → Int

/-- Error of a dynamics logarithm (kind 0) or exponential (kind 1), of its operand, before it is
held to the bound of R207 (log 14). -/
opaque dynErr : Nat → Int → Int

/-- Error of a convolution tail, of the input window and the tail taps, before it is held to the bound of R194 (log 15). -/
opaque tailErr : List Int → List (Nat × Int) → Int

/-- The pattern by which word i of a unit's scene image differs from the plain list of its words (R182: image contents are
specific to the device; log 16). -/
opaque sceneMask : Nat → Nat → BitVec 32

/-- Whether the C flag of a subtraction is the borrow; else it is the carry of a + ~b + 1 (R257 states neither; log 19). -/
opaque subBorrow : Bool

/-- Nanoseconds that the preparation of a session takes, before they are held to the bound of R507 (log 18). -/
opaque prepNs : Nat

/-- DPLL: the change of y from (bandwidth code, phase error, the error before it, sum of the errors, y) (R319; log 17). -/
opaque dpllStep : Nat → Int → Int → Int → Int → Int

/-- The word index SRAM_ERR_INFO shows for an error that core c met in its memories, of the core and its PC (R288, R476; log 87). -/
opaque coreErrWord : Nat → Nat → Nat

/-- A change of the DS clock pauses issue for this many 4 ns ticks, at most 50 (R289; log 88). -/
opaque freqPause : Nat

/-- The timing master's INCR as a member knows it, of the master's time (R298; log 83): no frame and no register carries it. -/
opaque masterIncr : Nat → Nat

/-- The frame that a slip drops or doubles where the one R235 chooses has been read out: of its number and the number of frames held
(log 84). -/
opaque slipHeld : Nat → Nat → Nat

/-- What an unaligned read, recorded as a SIZE access error, returns: requester and address (R46 says only that the access is
discarded; log 20). -/
opaque unalignedRead : Nat → Nat → BitVec 64

/-- What the headers of a stream packet hold where R393 states nothing: IPv4 identification (bits 15 to 0) and don't-fragment flag
(bit 16), or the IPv6 flow label (bits 19 to 0), of the stream and its sequence value (log 79). -/
opaque ipIdent : Nat → Nat → BitVec 32

/-- The sparse and event bits of an AVTP audio packet, of the stream and its sequence value (log 79). -/
opaque aafEvt : Nat → Nat → BitVec 8

end Sys2Proof.Config
end

