-- ==== Sys2Proof/Machine/Crcu.lean ====
section
/-! DEFINITION. The CRC unit: contexts, register feeds and the FEED operation (R454 to R456, R458). -/
namespace Sys2Proof.Machine

/-- The offset of a register of context c. -/
def crcAt (c off : Nat) : Nat := ra pCRCU (0x100 + 0x40 * c + off)
/-- WIDTH of a context. -/
def crcW (f : Fabric) (c : Nat) : Nat := getF f (crcAt c 0) 6 0
/-- A 64-bit pair of a context, without the bits at or above WIDTH (R454). -/
def crcPair (f : Fabric) (c off : Nat) : Nat :=
  (rdN f (crcAt c (off + 4)) * 2 ^ 32 + rdN f (crcAt c off)) % 2 ^ crcW f c
/-- Stores a 64-bit pair of a context. -/
def crcPut (f : Fabric) (c off v : Nat) : Fabric := wrN (wrN f (crcAt c off) v) (crcAt c (off + 4)) (v / 2 ^ 32)
/-- Bits n-1 to 0 of a number in reverse order. -/
def revW : Nat → Nat → Nat
  | 0, _ => 0
  | n + 1, v => v % 2 * 2 ^ n + revW n (v / 2)

/-- One bit of a feed (R454): the input bit, into a register of width w. -/
def crcBit (w poly val b : Nat) : Nat :=
  let t := (b + val / 2 ^ (w - 1)) % 2
  let v := val * 2 % 2 ^ w
  if t = 1 then Nat.xor v poly else v
/-- One byte fed (R454): bit 7 first, after the reflection that REFIN asks for. -/
def crcFeed (w poly : Nat) (refin : Bool) (val byte : Nat) : Nat :=
  let b := if refin then revW 8 byte else byte
  [7, 6, 5, 4, 3, 2, 1, 0].foldl (fun v i => crcBit w poly v (b / 2 ^ i % 2)) val
/-- Bytes fed to the register settings of a context, from a value. -/
def crcFeeds (f : Fabric) (c val : Nat) (bytes : List Nat) : Nat :=
  bytes.foldl (crcFeed (crcW f c) (crcPair f c 0x04) (getB f (crcAt c 0) 8)) val
/-- RES of a context (R454). -/
def crcRes (f : Fabric) (c : Nat) : Nat :=
  let v := crcPair f c 0x1C
  Nat.xor (if getB f (crcAt c 0) 9 then revW (crcW f c) v else v) (crcPair f c 0x14)

/-- A register feed (R455): discarded while ENABLE is 0 (R458), or with CTX_BUSY while FEED runs on the context (R456). -/
def crcRegFeed (f : Fabric) (c off : Nat) (bytes : List Nat) : Fabric :=
  if !enabled f pCRCU then f
  else if opRunning f .feed ∧ getF f 0xA054 2 0 = c then fail f pCRCU 0x0101 (offOf (crcAt c off))
  else crcPut f c 0x1C (crcFeeds f c (crcPair f c 0x1C) bytes)
/-- CMD.LOAD_INIT (R455). -/
def crcLoadInit (f : Fabric) (c : Nat) : Fabric := crcPut f c 0x1C (crcPair f c 0x0C)
/-- The bytes of FEED_W, bits [7:0] first. -/
def feedWBytes (w : Word) : List Nat := [fld w 7 0, fld w 15 8, fld w 23 16, fld w 31 24]

/-- A write of CTX_CFG: a WIDTH of 0 or above 64 is rejected. -/
def crcCfgWrite (f : Fabric) (c : Nat) (v : Word) : Fabric :=
  if fld v 6 0 = 0 ∨ 64 < fld v 6 0 then fail f pCRCU 0x0100 (offOf (crcAt c 0)) else wrR f (crcAt c 0) (v &&& 0x37F)

/-- The range of a FEED lies in DRAM or in the shared SRAM and its length is 1 to 2^24 (R456). -/
def feedInRange (f : Fabric) : Bool :=
  let a := rdN f 0xA048
  let n := getF f 0xA04C 24 0
  decide (1 ≤ n) && decide (n ≤ 2 ^ 24) &&
    (decide (a + n ≤ dramTop) || (decide (0xF000_0000 ≤ a) && decide (a + n ≤ 0xF080_0000)))

/-- The operation FEED is accepted (R456): its arguments and the working copy are kept at offsets 0x054 to 0x064 of the page,
which hold no register, and it fails at once on its range. -/
def feedStart (f : Fabric) : Fabric :=
  let f := opStart f .feed 1
  let f := wrR (wrR (wrR f 0xA05C (rdR f 0xA048)) 0xA058 (rdR f 0xA04C)) 0xA054 (rdR f 0xA050)
  let v := crcPair f (getF f 0xA054 2 0) 0x1C
  let f := wrN (wrN f 0xA060 v) 0xA064 (v / 2 ^ 32)
  if feedInRange f then f else opEnd f .feed 5 0x0001

/-- The bytes a running FEED reads: DRAM through the streamer, or the shared SRAM. -/
def feedBytes (f : Fabric) (m : MemState) : Fabric × MemState × List (Byte × Bool) :=
  let a := rdN f 0xA05C
  let n := getF f 0xA058 24 0
  if a < dramTop then dramRead f m 7 a n
  else (f, m, (mgets zeroB m.shared (a - 0xF000_0000) n).map (fun b => (b, false)))

/-- A running FEED reads its last byte (R456): VAL takes the working copy, or the operation fails with READ. -/
def feedEnd (f : Fabric) (m : MemState) : Fabric × MemState :=
  if !opRunning f .feed then (f, m)
  else
    let r := feedBytes f m
    let c := getF r.1 0xA054 2 0
    if readOk r.2.2 then
      let v := crcFeeds r.1 c (rdN r.1 0xA064 * 2 ^ 32 + rdN r.1 0xA060) ((rawBytes r.2.2).map (fun b => b.toNat))
      let f := opCommit r.1 .feed
      (opEnd (if enabled f pCRCU then crcPut f c 0x1C v else f) .feed 2 0, r.2.1)
    else (opEnd r.1 .feed 5 0x0002, r.2.1)

/-- A read of a context's register: bits at or above WIDTH read 0, and RES is computed (R454). -/
def crcRead (f : Fabric) (c off : Nat) : Word :=
  let half (v lo : Nat) : Word := BitVec.ofNat 32 (if lo = 0 then v else v / 2 ^ 32)
  if off = 0x04 ∨ off = 0x08 then half (crcPair f c 0x04) (off - 0x04)
  else if off = 0x0C ∨ off = 0x10 then half (crcPair f c 0x0C) (off - 0x0C)
  else if off = 0x14 ∨ off = 0x18 then half (crcPair f c 0x14) (off - 0x14)
  else if off = 0x1C ∨ off = 0x20 then half (crcPair f c 0x1C) (off - 0x1C)
  else if off = 0x24 ∨ off = 0x28 then half (crcRes f c) (off - 0x24)
  else rdR f (crcAt c off)

/-- Soft reset of the CRCU (R458): every context at its reset values, through the fields of its page. -/
def crcSoft (f : Fabric) : Fabric := softClear f pCRCU (fun off => decide (off < 0x10))

end Sys2Proof.Machine
end

