-- ==== Sys2Proof/Machine/DbMath.lean ====
section
/-! DEFINITION. Logarithms, exponentials and time constants of the dynamics stage (R206, R207): the exact value with a free
error inside the stated accuracy of 0.001 dB. -/
namespace Sys2Proof.Machine

/-- Holds a free value to a bound (R194, R207). -/
def bounded (lim : Nat) (v : Int) : Int := if v > lim then lim else if v < -(lim : Int) then -(lim : Int) else v

/-- Fraction bits of a base-2 logarithm: m is in [1, 2) at 2^-64. -/
def log2Go : Nat → Nat → Nat → Nat
  | 0, _, acc => acc
  | n + 1, m, acc =>
    let m2 := m * m / 2 ^ 64
    if m2 ≥ 2 ^ 65 then log2Go n (m2 / 2) (acc * 2 + 1) else log2Go n m2 (acc * 2)

/-- log2 of n ≥ 1 at 2^-48. -/
def log2Fix (n : Nat) : Nat :=
  let e := Nat.log2 n
  e * 2 ^ 48 + log2Go 48 (if e ≤ 64 then n * 2 ^ (64 - e) else n / 2 ^ (e - 64)) 0

/-- 20·log10(n / 2^k) as a Q8.24 value, without the free error. -/
def db24 (n k : Nat) : Int :=
  rne (((log2Fix (max n 1) : Int) - ((k * 2 ^ 48 : Nat) : Int)) * 101008905) (2 ^ 48)

/-- 0.001 dB in Q8.24. -/
def dbTol : Nat := 16777

/-- 20·log10 of a level n/2^k, within 0.001 dB (R207). -/
def logDb (n k : Nat) : Int := db24 n k + bounded dbTol (Config.dynErr 0 (db24 n k))

/-- Terms of e^x at 2^-80. -/
def expGo : Nat → Nat → Int → Int → Int → Int
  | 0, _, _, _, acc => acc
  | n + 1, k, x, t, acc =>
    let t' := t * x / (2 ^ 80 : Nat) / ((k : Nat) : Int)
    expGo n (k + 1) x t' (acc + t')

/-- e^x at 2^-80 for x at 2^-80, |x| small. -/
def expFix (x : Int) : Int := expGo 30 1 x (2 ^ 80 : Nat) (2 ^ 80 : Nat)

/-- 2^(y) at 2^-80 for y at 2^-80: integer part shifted, fraction by the exponential series. -/
def pow2Fix (y : Int) : Int :=
  let n := y / (2 ^ 80 : Nat)
  let r := y % (2 ^ 80 : Nat)
  let e := expFix (r * 837963523372001241319908 / (2 ^ 80 : Nat))
  if n ≥ 0 then e * (2 ^ n.toNat : Nat) else e / (2 ^ (-n).toNat : Nat)

/-- 10^(x/20) at 2^-80 of a Q8.24 dB value x. -/
def pow10Fix (x : Int) : Int := pow2Fix (x * 11968507304229045)

/-- 10^(x/20) in Q4.28 or Q5.27 (fraction bits k), within 0.001 dB, of a Q8.24 dB value (R207). -/
def expDb (k : Nat) (x : Int) : Int := rne (pow10Fix (x + bounded dbTol (Config.dynErr 1 x))) (2 ^ (80 - k))

/-- 10^(c/2000) rounded to Q5.27, of a ceiling in 0.01 dB (R207). -/
def ceilLin (c : Int) : Int := rne (pow10Fix (rne (c * 2 ^ 24) 100)) (2 ^ 53)

/-- The coefficient exp(-1/(t·fs)) at 2^-62 of a time in 0.01 ms units (R206). -/
def alphaOf (t10us fs : Nat) : Int :=
  let d := t10us * fs
  let x : Int := -((100000 * 2 ^ 80 / max d 1 : Nat) : Int)
  let e := expFix (x / 64) / 2 ^ 18
  let sq (v : Int) : Int := v * v / 2 ^ 62
  let a := sq (sq (sq (sq (sq (sq e)))))
  max 0 (min (2 ^ 62) a)

end Sys2Proof.Machine
end

