-- ==== Sys2Proof/Machine/Trig.lean ====
section
/-! DEFINITION. Correctly rounded quotients of square roots, sines and cosines (R575): exact at the quadrants, otherwise a
Taylor sum at 2^-160, far below the last bit of any result. -/
namespace Sys2Proof.Machine

/-- The nearest integer, ties to even, of the square root of num/den (den > 0). -/
def rsqrtRatio (num den : Nat) : Nat :=
  let r := isqrt (num / den)
  let lhs := 4 * num
  let rhs := (2 * r + 1) * (2 * r + 1) * den
  if lhs > rhs then r + 1 else if lhs < rhs then r else if r % 2 = 0 then r else r + 1

/-- v·2^s / sqrt(n) rounded to nearest, ties to even, with the sign of v (n > 0). -/
def divSqrt (s : Nat) (v : Int) (n : Nat) : Int :=
  let m : Int := rsqrtRatio (v.natAbs * v.natAbs * 2 ^ (2 * s)) n
  if v < 0 then -m else m

/-- π·2^160, rounded. -/
def pi160 : Nat := 4591442807048218921384805199743311128454155024418

/-- Taylor terms of the sine of x·2^-160: k is the next odd order, t the current term. -/
def sinGo : Nat → Nat → Int → Int → Int → Int
  | 0, _, _, _, acc => acc
  | n + 1, k, x2, t, acc =>
    let t' := -(t * x2 / (2 ^ 160 : Nat)) / (((k + 1) * (k + 2) : Nat) : Int)
    sinGo n (k + 2) x2 t' (acc + t')

/-- sin(π/2 · num/den)·2^160 for num ≤ den: exact at 0 and 1. -/
def sinQuarter (num den : Nat) : Int :=
  if num = 0 then 0 else if num = den then (2 ^ 160 : Nat)
  else
    let x : Int := ((pi160 * num) / (2 * den) : Nat)
    sinGo 40 1 (x * x / (2 ^ 160 : Nat)) x x

/-- sin(2π · num/den)·2^160. -/
def sinTurn (num den : Nat) : Int :=
  let n := (4 * num) % (4 * den)
  let q := n / den
  let r := n % den
  if q = 0 then sinQuarter r den
  else if q = 1 then sinQuarter (den - r) den
  else if q = 2 then -(sinQuarter r den)
  else -(sinQuarter (den - r) den)

/-- cos(2π · num/den)·2^160. -/
def cosTurn (num den : Nat) : Int := sinTurn (4 * num + den) (4 * den)

/-- A value at 2^-160 rounded to k fraction bits (R575). -/
def round160 (k : Nat) (v : Int) : Int := rne v (2 ^ (160 - k))

/-- The crossfade weights of R163 at u = (i + 1)/L in Q2.30: (w_in, w_out). -/
def xfWeights (equalPower : Bool) (i l : Nat) : Int × Int :=
  if i + 1 ≥ l then (2 ^ 30, 0)
  else if equalPower then
    (round160 30 (sinTurn (i + 1) (4 * l)), round160 30 (cosTurn (i + 1) (4 * l)))
  else (rne ((2 ^ 30 : Int) * (i + 1)) l, rne ((2 ^ 30 : Int) * (l - i - 1)) l)

/-- A Q4.28 gain times a Q2.30 weight, rounded to Q4.28 (R163). -/
def gainW (g w : Int) : Int := satS 32 (rne (g * w) (2 ^ 30))

end Sys2Proof.Machine
end

