-- ==== Sys2Proof/Machine/Matrix.lean ====
section
/-! DEFINITION. The crosspoint matrix (05): endpoints, maps, nodes, express routes, gain steps, crossfades, the transition
slots, the generators and the two passes, as functions of the fabric, the matrix state and the sample store. -/
namespace Sys2Proof.Machine

-- Endpoints (R148)

/-- An endpoint whose class and index R148 allows as a source. -/
def srcOk (ep : Nat) : Bool :=
  let c := ep / 4096
  let i := ep % 4096
  if c = 0 then i == 0
  else if c = 1 ∨ c = 2 then decide (i < 2048)
  else if c = 3 then true
  else if 4 ≤ c ∧ c ≤ 7 then decide (i < 1024)
  else if c = 14 then decide (i ≤ 8) || (decide (0x10 ≤ i) && decide (i ≤ 0x13))
  else false

/-- An endpoint whose class and index R148 allows as a destination. -/
def dstOk (ep : Nat) : Bool :=
  let c := ep / 4096
  let i := ep % 4096
  if c = 0 then i == 0
  else if c = 8 ∨ c = 9 ∨ c = 13 then decide (i < 1024)
  else if c = 10 ∨ c = 11 then decide (i < 2048)
  else if c = 12 then true
  else false

/-- Endpoints an express route may take (R168). -/
def xrSrcOk (ep : Nat) : Bool :=
  let c := ep / 4096
  srcOk ep && (c == 1 || c == 2 || c == 3 || c == 4 || c == 14)
/-- Endpoints an express route may write (R168). -/
def xrDstOk (ep : Nat) : Bool :=
  let c := ep / 4096
  dstOk ep && (c == 10 || c == 11 || c == 12)

/-- The destination classes the first pass writes (R148). -/
def firstPass (ep : Nat) : Bool := ep / 4096 == 8 || ep / 4096 == 9 || ep / 4096 == 13
/-- The destination classes the second pass writes (R148). -/
def secondPass (ep : Nat) : Bool := ep / 4096 == 10 || ep / 4096 == 11 || ep / 4096 == 12

/-- The address of SRC_MAP[s] (R150). -/
def srcMapAt (s : Nat) : Nat := ra (144 + s / 512) (0x40 + 4 * (s % 512))
/-- The address of DST_MAP[d] (R150). -/
def dstMapAt (d : Nat) : Nat := ra (148 + d / 512) (0x40 + 4 * (d % 512))

-- Banks' contents

/-- A bank's map. -/
def bankMap (f : Fabric) (b : Bool) : List (Nat × Word) := if b then f.bank1 else f.bank0

/-- The nodes of a bank in ascending (d, s) order (R154). -/
def bankNodes (f : Fabric) (b : Bool) : List (Nat × Nat) :=
  ((bankMap f b).filter (fun e => decide (2 ^ 28 ≤ e.1) && decide (e.1 < 2 ^ 29) && e.1 % 2 == 0 && e.2 != 0)).map
    (fun e => (((e.1 - 2 ^ 28) / 2) % 2048, ((e.1 - 2 ^ 28) / 2) / 2048))

/-- The enabled express routes of a bank, ascending (R168). -/
def bankXrs (f : Fabric) (b : Bool) : List Nat :=
  ((bankMap f b).filter (fun e => decide (2 ^ 29 ≤ e.1) && decide (e.1 < 2 ^ 29 + 2048) && e.1 % 4 == 2 && bit e.2 31)).map
    (fun e => (e.1 - 2 ^ 29) / 4)

/-- The nodes of a bank that the row admits (R157). -/
def admittedNodes (f : Fabric) (b : Bool) : List (Nat × Nat) :=
  ((bankNodes f b).filter (fun n => decide (n.1 < capLogical f) && decide (n.2 < capLogical f))).take (capNode f)

/-- The route of a node in a bank. -/
def nodeRoute (f : Fabric) (b : Bool) (s d : Nat) : Route :=
  ⟨(rdB f b (srcMapAt s)).toNat % 65536, (rdB f b (dstMapAt d)).toNat % 65536, intOf (rdB f b (nodeKey s d))⟩
/-- The route of an express entry in a bank. -/
def xrRoute (f : Fabric) (b : Bool) (i : Nat) : Route :=
  ⟨fld (rdB f b (xrKey i)) 15 0, fld (rdB f b (xrKey i)) 31 16, intOf (rdB f b (xrKey i + 1))⟩

/-- Every admitted route of a bank with its key: express routes in index order, then nodes in (d, s) order (R165). -/
def bankRoutes (f : Fabric) (b : Bool) : List (RouteKey × Route) :=
  (bankXrs f b).map (fun i => (RouteKey.xr i, xrRoute f b i)) ++
  (admittedNodes f b).map (fun n => (RouteKey.node n.1 n.2, nodeRoute f b n.1 n.2))

/-- XF_LEN and LAW of a route in a bank. -/
def routeXf (f : Fabric) (b : Bool) (k : RouteKey) : Nat × Bool :=
  let w := match k with
    | .node s d => rdB f b (nodeKey s d + 1)
    | .xr i => rdB f b (xrKey i + 2)
  (min 4096 (fld w 12 0), bit w 16)

/-- T and L of a zero-crossing step from a ZC_CFG word (R161). -/
def zcTimes (f : Fabric) (w : Word) : Nat × Nat :=
  (max 1 (min 200 (fld w 7 0)) * (if rate96 f then 48 else 24), max 1 (min 4096 (fld w 28 16)))

-- Gains at a position (R160 to R164)

/-- The gain of a gain change at position p (R160, R161). -/
def stepGain (old new : Int) (tmo ramp : Nat) (crossed : Option Nat) (p : Nat) : Int :=
  match crossed with
  | some c => if c ≤ p then new else old
  | none =>
    if p < tmo then old
    else if ramp ≤ p - tmo + 1 then new
    else old + rne ((new - old) * ((p - tmo + 1 : Nat) : Int)) ramp

/-- The terms (source, destination, gain) a transition contributes at position p (R164). -/
def transTerms (t : Trans) (p : Nat) : List Route :=
  if t.route then
    let w := xfWeights t.power p t.len
    (match t.old with
      | some o => [{ o with gain := gainW o.gain w.2 }]
      | none => []) ++
    (match t.new with
      | some n => [{ n with gain := gainW n.gain w.1 }]
      | none => [])
  else match t.old, t.new with
    | some o, some n => [{ n with gain := stepGain o.gain n.gain t.tmo t.ramp t.crossed p }]
    | _, _ => []

/-- What a route contributes at wall MSC w: its first transition decides, else the active bank. -/
def routeTerms (ts : List Trans) (k : RouteKey) (r : Option Route) (w : Nat) : List Route :=
  match ts.find? (fun t => t.key == k) with
  | none => r.toList
  | some t =>
    match t.start with
    | some s => if s ≤ w then transTerms t (w - s) else t.old.toList
    | none => t.old.toList

/-- The number of positions a transition takes; none while a zero crossing is still awaited (R160 to R163). -/
def transLen (t : Trans) : Nat :=
  if t.route then t.len
  else match t.crossed with
    | some c => c + 1
    | none => t.tmo + t.ramp

/-- The zero-crossing wait is still open at position p. -/
def waiting (t : Trans) (p : Nat) : Bool := !t.route && t.start.isSome && t.crossed.isNone && decide (p < t.tmo)

/-- The present gain and routing of a route whose transition has not finished. -/
def presentRoute (t : Trans) : Option Route := t.old

-- Sources (R153)

/-- The sample of a source endpoint at wall MSC w in the first or second pass (R153, R22). -/
def sourceSample (f : Fabric) (a : Audio) (first : Bool) (w : Int) (ep : Nat) : Int :=
  let b : Int := blockLen f
  let c := ep / 4096
  if c = 0 then 0
  else if c = 1 ∨ c = 2 ∨ c = 3 ∨ c = 4 ∨ c = 14 then sample a (if first then w - b else w - 2 * b) ep
  else if c = 5 then sample a (w - b) ep
  else if c = 6 then sample a (if first then w - b else w) ep
  else if c = 7 then sample a w ep
  else 0

/-- Whether position n of a source is a zero crossing (R160). -/
def isCrossing (x y : Int) : Bool := decide (x = 0) || (decide (x < 0) != decide (y < 0))

/-- The pass a transition's route belongs to: true for the first. -/
def transFirst (t : Trans) : Bool :=
  match t.key with
  | .xr _ => true
  | .node _ _ => match t.old, t.new with
    | some o, _ => firstPass o.dst
    | none, some n => firstPass n.dst
    | none, none => true

/-- Looks for the crossing of a waiting gain change over the block at wall MSC w0 (R160). -/
def findCrossing (f : Fabric) (a : Audio) (w0 : Nat) (first : Bool) (t : Trans) : Trans :=
  match t.start, t.new with
  | some s, some n =>
    if t.route || t.crossed.isSome || w0 < s then t
    else
      let c := (upto (blockLen f)).find? (fun i =>
        let w : Int := ((w0 + i : Nat) : Int)
        decide (w0 + i - s < t.tmo) && isCrossing (sourceSample f a first w n.src) (sourceSample f a first (w - 1) n.src))
      { t with crossed := c.map (fun i => w0 + i - s) }
  | _, _ => t

-- The fade of MTX[0].ENABLE (R184)

/-- The weight of the ENABLE fade at wall MSC w, in 1/128. -/
def fadeLevel (m : MtxFade) (w : Nat) : Nat :=
  let i := if w < m.start then 0 else w - m.start + 1
  if m.up then min 128 (m.k0 + i) else m.k0 - min m.k0 i

/-- A gain under the ENABLE fade: equal-gain weights (R184, R163). -/
def fadeGain (k : Nat) (g : Int) : Int :=
  if k = 128 then g else if k = 0 then 0 else gainW g ((k * 2 ^ 23 : Nat) : Int)

-- The passes (R152, R153)

/-- The exact sums of one pass at wall MSC w, by destination endpoint, of products that are rounded and not saturated (R152). -/
def passSums (f : Fabric) (m : MtxState) (a : Audio) (first : Bool) (w : Nat) : List (Nat × Int) :=
  let b := actB f pMTX
  let banked := bankRoutes f b
  let extra := ((m.trans.map (·.key)).filter (fun k => !(banked.any (fun e => e.1 == k)))).foldl
    (fun l k => if l.contains k then l else l ++ [k]) []
  let keys := banked.map (·.1) ++ extra
  let k128 := fadeLevel m.fade w
  keys.foldl (fun acc k =>
    let r := (banked.find? (fun e => e.1 == k)).map (·.2)
    (routeTerms m.trans k r w).foldl (fun acc t =>
      let mine := match k with
        | .xr _ => first
        | .node _ _ => if first then firstPass t.dst else secondPass t.dst
      if mine then
        let v := rshr (sourceSample f a first (w : Int) t.src * fadeGain k128 t.gain) 28
        mset zeroI acc t.dst (mget zeroI acc t.dst + v)
      else acc) acc) []

/-- The MSC at which a pass's result is kept: egress endpoints leave one block later (R20); object inputs carry their
render MSC (R76); chain and DSP inputs the wall MSC of the pass. -/
def writeDst (f : Fabric) (a : Audio) (w : Nat) (dst : Nat) (v : Int) : Audio :=
  let b := blockLen f
  if secondPass dst then putSample a (w + b) dst v
  else if dst / 4096 = 8 then
    (if w < b ∨ capObj f ≤ dst % 4096 then a else putSample a (w - b) (idHist (dst % 4096)) v)
  else if dst / 4096 = 0 then a
  else putSample a w dst v

/-- One pass over the wall block at w0: results, and the destinations that saturated (R152). -/
def runPass (f : Fabric) (m : MtxState) (a : Audio) (first : Bool) (w0 : Nat) : Fabric × Audio :=
  let res := (upto (blockLen f)).foldl (fun (x : Audio × List Nat) i =>
    (passSums f m x.1 first (w0 + i)).foldl (fun (x : Audio × List Nat) e =>
      (writeDst f x.1 (w0 + i) e.1 (satS 32 e.2),
       if satHits 32 e.2 && !x.2.contains e.1 then x.2 ++ [e.1] else x.2)) x) (a, [])
  (res.2.foldl (fun f _ => bump (raise f pMTX 1) (ra pMTX 0x87C)) f, res.1)

/-- Both searches for zero crossings of a pass, made before the pass runs over the block. -/
def crossPass (f : Fabric) (m : MtxState) (a : Audio) (first : Bool) (w0 : Nat) : MtxState :=
  { m with trans := m.trans.map (fun t => if transFirst t == first then findCrossing f a w0 first t else t) }

-- Generators (R170)

/-- A tone sample: round(TONE_LVL · sin(2π φ/2^32)) in Q5.27 (R170). -/
def toneSample (lvl : Int) (phi : Nat) : Int := satS 32 (rne (lvl * sinTurn phi (2 ^ 32)) (2 ^ 164))

/-- The generator samples of one ingress MSC, and the advanced phases (R170). -/
def genSample (f : Fabric) (m : MtxState) (a : Audio) (msc : Nat) : MtxState × Audio :=
  let g (off : Nat) : Word := rdAct f pMTX (ra pMTX off)
  let a := (upto 8).foldl (fun a t =>
    putSample a msc (0xE001 + t) (toneSample (intOf (g (0x904 + 8 * t))) (m.phase.getD t 0))) a
  let a := (upto 4).foldl (fun a p =>
    putSample a msc (0xE010 + p)
      (if g (0x940 + 8 * p) = 0 then 0
       else satS 32 (Config.pink (max 1 (g (0x944 + 8 * p)).toNat) (g (0x940 + 8 * p)).toNat m.formed))) a
  ({ m with phase := (upto 8).map (fun t => (m.phase.getD t 0 + (g (0x900 + 8 * t)).toNat) % 2 ^ 32), formed := m.formed + 1 },
   a)

/-- The generators' samples of the ingress block before the wall block at w0. -/
def genBlock (f : Fabric) (m : MtxState) (a : Audio) (w0 : Nat) : MtxState × Audio :=
  let b := blockLen f
  if w0 < m.origin + b then (m, a)
  else (upto b).foldl (fun (x : MtxState × Audio) i => genSample f x.1 x.2 (w0 - b + i)) (m, a)

-- Transitions of a swap (R162, R165 to R167)

/-- What a swap changes of one route: none, or its transition from old to new. -/
def routeChange (f : Fabric) (k : RouteKey) (old new : Option Route) (oldB newB : Bool) : Option Trans :=
  if old = new then none
  else
    let zc := zcTimes f (rdB f newB (ra pMTX 0x858))
    let isRoute := match old, new with
      | some o, some n => decide (o.src ≠ n.src) || decide (o.dst ≠ n.dst)
      | _, _ => true
    let xf := routeXf f (if new.isNone then oldB else newB) k
    some ⟨k, old, new, isRoute, xf.1, xf.2, zc.1, zc.2, none, none, false⟩

/-- Removals and destination remaps come first (R165). -/
def goesFirst (t : Trans) : Bool :=
  match t.old, t.new with
  | some _, none => true
  | some o, some n => decide (o.dst ≠ n.dst)
  | none, _ => false

/-- The transitions a swap creates, in the order of R165. -/
def swapChanges (f : Fabric) (oldB newB : Bool) : List Trans :=
  let o := bankRoutes f oldB
  let n := bankRoutes f newB
  let look (l : List (RouteKey × Route)) (k : RouteKey) : Option Route := (l.find? (fun e => e.1 == k)).map (·.2)
  let xrs := ((upto 512).map RouteKey.xr).filter (fun k => (look o k).isSome || (look n k).isSome)
  let nodeKeys := (o ++ n).filterMap (fun e => match e.1 with
    | .node s d => some (d * 2048 + s)
    | .xr _ => none)
  let nodes := (nodeKeys.foldl (fun l k => mset (fun _ => false) l k true) []).map
    (fun e => RouteKey.node (e.1 % 2048) (e.1 / 2048))
  let all := (xrs ++ nodes).filterMap (fun k => routeChange f k (look o k) (look n k) oldB newB)
  all.filter goesFirst ++ all.filter (fun t => !goesFirst t)

/-- Transitions in slots. -/
def slotsUsed (ts : List Trans) : Nat := (ts.filter (fun t => t.start.isSome)).length

/-- A node's key, not an express route's. -/
def RouteKey.isNode : RouteKey → Bool
  | .node _ _ => true
  | .xr _ => false

/-- The nodes computed in a pass (R166); express routes are none (R168). -/
def computedNodes (f : Fabric) (ts : List Trans) (first : Bool) : Nat :=
  let b := bankRoutes f (actB f pMTX)
  let inBank := (b.filter (fun e => e.1.isNode && (if first then firstPass e.2.dst else secondPass e.2.dst) &&
    !(ts.any (fun t => t.key == e.1 && t.old.isNone && t.start.isNone)))).length
  let leaving := (ts.filter (fun t => t.key.isNode && t.new.isNone && transFirst t == first)).length
  inBank + leaving

/-- A transition may take a slot (R165, R166). -/
def mayStart (f : Fabric) (ts : List Trans) (t : Trans) : Bool :=
  decide (slotsUsed ts < 16384) &&
    !(t.key.isNode && t.old.isNone && decide (capNode f + 16384 ≤ computedNodes f ts (transFirst t)))

/-- The transition t of a swap, made to start from another gain and routing than the old bank's (R167). -/
def fromPresent (t : Trans) (old : Option Route) : Trans :=
  { t with old := old, route := match old, t.new with
      | some o, some n => decide (o.src ≠ n.src) || decide (o.dst ≠ n.dst)
      | _, _ => true }

/-- Enters one transition of a swap, starting at wall MSC w0 where it can (R165 to R167). -/
def enterTrans (w0 : Nat) (acc : Fabric × List Trans) (t : Trans) : Fabric × List Trans :=
  let f := acc.1
  let ts := acc.2
  let queue (f : Fabric) : Fabric := bump (raise f pMTX 3) (ra pMTX 0x874)
  let runs (y : Trans) : Bool := y.key == t.key && y.start.isSome
  let queued (y : Trans) : Bool := y.key == t.key && y.start.isNone
  let put (p : Trans → Bool) (x : Trans) : List Trans := ts.map (fun y => if p y then x else y)
  match ts.find? runs, ts.find? queued with
  | none, none =>
    if mayStart f ts t && ts.all (fun x => x.start.isSome) then (f, ts ++ [{ t with start := some w0 }])
    else (queue f, ts ++ [t])
  -- one that has not started is replaced in its place: it will start from what its node carries then
  | some x, some _ => (f, put queued (fromPresent t x.new))
  | none, some q => (f, put queued (fromPresent t q.old))
  | some x, none =>
    let s := x.start.getD w0
    if waiting x (w0 - s) then
      (f, put runs (if t.route then { t with old := x.old, start := some w0 } else { x with new := t.new }))
    else if s + transLen x ≤ w0 then
      -- finished, its slot not yet freed: the new transition takes the slot
      (f, put runs { t with start := some w0 })
    else (queue f, ts ++ [fromPresent t x.new])

/-- The matrix's part of a swap at wall MSC w0, after the banks are exchanged (R157, R162 to R167): transitions belong to a
session. -/
def mtxSwap (f : Fabric) (m : MtxState) (w0 : Nat) : Fabric × MtxState :=
  let newB := actB f pMTX
  let ovr := decide ((admittedNodes f newB).length < (bankNodes f newB).length)
  let f := putB f (ra pMTX 0x860) 1 ovr
  let f := raiseIf ovr f pMTX 5
  if !running f then (f, m) else
  let (f, ts) := (swapChanges f (!newB) newB).foldl (enterTrans w0) (f, m.trans)
  (f, { m with trans := ts })

/-- The first queued transition that a free slot may start (R165, R166). -/
def nextQueued (f : Fabric) (ts : List Trans) : Option Trans :=
  (ts.find? (fun t => t.start.isNone && !(ts.any (fun x => x.key == t.key && x.start.isSome)))).filter (mayStart f ts)

-- Node and express access (R155, R156, R169)

/-- MTX locked by the swap or an operation, or copying (R155). -/
def mtxLocked (f : Fabric) : Bool := getB f (ra pMTX 0x2C) 1
/-- COPYING of a controller page. -/
def copying (f : Fabric) (ctrl : Nat) : Bool := getB f (ra ctrl 0x2C) 2
/-- LOCKED of a controller page. -/
def locked (f : Fabric) (ctrl : Nat) : Bool := getB f (ra ctrl 0x2C) 1

/-- NODES_SHD (R154). -/
def nodesShd (f : Fabric) : Nat := (bankNodes f (!actB f pMTX)).length

/-- NODE_ADDR after an access (R155). -/
def nextAddr (f : Fabric) (w : Word) : Word :=
  let n := capLogical f
  let inc := fld w 29 28
  if inc = 1 then setFld w 26 16 (if fld w 26 16 + 1 ≥ n then 0 else fld w 26 16 + 1)
  else if inc = 2 then setFld w 10 0 (if fld w 10 0 + 1 ≥ n then 0 else fld w 10 0 + 1)
  else w

/-- The outcome of a node write by a gain (R155, R156): RESULT. -/
def nodeVerdict (f : Fabric) (m : MtxState) (s d : Nat) (g : Word) : Nat :=
  if mtxLocked f || m.ldBusy then 4
  else if copying f pMTX then 5
  else if capLogical f ≤ s ∨ capLogical f ≤ d then 3
  else if g ≠ 0 ∧ rdShd f pMTX (nodeKey s d) = 0 ∧ capNode f ≤ nodesShd f then 2
  else 1

/-- Stores a node in the shadow bank. -/
def storeNode (f : Fabric) (s d : Nat) (g ctrl : Word) : Fabric :=
  let c := BitVec.ofNat 32 (min 4096 (fld ctrl 12 0) + (bit ctrl 16).toNat * 2 ^ 16)
  if g = 0 then wrShd (wrShd f pMTX (nodeKey s d) 0) pMTX (nodeKey s d + 1) 0
  else wrShd (wrShd f pMTX (nodeKey s d) g) pMTX (nodeKey s d + 1) c

/-- A write of NODE_DATA by requester q (R155, R156). -/
def nodeWrite (f : Fabric) (m : MtxState) (q : Nat) (g : Word) : Fabric :=
  if !ready f pMTX then fail f pMTX 1 0x8A8
  else
    let aw := rdO f q (ra pMTX 0x8A0)
    let s := fld aw 10 0
    let d := fld aw 26 16
    let v := nodeVerdict f m s d g
    let f := wrO f q (ra pMTX 0x8A8) g
    let f := if v = 1 then
        (if g = 0 ∧ rdShd f pMTX (nodeKey s d) = 0 then f else storeNode f s d g (rdO f q (ra pMTX 0x8A4)))
      else if v = 2 then
        fail (bump (raise (putB f (ra pMTX 0x860) 0 true) pMTX 0) (ra pMTX 0x870)) pMTX 0x0100 (aw.toNat % 2 ^ 27)
      else if v = 3 then fail f pMTX 0x0103 (aw.toNat % 2 ^ 27)
      else if v = 4 then fail f pMTX 0x01F0 (aw.toNat % 2 ^ 27)
      else fail f pMTX 0x0005 (aw.toNat % 2 ^ 27)
    let f := wrO f q (ra pMTX 0x8B0) (BitVec.ofNat 32 v)
    wrO f q (ra pMTX 0x8A0) (nextAddr f aw)

/-- A read of NODE_DATA by requester q (R155). -/
def nodeRead (f : Fabric) (q : Nat) : Fabric :=
  let aw := rdO f q (ra pMTX 0x8A0)
  let s := fld aw 10 0
  let d := fld aw 26 16
  let bad := decide (capLogical f ≤ s) || decide (capLogical f ≤ d)
  let g := if bad then 0 else rdShd f pMTX (nodeKey s d)
  let c := rdShd f pMTX (nodeKey s d + 1)
  let rb := if bad ∨ g = 0 then 0 else c.toNat + 2 ^ 31
  let f := if bad then fail f pMTX 0x0103 (aw.toNat % 2 ^ 27) else f
  let f := wrO f q (ra pMTX 0x8AC) (BitVec.ofNat 32 rb)
  let f := wrO f q (ra pMTX 0x8B0) (BitVec.ofNat 32 (if bad then 3 else 1))
  answer (wrO f q (ra pMTX 0x8A0) (nextAddr f aw)) q g.toNat

/-- The DST_MAP entries of the shadow bank that hold an endpoint. -/
def dstHolders (f : Fabric) (ep : Nat) : List Nat :=
  ((bankMap f (!actB f pMTX)).filter (fun e =>
    decide (ra 148 0x40 ≤ e.1) && decide (e.1 < ra 152 0) && decide (0x40 ≤ offOf e.1) && decide (offOf e.1 < 0x840) &&
    e.2.toNat % 65536 == ep)).map (fun e => (pageOf e.1 - 148) * 512 + (offOf e.1 - 0x40) / 4)

/-- The enabled express entries of the shadow bank that hold a destination. -/
def xrHolders (f : Fabric) (ep : Nat) : List Nat :=
  (bankXrs f (!actB f pMTX)).filter (fun i => (xrRoute f (!actB f pMTX) i).dst == ep)

/-- The check of a map write (R151): the error code, 0 where accepted. -/
def mapVerdict (f : Fabric) (dst : Bool) (i v : Nat) : Nat :=
  if !(if dst then dstOk v else srcOk v) then 0x0101
  else if capLogical f ≤ i ∧ v ≠ 0 then 0x0103
  else if dst ∧ v ≠ 0 ∧ ((dstHolders f v).any (· != i) ∨ !(xrHolders f v).isEmpty) then 0x0102
  else 0

/-- The code with which a shadow write is turned away by the unit's state, 0 where it is not (R173). -/
def shadowGate (f : Fabric) (ctrl : Nat) : Nat :=
  if locked f ctrl then 0x01F0 else if copying f ctrl then 0x0005 else 0

/-- A map write (R151). -/
def mapWrite (f : Fabric) (dst : Bool) (i : Nat) (v : Word) : Fabric :=
  let a := if dst then dstMapAt i else srcMapAt i
  let p := pageOf a
  let ep := v.toNat % 65536
  if !ready f p then fail f p 1 (offOf a)
  else
    let gate := shadowGate f pMTX
    let c := if gate ≠ 0 then gate else mapVerdict f dst i ep
    if c = 0 then wrShd f pMTX a (BitVec.ofNat 32 ep)
    else raise (fail f p c (ep + i % 2048 * 2 ^ 16)) pMTX 4

/-- The outcome of an express WRITE (R169): XR_RESULT. -/
def xrVerdict (f : Fabric) (m : MtxState) (i : Nat) (ep cfg : Word) : Nat :=
  let s := fld ep 15 0
  let d := fld ep 31 16
  let en := bit cfg 31
  if mtxLocked f || m.ldBusy then 4
  else if copying f pMTX then 5
  else if !((xrSrcOk s || (!en && s == 0)) && (xrDstOk d || (!en && d == 0))) then 3
  else if en ∧ (!(dstHolders f d).isEmpty ∨ (xrHolders f d).any (· != i)) then 2
  else 1

/-- An express WRITE from requester q's staging registers (R169). -/
def xrWrite (f : Fabric) (m : MtxState) (q : Nat) : Fabric :=
  if !ready f pMTX then fail f pMTX 1 0x8D0
  else
    let i := fld (rdO f q (ra pMTX 0x8C0)) 8 0
    let ep := rdO f q (ra pMTX 0x8C4)
    let cfg := rdO f q (ra pMTX 0x8CC)
    let v := xrVerdict f m i ep cfg
    let f := wrO f q (ra pMTX 0x8D4) (BitVec.ofNat 32 v)
    if v = 1 then
      let f := wrShd f pMTX (xrKey i) ep
      let f := wrShd f pMTX (xrKey i + 1) (rdO f q (ra pMTX 0x8C8))
      wrShd f pMTX (xrKey i + 2) (setFld cfg 12 0 (min 4096 (fld cfg 12 0)))
    else
      let code := if v = 2 then 0x0102 else if v = 3 then 0x0101 else if v = 4 then 0x01F0 else 0x0005
      raise (fail f pMTX code (i * 2 ^ 16)) pMTX 4

/-- An express READ into requester q's staging registers (R169). -/
def xrRead (f : Fabric) (q : Nat) : Fabric :=
  let i := fld (rdO f q (ra pMTX 0x8C0)) 8 0
  let f := wrO f q (ra pMTX 0x8C4) (rdShd f pMTX (xrKey i))
  let f := wrO f q (ra pMTX 0x8C8) (rdShd f pMTX (xrKey i + 1))
  let f := wrO f q (ra pMTX 0x8CC) (rdShd f pMTX (xrKey i + 2))
  wrO f q (ra pMTX 0x8D4) 1

/-- The fade a change of MTX[0].ENABLE starts (R184): from the weight reached, at wall MSC w0. -/
def mtxEnable (f : Fabric) (m : MtxState) (on : Bool) (w0 : Nat) : MtxState :=
  if running f then { m with fade := ⟨w0, fadeLevel m.fade (w0 - 1), on⟩ }
  else { m with fade := ⟨0, if on then 128 else 0, on⟩ }

/-- MTX[0] soft reset (R184): the pages, both banks, every transition. -/
def mtxSoft (f : Fabric) (_ : MtxState) : Fabric × MtxState :=
  let f := (upto 8).foldl (fun f i => pageClear f (pMTX + i)) f
  let f := softClearOwn (clearUnit f pMTX) pMTX
  (f, MtxState.reset)

end Sys2Proof.Machine
end

