-- ==== Sys2Proof/Machine/Chains.lean ====
section
/-! DEFINITION. The speaker chains (06): the six stages, their crossfades, the pool, the ledger and the registers, as functions
of the fabric, the chain state and the sample store. -/
namespace Sys2Proof.Machine

-- Addresses (R214, R219, R221)

/-- The BAR0 offset of a chain register (R219). -/
def spkAt (n off : Nat) : Nat := ra (192 + n / 16) (0x40 + 0x80 * (n % 16) + off)
/-- The BAR0 offset of CNV_CFG of a chain (R221). -/
def cnvAt (n : Nat) : Nat := ra (257 + n / 256) (0x40 + 8 * (n % 256))
/-- The BAR0 offset of word j of a chain's biquads (R214). -/
def bqAt (n j : Nat) : Nat := 0x60_0000 + 0x200 * n + 4 * j
/-- The BAR0 offset of a head tap (R214). -/
def headAt (n k : Nat) : Nat := 0x68_0000 + 0x200 * n + 4 * k
/-- The BAR0 offset of a word of a dynamics record (R214). -/
def dynAt (n j : Nat) : Nat := 0x70_0000 + 0x40 * n + 4 * j
/-- The key of a tail coefficient in the pool (R198); the pool's layout in DRAM is not described. -/
def poolKey (n k : Nat) : Nat := 2 ^ 30 + n * 2 ^ 15 + k

-- Lengths and the pool (R195 to R200)

/-- L of a length code (R195). -/
def lenOf (c : Nat) : Nat := if c ≤ 6 then 128 * 2 ^ c else 4096 * (c - 4)

/-- The code as used in the session's rate (R195). -/
def usedCode (f : Fabric) (c : Nat) : Nat := if !rate96 f && decide (8 < c) then 8 else c

/-- L of a chain in a CNV bank (R195). -/
def cfgLen (f : Fabric) (bc : Bool) (n : Nat) : Nat := lenOf (usedCode f (fld (rdB f bc (cnvAt n)) 3 0))

/-- The first taps and sizes of the partitions of R195. -/
def partitions : List (Nat × Nat) :=
  [(128, 128), (256, 256), (512, 512), (1024, 1024), (2048, 2048)] ++ (upto 7).map (fun i => (4096 * (i + 1), 4096))

/-- Chains that may demand the pool: those whose LEN_CODE is above 0 in a CNV bank, ascending. -/
def lenChains (f : Fabric) (bc : Bool) : List Nat :=
  ((bankMap f bc).filter (fun e => decide (ra 257 0x40 ≤ e.1) && decide (e.1 < ra 261 0) && offOf e.1 % 8 == 0 &&
    fld e.2 3 0 != 0)).map (fun e => (pageOf e.1 - 257) * 256 + (offOf e.1 - 0x40) / 8)

/-- The pool demand with EN from one bank and LEN_CODE from another (R199). -/
def poolDemand (f : Fabric) (bs bc : Bool) : Nat :=
  (lenChains f bc).foldl (fun t n => if bit (rdB f bs (spkAt n 0)) 0 then t + (cfgLen f bc n - 128) else t) 0

/-- TAPS_SHD (R199). -/
def tapsShd (f : Fabric) : Nat := poolDemand f (!actB f pSPK) (!actB f pCNV)
/-- TAPS_ACT (R199). -/
def tapsAct (f : Fabric) : Nat := poolDemand f (actB f pSPK) (actB f pCNV)

/-- CNV_NOT_ADMITTED of a chain. -/
def notAdmitted (f : Fabric) (n : Nat) : Bool := getB f (spkAt n 0x18) 8

/-- Tail admission (R200); under POOL_REGION no tail runs (R198). -/
def tailAdmit (f : Fabric) : Fabric :=
  let bs := actB f pSPK
  let bc := actB f pCNV
  let region := getB f (ra pCNV 0x50) 2
  let cand := (lenChains f bc).filter (fun n => region || bit (rdB f bs (spkAt n 0)) 0)
  let all := upto 1024
  let f := all.foldl (fun f n => if notAdmitted f n then putB f (spkAt n 0x18) 8 false else f) f
  let r := cand.foldl (fun (x : Fabric × Nat × Nat × Bool) n =>
    let use := cfgLen f bc n - 128
    if !region && decide (x.2.1 + use ≤ capTaps f) then (x.1, x.2.1 + use, x.2.2.1 + 1, x.2.2.2)
    else (putB x.1 (spkAt n 0x18) 8 true, x.2.1, x.2.2.1, true)) (f, 0, 0, false)
  let f := putF r.1 (ra pCNV 0x54) 10 0 r.2.2.1
  if region then f
  else
    let f := putB f (ra pCNV 0x50) 0 r.2.2.2
    raiseIf r.2.2.2 f pCNV 1

/-- The region checks at engine start (R198, R211). -/
def chainRegions (f : Fabric) : Fabric :=
  let pool := decide (0xE000_0000 < rdN f (ra pCNV 0x4C) + 2 ^ 28)
  let size := capChain f * (if rate96 f then 2 ^ 20 else 2 ^ 19)
  let dly := decide (0xE000_0000 < rdN f (ra pSPK 0x848) + size)
  let f := putB f (ra pCNV 0x50) 2 pool
  let f := putB f (ra pSPK 0x84C) 0 dly
  raiseIf dly f pSPK 8

-- The configuration in force

/-- The non-zero taps of a chain in a CNV bank below a length. -/
def bankTaps (f : Fabric) (bc : Bool) (n len : Nat) : List (Nat × Int) :=
  ((bankMap f bc).filter (fun e => decide (headAt n 0 ≤ e.1) && decide (e.1 < headAt n 128))).map
    (fun e => ((e.1 - headAt n 0) / 4, intOf e.2)) ++
  ((bankMap f bc).filter (fun e => decide (poolKey n 0 ≤ e.1) && decide (e.1 < poolKey n len))).map
    (fun e => (e.1 - poolKey n 0, intOf e.2))

/-- The essential length of a chain (R202). -/
def essLen (f : Fabric) (bc : Bool) (n : Nat) : Nat :=
  let c := fld (rdB f bc (cnvAt n)) 15 12
  if c = 15 ∨ (!rate96 f ∧ 9 ≤ c) then 32768 else lenOf c

/-- Tail partitions of the chain are shed (R202, R498). -/
def tailShed (f : Fabric) (n : Nat) : Bool :=
  let bc := actB f pCNV
  isShed f 2 && decide (essLen f bc n < cfgLen f bc n) && bit (rdAct f pSPK (spkAt n 0)) 0

/-- The length of the response in force (R195, R198, R200, R202, R222). -/
def respLen (f : Fabric) (n : Nat) : Nat :=
  let l := cfgLen f (actB f pCNV) n
  if !enabled f pCNV || notAdmitted f n then 128
  else if tailShed f n then min l (essLen f (actB f pCNV) n) else l

/-- What the active banks say of a chain. -/
def chainCfg (f : Fabric) (n : Nat) : ChainCfg :=
  let bs := actB f pSPK
  let bc := actB f pCNV
  let ctrl := rdB f bs (spkAt n 0)
  let len := respLen f n
  { ctrl := ctrl
    on := enabled f pSPK
    inGain := intOf (rdB f bs (spkAt n 4))
    outGain := intOf (rdB f bs (spkAt n 8))
    dly := if getB f (ra pSPK 0x84C) 0 then 0
      else min (if rate96 f then 262143 else 131071) (fld (rdB f bs (spkAt n 0xC)) 17 0)
    xf := rdB f bs (spkAt n 0x10)
    bq := (upto (5 * fld ctrl 10 6)).map (fun j => intOf (rdB f bs (bqAt n j)))
    bqAll := (bankMap f bs).filter (fun e => decide (bqAt n 0 ≤ e.1) && decide (e.1 < bqAt n 80))
    dyn := (upto 10).map (fun j => rdB f bs (dynAt n j))
    resp := ⟨len, fld (rdB f bc (cnvAt n)) 10 8, bankTaps f bc n len⟩
    decl := (rdB f bc (cnvAt n) &&& 0x70F, bankTaps f bc n (cfgLen f bc n)) }

def ChainCfg.en (c : ChainCfg) : Bool := bit c.ctrl 0
def ChainCfg.iirEn (c : ChainCfg) : Bool := bit c.ctrl 1
def ChainCfg.cnvEn (c : ChainCfg) : Bool := bit c.ctrl 2
def ChainCfg.dynEn (c : ChainCfg) : Bool := bit c.ctrl 3
def ChainCfg.mute (c : ChainCfg) : Bool := bit c.ctrl 4
def ChainCfg.sumEn (c : ChainCfg) : Bool := bit c.ctrl 5
def ChainCfg.slot (c : ChainCfg) : Nat := fld c.ctrl 26 16

/-- LOOKAHEAD as used (R210). -/
def ChainCfg.la (c : ChainCfg) (r96 : Bool) : Nat := min (if r96 then 192 else 96) (fld (c.dyn.getD 9 0) 7 0)

/-- The fields a stage switch is about (R189, R220). -/
def ChainCfg.switches (c : ChainCfg) : Word × Bool := (c.ctrl &&& 0x1F, c.on)

-- Crossfades

/-- A crossfade still runs at sample w. -/
def Fade.live {α : Type} (x : Option (Fade α)) (w : Nat) : Option (Fade α) :=
  x.filter (fun d => decide (w < d.start + d.len))

/-- Two outputs combined with equal-gain weights at position i of l (R163, R189). -/
def mix (i l : Nat) (new old : Int) : Int :=
  let w := xfWeights false i l
  satS 32 (rshr (w.1 * new + w.2 * old) 30)

/-- A value under a crossfade: new and old mixed while it runs. -/
def fadeVal {α : Type} (x : Option (Fade α)) (w : Nat) (new : Int) (old : α → Int) : Int :=
  match x with
  | some d => if w < d.start + d.len then mix (w - d.start) d.len new (old d.old) else new
  | none => new

/-- Starts a crossfade of length len at w; none for length 0. -/
def startFade {α : Type} (w len : Nat) (old : α) : Option (Fade α) := if len = 0 then none else some ⟨w, len, old⟩

-- Taking up a change of configuration at the first sample w0 of a chain stage (R187 to R193, R205, R212, R213)

/-- EQ_XF of a configuration. -/
def ChainCfg.eqXf (c : ChainCfg) : Nat := min 4096 (fld c.xf 28 16)
/-- DLY_XF of a configuration. -/
def ChainCfg.dlyXf (c : ChainCfg) : Nat := min 4096 (fld c.xf 12 0)

/-- The EQ change of R193. -/
def takeEq (w0 : Nat) (c : ChainCfg) (s : Side) : Side :=
  if c.iirEn && s.cfg.iirEn then
    if c.bqAll = s.cfg.bqAll ∧ c.bq.length = s.cfg.bq.length then s
    else { s with
      eq := startFade w0 c.eqXf (s.cfg.bq, s.iir)
      iir := (s.iir ++ List.replicate 16 BqSt.zero).take (c.bq.length / 5) }
  else { s with eq := none, iir := List.replicate (c.bq.length / 5) BqSt.zero }

/-- The step of OUT_GAIN (R213, R167 as for a node). -/
def takeOut (f : Fabric) (w0 : Nat) (c : ChainCfg) (s : Side) : Side :=
  let begin_ (s : Side) : Side :=
    if s.outGain = c.outGain then { s with step := none }
    else
      let z := zcTimes f (rdAct f pSPK (ra pSPK 0x844))
      { s with step := some ⟨s.outGain, c.outGain, z.1, z.2, w0, none, false⟩, outGain := c.outGain }
  match s.step with
  | none => begin_ s
  | some t =>
    let p := w0 - t.start
    let total := match t.crossed with
      | some k => k + 1
      | none => t.tmo + t.ramp
    if t.crossed.isNone && decide (p < t.tmo) then { s with step := some { t with new := c.outGain }, outGain := c.outGain }
    else if total ≤ p then begin_ s
    else s

/-- The stage-1 gain at sample w (R188). -/
def rampGain (x : Option (Fade Int)) (w : Nat) (g : Int) : Int :=
  match x with
  | some d => if w < d.start + d.len then d.old + rne ((g - d.old) * ((w - d.start + 1 : Nat) : Int)) d.len else g
  | none => g

/-- The XF length of the active CNV_CFG (R205). -/
def respXf (f : Fabric) (n : Nat) : Nat := min 4096 (fld (rdAct f pCNV (cnvAt n)) 28 16)

/-- A side that takes up a new configuration while its enabled stages run on. -/
def takeCfg (f : Fabric) (w0 xf : Nat) (c : ChainCfg) (s : Side) : Side :=
  if !s.cfg.en then { Side.zero with cfg := c, since := w0, dynFrom := w0, outGain := c.outGain,
                                     iir := List.replicate (c.bq.length / 5) BqSt.zero }
  else
    let r96 := rate96 f
    let s := takeEq w0 c s
    let s := if c.resp = s.cfg.resp ∧ c.decl = s.cfg.decl then s
      else { s with rsp := startFade w0 xf s.cfg.resp }
    let s := if c.dly = s.cfg.dly then s else { s with dly := startFade w0 c.dlyXf s.cfg.dly }
    let s := if c.la r96 = s.cfg.la r96 then s else { s with la := startFade w0 c.dlyXf (s.cfg.la r96) }
    let s := if c.sumEn == s.cfg.sumEn && c.slot == s.cfg.slot then s else { s with sum := startFade w0 64 s.cfg.ctrl }
    let s := if c.inGain = s.cfg.inGain then s
      else { s with ramp := startFade w0 64 (rampGain s.ramp (w0 - 1) s.cfg.inGain) }
    let s := takeOut f w0 c s
    let s := if c.dynEn && !s.cfg.dynEn then { s with s := 0, r := 0, m := 0, qs := [], dynFrom := w0, la := none } else s
    { s with cfg := c }

/-- The chain at the first sample of a chain stage: what changed starts its transition (R189). -/
def takeChain (f : Fabric) (w0 : Nat) (n : Nat) (ch : Chain) : Chain :=
  let c := chainCfg f n
  let alt := ch.alt.filter (fun a => decide (w0 < a.1 + 64))
  if c = ch.cur.cfg then { ch with alt := alt, cur := takeOut f w0 c ch.cur }
  else
    let s := takeCfg f w0 (respXf f n) c ch.cur
    if c.switches = ch.cur.cfg.switches then ⟨s, alt⟩ else ⟨s, some (w0, ch.cur)⟩

/-- The chain as the engine starts: the full configuration with no fade (R189). -/
def startChain (f : Fabric) (w0 : Nat) (n : Nat) : Chain :=
  let c := chainCfg f n
  ⟨{ Side.zero with cfg := c, since := w0, dynFrom := w0, outGain := c.outGain,
                    iir := List.replicate (c.bq.length / 5) BqSt.zero }, none⟩

-- The sample lines of a chain

/-- Lines of the old configuration during a stage switch. -/
def idOld (line n : Nat) : Nat := 0x7_0000 + line * 0x1000 + n
/-- A ring sum slot as received (R186). -/
def idSum (slot : Nat) : Nat := 0x8_0000 + slot
/-- A line of a chain: 0 stage-3 input, 1 stage-4 input, 2 stage-5 input, 3 stage-6 input. -/
def lineId (line n : Nat) : Nat := (line + 2) * 0x1_0000 + n

/-- A sample of a chain's line at an MSC, in the main configuration or the old one since alt; zeros before from. -/
def lineAt (a : Audio) (alt : Option Nat) (line n from_ : Nat) (w : Int) : Int :=
  if w < (from_ : Int) then 0
  else match alt with
    | none => sample a w (lineId line n)
    | some t => if w < (t : Int) then sample a w (lineId line n) else sample a w (idOld line n)

/-- Writes a chain's line. -/
def putLine (a : Audio) (alt : Option Nat) (line n w : Nat) (v : Int) : Audio :=
  putSample a w (if alt.isSome then idOld line n else lineId line n) v

-- Stages 0 to 3

/-- The flags a block sets, numbered as CH_STAT (R219). -/
structure Flags where
  inSat : Bool := false
  iirSat : Bool := false
  cnvSat : Bool := false
  dynSat : Bool := false
  outSat : Bool := false
  clip : Bool := false
  dlyErr : Bool := false
  cnvErr : Bool := false
  deriving DecidableEq, Repr

/-- Flags of both sides of a stage switch together. -/
def Flags.or (x y : Flags) : Flags :=
  ⟨x.inSat || y.inSat, x.iirSat || y.iirSat, x.cnvSat || y.cnvSat, x.dynSat || y.dynSat, x.outSat || y.outSat,
   x.clip || y.clip, x.dlyErr || y.dlyErr, x.cnvErr || y.cnvErr⟩

/-- The input sum of a chain under a CH_CTRL word (R186, R187): exact, before saturation. -/
def chainSum (f : Fabric) (a : Audio) (n : Nat) (ctrl : Word) (w : Nat) : Int :=
  let b : Int := blockLen f
  let back : Int := if bit ctrl 5 then 2 * b else b
  let t : Int := (w : Int) - back
  sample a t (0x5000 + n) + sample a t (0x9000 + n) + (if bit ctrl 5 then sample a ((w : Int) - b) (idSum (fld ctrl 26 16)) else 0)

/-- One biquad on a Q24.56 input (R191, R192): new state, output, saturation. -/
def biquad (co : List Int) (k : Nat) (st : BqSt) (x : Int) : BqSt × Bool :=
  let c (j : Nat) : Int := co.getD (5 * k + j) 0
  let t := c 0 * x + c 1 * st.x1 + c 2 * st.x2 - c 3 * st.y1 - c 4 * st.y2
  let y := rshr t 29
  (⟨x, st.x1, satS 80 y, st.y1⟩, satHits 80 y)

/-- A filter set on a Q5.27 input (R191, R192): new states, Q5.27 output, saturation. -/
def iirRun (co : List Int) (sts : List BqSt) (x : Int) : List BqSt × Int × Bool :=
  let r := sts.foldl (fun (acc : List BqSt × Int × Bool) st =>
    let o := biquad co acc.1.length st acc.2.1
    (acc.1 ++ [o.1], o.1.y1, acc.2.2 || o.2)) ([], x * 2 ^ 29, false)
  let y := rshr r.2.1 29
  (r.1, satS 32 y, r.2.2)

/-- The head's exact sum and the tail's, with its error held to the bound of R194, at sample w. -/
def convolve (r : Resp) (x : Int → Int) (failed : Nat → Bool) (w : Nat) : Int × Bool :=
  let at_ (k : Nat) : Int := x ((w : Int) - (k : Int))
  let used := r.taps.filter (fun e => decide (e.1 < r.len) && !failed e.1)
  let head := (used.filter (fun e => decide (e.1 < 128))).foldl (fun t e => t + e.2 * at_ e.1) 0
  let tailTaps := used.filter (fun e => decide (128 ≤ e.1))
  let tail := tailTaps.foldl (fun t e => t + e.2 * at_ e.1) 0
  let err : Int :=
    if r.len ≤ 128 then 0
    else
      let win := (upto (r.len - 128)).map (fun i => at_ (128 + i))
      let mx := win.foldl (fun m v => max m v.natAbs) 0
      let hs := tailTaps.foldl (fun t e => t + e.2.natAbs) 0
      bounded (mx * hs / 2 ^ 26 + 2 ^ 31) (Config.tailErr win tailTaps)
  let y := rshr ((head + tail + err) * 2 ^ r.shift) 31
  (satS 32 y, satHits 32 y)

/-- The partition of a tap (R195), by its first tap. -/
def partOf (k : Nat) : Nat := (partitions.find? (fun p => decide (p.1 ≤ k) && decide (k < p.1 + p.2))).elim 0 (·.1)

/-- The input-history sample of MSC t is lost in this block (R201). -/
def histLost (fails : List MemFail) (n : Nat) (t : Int) : Bool :=
  fails.any (fun g => match g with
    | .hist m x _ => m == n && (x : Int) == t
    | _ => false)
/-- The tail partition whose first tap is p is lost in this block (R201). -/
def tailLost (fails : List MemFail) (n p : Nat) : Bool :=
  fails.any (fun g => match g with
    | .tail m x _ => m == n && x == p
    | _ => false)
/-- The delay-line sample of MSC t is lost in this block (R211). -/
def dlyLost (fails : List MemFail) (n : Nat) (t : Int) : Bool :=
  fails.any (fun g => match g with
    | .dly m x _ => m == n && (x : Int) == t
    | _ => false)

/-- A side of chain n reads a lost word in the block of b samples at w0 (R201, R211). -/
def Side.meets (s : Side) (n w0 b : Nat) (g : MemFail) : Bool :=
  let lens := s.cfg.resp.len :: ((Fade.live s.rsp w0).map (fun d => d.old.len)).toList
  let taps := s.cfg.dly :: ((Fade.live s.dly w0).map (·.old)).toList
  s.cfg.en && (match g with
    | .tail m p _ => m == n && s.cfg.cnvEn && lens.any (fun l => decide (p < l))
    | .hist m t _ => m == n && s.cfg.cnvEn && decide (t < w0 + b) && lens.any (fun l => decide (w0 < t + l))
    | .dly m t _ => m == n && taps.any (fun d => decide (d ≠ 0) && decide (w0 ≤ t + d) && decide (t + d < w0 + b))
    | .past .. => false)

/-- An uncorrectable DRAM error is recorded as a read of the engine memory streamer (R465, R466). -/
def chainUe (f : Fabric) (g : MemFail) : Fabric :=
  match g with
  | .tail _ _ a | .hist _ _ a | .dly _ _ a => noteUe f (dramChan a) (a / 16) 7 false
  | .past .. => f

/-- Stages 0 to 3 of one side over the block at w0: the side, the lines and the flags (R186 to R205). -/
def frontSide (f : Fabric) (n : Nat) (alt : Option Nat) (fails : List MemFail) (w0 : Nat) (s : Side) (a : Audio) :
    Side × Audio × Flags :=
  let c := s.cfg
  (upto (blockLen f)).foldl (fun (acc : Side × Audio × Flags) i =>
    let w := w0 + i
    let s := acc.1
    let a := acc.2.1
    let fl := acc.2.2
    let now := chainSum f a n c.ctrl w
    let was := match s.sum with
      | some d => satHits 32 (chainSum f a n d.old w) && decide (w < d.start + d.len)
      | none => false
    let x0 := fadeVal s.sum w (satS 32 now) (fun old => satS 32 (chainSum f a n old w))
    let x1 := gainMul x0 (rampGain s.ramp w c.inGain)
    let e := iirRun c.bq s.iir x1
    let o := (Fade.live s.eq w).map (fun d => iirRun d.old.1 d.old.2 x1)
    let x2 := if c.iirEn then fadeVal s.eq w e.2.1 (fun _ => (o.map (·.2.1)).getD 0) else x1
    let s := if c.iirEn then
        { s with iir := e.1, eq := (Fade.live s.eq w).map (fun d => { d with old := (d.old.1, (o.map (·.1)).getD []) }) }
      else s
    let a := putLine a alt 0 n w x2
    let hist (t : Int) : Int := if histLost fails n t then 0 else lineAt a alt 0 n s.since t
    let bad (k : Nat) : Bool := decide (128 ≤ k) && tailLost fails n (partOf k)
    let y := convolve c.resp hist bad w
    let yo := (Fade.live s.rsp w).map (fun d => convolve d.old hist bad w)
    let x3 := if c.cnvEn then fadeVal s.rsp w y.1 (fun _ => (yo.map (·.1)).getD 0) else x2
    let a := putLine a alt 1 n w x3
    (s, a, { fl with
      inSat := fl.inSat || satHits 32 now || was
      iirSat := fl.iirSat || (c.iirEn && (e.2.2 || (o.map (·.2.2)).getD false))
      cnvSat := fl.cnvSat || (c.cnvEn && (y.2 || (yo.map (·.2)).getD false)) })) (s, a, {})

-- Stage 4 (R206 to R210)

/-- 0.01 dB as a Q8.24 value. -/
def cdb (v : Int) : Int := rne (v * 2 ^ 24) 100
/-- A value held to a range. -/
def clampI (lo hi v : Int) : Int := max lo (min hi v)
/-- A field held to a range (R214). -/
def clampN (lo hi v : Nat) : Nat := max lo (min hi v)

/-- The dynamics parameters a chain uses: its leader's (R209). -/
structure DynPar where
  thr : Int
  ratio : Int
  knee : Int
  makeup : Int
  aAtt : Int
  aRel : Int
  aRms : Int
  ceil : Int
  ceilLin : Int
  aLatt : Int
  aLrel : Int

/-- The parameters of a dynamics record (R206, R214). -/
def dynPar (fs : Nat) (d : List Word) : DynPar :=
  let w (i : Nat) : Word := d.getD i 0
  let ce := clampI (-6000) 2400 (sx 16 (fld (w 6) 15 0))
  { thr := cdb (clampI (-9600) 2400 (sx 16 (fld (w 1) 15 0)))
    ratio := clampN 100 5000 (fld (w 1) 31 16)
    knee := cdb (clampN 0 2400 (fld (w 2) 15 0))
    makeup := cdb (clampI 0 1800 (sx 16 (fld (w 2) 31 16)))
    aAtt := alphaOf (clampN 5 50000 (fld (w 3) 15 0)) fs
    aRel := alphaOf (10 * clampN 50 50000 (fld (w 4) 15 0)) fs
    aRms := alphaOf (10 * clampN 10 1000 (fld (w 5) 15 0)) fs
    ceil := cdb ce
    ceilLin := Sys2Proof.Machine.ceilLin ce
    aLatt := alphaOf (clampN 5 50000 (fld (w 7) 15 0)) fs
    aLrel := alphaOf (10 * clampN 50 50000 (fld (w 8) 15 0)) fs }

/-- comp_curve of R206, in Q8.24 dB. -/
def compCurve (p : DynPar) (l : Int) : Int :=
  let d := l - p.thr
  if 2 * d < -p.knee then 0
  else if 2 * d ≤ p.knee ∧ p.knee > 0 then
    rneq ((100 - p.ratio) * (2 * d + p.knee) * (2 * d + p.knee)) (p.ratio * 8 * p.knee)
  else rneq ((100 - p.ratio) * d) p.ratio

/-- One pole: alpha · old + (1 - alpha) · new, with alpha at 2^-62. -/
def onePole (al old new : Int) : Int := rshr (al * old + (2 ^ 62 - al) * new) 62

/-- The key of a side at sample w (R206, R208). -/
def keyOf (f : Fabric) (cs : List (Nat × Chain)) (a : Audio) (alt : Option Nat) (n : Nat) (s : Side) (w : Nat) : Int :=
  let d := s.cfg.dyn.getD 0 0
  if bit d 3 then
    let k := fld d 13 4
    let ch := mget (fun _ => Chain.reset) cs k
    if capChain f ≤ k ∨ !ch.cur.cfg.en then 0 else lineAt a none 1 k ch.cur.since (w : Int)
  else lineAt a alt 1 n s.since (w : Int)

/-- The levels of a side over a block, in Q8.24 dB, with the new mean square (R206). -/
def sideLevels (f : Fabric) (cs : List (Nat × Chain)) (a : Audio) (alt : Option Nat) (n : Nat) (p : DynPar) (w0 : Nat)
    (s : Side) : List Int × Int :=
  let rms := bit (s.cfg.dyn.getD 0 0) 2
  (upto (blockLen f)).foldl (fun (acc : List Int × Int) i =>
    let k := keyOf f cs a alt n s (w0 + i)
    if rms then
      let m := onePole p.aRms acc.2 (k * k)
      let l := max (db24 m.toNat 54) (2 * db24 1 27)
      (acc.1 ++ [rshr l 1 + bounded dbTol (Config.dynErr 0 l)], m)
    else (acc.1 ++ [logDb k.natAbs 27], acc.2)) ([], s.m)

/-- LINK_GRP of a side whose stage 4 runs. -/
def grpOf (s : Side) : Nat := if s.cfg.en && s.cfg.dynEn then fld (s.cfg.dyn.getD 0 0) 21 16 else 0

/-- The record a chain's dynamics uses: its group leader's (R209). -/
def leaderRec (cs : List (Nat × Chain)) (s : Side) : List Word :=
  if grpOf s = 0 then s.cfg.dyn
  else match cs.find? (fun e => grpOf e.2.cur == grpOf s) with
    | some e => e.2.cur.cfg.dyn
    | none => s.cfg.dyn

/-- Stage 4 of one side over the block at w0, with the level of each sample (R206). -/
def dynSide (f : Fabric) (n : Nat) (alt : Option Nat) (p : DynPar) (ls : List Int) (w0 : Nat) (s : Side) (a : Audio) :
    Side × Audio × Flags :=
  let comp := bit (s.cfg.dyn.getD 0 0) 0
  let lim := bit (s.cfg.dyn.getD 0 0) 1
  let la := s.cfg.la (rate96 f)
  let from_ := max s.since s.dynFrom
  (upto (blockLen f)).foldl (fun (acc : Side × Audio × Flags) i =>
    let w := w0 + i
    let s := acc.1
    let a := acc.2.1
    let fl := acc.2.2
    if s.cfg.dynEn then
      let l := ls.getD i 0
      let c := compCurve p l
      let sv := if c < s.s then onePole p.aAtt s.s c else onePole p.aRel s.s c
      let q := min 0 (p.ceil - (l + sv + p.makeup))
      let qs := (q :: s.qs).take 193
      let qh := (qs.take (la + 1)).foldl min q
      let rv := if qh < s.r then onePole p.aLatt s.r qh else onePole p.aLrel s.r qh
      let g := satS 32 (expDb 28 ((if comp then sv + p.makeup else 0) + (if lim then rv else 0)))
      let tap (d : Nat) : Int := lineAt a alt 1 n from_ ((w : Int) - (d : Int))
      let x := fadeVal s.la w (tap la) tap
      let y := rshr (x * g) 28
      let y1 := satS 32 y
      let cl := lim && decide (p.ceilLin < (y1.natAbs : Int))
      let y2 := if cl then (if y1 < 0 then -p.ceilLin else p.ceilLin) else y1
      ({ s with s := sv, r := rv, qs := qs }, putLine a alt 2 n w y2,
       { fl with dynSat := fl.dynSat || satHits 32 y, clip := fl.clip || cl })
    else (s, putLine a alt 2 n w (lineAt a alt 1 n s.since (w : Int)), fl)) (s, a, {})

-- Stages 5 and 6 (R211 to R213)

/-- The step of OUT_GAIN looks for its crossing at sample w, whose stage-6 input is x after px (R160, R213). -/
def stepLook (t : OutStep) (w : Nat) (x px : Int) : OutStep :=
  if t.crossed.isNone && decide (w - t.start < t.tmo) && isCrossing x px then { t with crossed := some (w - t.start) } else t

/-- Stages 5 and 6 of one side over the block at w0: the side, the sample store, the outputs and the flags. -/
def backSide (f : Fabric) (n : Nat) (alt : Option Nat) (fails : List MemFail) (w0 : Nat) (s : Side) (a : Audio) :
    Side × Audio × List Int × Flags :=
  (upto (blockLen f)).foldl (fun (acc : Side × Audio × List Int × Flags) i =>
    let w := w0 + i
    let s := acc.1
    let a := acc.2.1
    let fl := acc.2.2.2
    let lost (d : Nat) : Bool := decide (d ≠ 0) && dlyLost fails n ((w : Int) - (d : Int))
    let tap (d : Nat) : Int := if lost d then 0 else lineAt a alt 2 n s.since ((w : Int) - (d : Int))
    let x := fadeVal s.dly w (tap s.cfg.dly) tap
    let a := putLine a alt 3 n w x
    let px := lineAt a alt 3 n s.since ((w : Int) - 1)
    let st := s.step.map (fun t => stepLook t w x px)
    let g := match st with
      | some t => stepGain t.old t.new t.tmo t.ramp t.crossed (w - t.start)
      | none => s.outGain
    let y := rshr (x * g) 28
    let out := if s.cfg.en && s.cfg.on && !s.cfg.mute then satS 32 y else 0
    ({ s with step := st }, a, acc.2.2.1 ++ [out],
     { fl with outSat := fl.outSat || (satHits 32 y && s.cfg.en && s.cfg.on && !s.cfg.mute)
               dlyErr := fl.dlyErr || (s.cfg.en && (lost s.cfg.dly || (Fade.live s.dly w).any (fun d => lost d.old))) })) (s, a, [], {})

-- The chain stage (R19, R185)

/-- The chains that run or fade at a block: those enabled in the active bank, and those with state. -/
def liveChains (f : Fabric) (x : ChainState) : List Nat :=
  let en := ((bankMap f (actB f pSPK)).filter (fun e => decide (ra 192 0x40 ≤ e.1) && decide (e.1 < ra 256 0) &&
    decide (offOf e.1 < 0x840) && offOf e.1 % 0x80 == 0x40 && bit e.2 0)).map
    (fun e => (pageOf e.1 - 192) * 16 + (offOf e.1 - 0x40) / 0x80)
  let more := (x.chains.map (·.1)).filter (fun n => !en.contains n)
  ((en ++ more).foldl (fun l n => mset falseB l n true) []).map (·.1)

/-- A transition of a side runs past sample w. -/
def Side.busy (s : Side) (w : Nat) : Bool :=
  (Fade.live s.eq w).isSome || (Fade.live s.rsp w).isSome || (Fade.live s.dly w).isSome || (Fade.live s.la w).isSome ||
    (Fade.live s.sum w).isSome || (Fade.live s.ramp w).isSome ||
    (match s.step with
      | some t => decide (w < t.start + (match t.crossed with
          | some k => k + 1
          | none => t.tmo + t.ramp))
      | none => false)

/-- Records a block's flags of chain n in CH_STAT, DYN_GR and the counters (R219, R220). -/
def recordChain (f : Fabric) (n w1 : Nat) (ch : Chain) (fl : Flags) (memErr : Nat) : Fabric :=
  let a := spkAt n 0x18
  let bits := [fl.inSat, fl.iirSat, fl.cnvSat, fl.dynSat, fl.outSat, fl.clip, fl.dlyErr, fl.cnvErr]
  let old := rdR f a
  let w := (bits.zipIdx).foldl (fun w e => if e.1 then setBit w e.2 true else w) old
  let w := setBit w 9 (ch.cur.cfg.en && tailShed f n)
  let w := setBit w 10 (ch.cur.busy w1 || (match ch.alt with
    | some al => decide (w1 < al.1 + 64)
    | none => false))
  let f := wrR f a w
  let gr (v : Int) : Nat := (max 0 (min 0xFFFF (rne (-v * 100) (2 ^ 24)))).toNat
  let f := wrN f (spkAt n 0x1C) (if ch.cur.cfg.en && ch.cur.cfg.dynEn then gr ch.cur.s + gr ch.cur.r * 2 ^ 16 else 0)
  let sat := fl.inSat || fl.iirSat || fl.cnvSat || fl.dynSat || fl.outSat
  let f := if sat then bump f (ra pSPK 0x850) else f
  let f := if fl.clip then bump f (ra pSPK 0x854) else f
  let f := bump f (ra pSPK 0x85C) memErr
  let f := raiseIf fl.inSat f pSPK 0
  let f := raiseIf (fl.iirSat || fl.cnvSat || fl.dynSat || fl.outSat) f pSPK 1
  let f := raiseIf fl.clip f pSPK 2
  let f := raiseIf (fl.dlyErr || fl.cnvErr) f pSPK 3
  raiseIf fl.cnvErr f pCNV 2

/-- What is done to both sides of a chain: main first, then the old one. -/
def bothSides (run : Option Nat → Side → Audio → Side × Audio × Flags) (n : Nat)
    (acc : List (Nat × Chain) × Audio × List (Nat × Flags)) : List (Nat × Chain) × Audio × List (Nat × Flags) :=
  let ch := mget (fun _ => Chain.reset) acc.1 n
  let r := run none ch.cur acc.2.1
  let q := match ch.alt with
    | some al => if al.2.cfg.en then
        let r2 := run (some al.1) al.2 r.2.1
        ((⟨r.1, some (al.1, r2.1)⟩ : Chain), r2.2.1, r.2.2.or r2.2.2)
      else (⟨r.1, some al⟩, r.2.1, r.2.2)
    | none => (⟨r.1, none⟩, r.2.1, r.2.2)
  (mset (fun _ => Chain.reset) acc.1 n q.1, q.2.1,
   mset (fun _ => ({} : Flags)) acc.2.2 n ((mget (fun _ => ({} : Flags)) acc.2.2 n).or q.2.2))

/-- Runs a step only on an enabled side. -/
def ifEn (run : Option Nat → Side → Audio → Side × Audio × Flags) (alt : Option Nat) (s : Side) (a : Audio) :
    Side × Audio × Flags := if s.cfg.en then run alt s a else (s, a, {})

/-- The chain stage over the block at wall MSC w0 (R19, R185 to R213), with the memory errors of the block. -/
def chainStage (f : Fabric) (x : ChainState) (a : Audio) (fails : List MemFail) (w0 : Nat) :
    Fabric × ChainState × Audio :=
  let fs := fsHz f
  let live := (liveChains f x).filter (fun n => decide (n < capChain f))
  let cs := live.foldl (fun cs n =>
    mset (fun _ => Chain.reset) cs n (takeChain f w0 n (mget (fun _ => Chain.reset) cs n))) x.chains
  let s1 := live.foldl (fun acc n => bothSides (ifEn (fun alt s a => frontSide f n alt fails w0 s a)) n acc) (cs, a, [])
  -- levels of every side whose stage 4 runs, then the maximum of each group
  let lvl (n : Nat) (alt : Option Nat) (s : Side) : List Int × Int :=
    sideLevels f s1.1 s1.2.1 alt n (dynPar fs (leaderRec s1.1 s)) w0 s
  let levels := (s1.1.filter (fun e => e.2.cur.cfg.en && e.2.cur.cfg.dynEn)).map (fun e => (e.1, grpOf e.2.cur, lvl e.1 none e.2.cur))
  let grouped (s : Side) (own : List Int) : List Int :=
    if grpOf s = 0 then own
    else own.zipIdx.map (fun (v : Int × Nat) => levels.foldl (fun m e => if e.2.1 = grpOf s then max m (e.2.2.1.getD v.2 m) else m) v.1)
  let s2 := live.foldl (fun acc n => bothSides (ifEn (fun alt s a =>
    if s.cfg.dynEn then
      let own := lvl n alt s
      dynSide f n alt (dynPar fs (leaderRec s1.1 s)) (grouped s own.1) w0 { s with m := own.2 } a
    else dynSide f n alt (dynPar fs s.cfg.dyn) [] w0 s a)) n acc) s1
  let s3 := live.foldl (fun (acc : Fabric × List (Nat × Chain) × Audio) n =>
    let f := acc.1
    let ch := mget (fun _ => Chain.reset) acc.2.1 n
    let r := backSide f n none fails w0 ch.cur acc.2.2
    let q := match ch.alt with
      | some al =>
        let r2 := backSide f n (some al.1) fails w0 al.2 r.2.1
        let outs := (r.2.2.1.zipIdx).map (fun (v : Int × Nat) =>
          if w0 + v.2 < al.1 + 64 then mix (w0 + v.2 - al.1) 64 v.1 (r2.2.2.1.getD v.2 0) else v.1)
        ((⟨r.1, some (al.1, r2.1)⟩ : Chain), r2.2.1, outs, r.2.2.2.or r2.2.2.2)
      | none => (⟨r.1, none⟩, r.2.1, r.2.2.1, r.2.2.2)
    let a := (q.2.2.1.zipIdx).foldl (fun (a : Audio) (v : Int × Nat) => putSample a (w0 + v.2) (0x6000 + n) v.1) q.2.1
    let met := fails.filter (fun g => ch.cur.meets n w0 (blockLen f) g || ch.alt.any (fun al => al.2.meets n w0 (blockLen f) g))
    let cnvErr := met.any (fun g => match g with
      | .tail .. => true
      | .hist .. => true
      | _ => false)
    let fl := ((mget (fun _ => ({} : Flags)) s2.2.2 n).or q.2.2.2).or { cnvErr := cnvErr }
    let ch := { q.1 with alt := q.1.alt.filter (fun al => decide (w0 + blockLen f < al.1 + 64)) }
    let f := recordChain (met.foldl chainUe f) n (w0 + blockLen f) ch fl met.length
    (f, mset (fun _ => Chain.reset) acc.2.1 n ch, a)) (f, s2.1, s2.2.1)
  (s3.1, ⟨s3.2.1⟩, s3.2.2)

/-- The chains as a session starts (R189, R211). -/
def chainsStart (f : Fabric) (w0 : Nat) : ChainState :=
  ⟨(liveChains f ⟨[]⟩).foldl (fun l n => mset (fun _ => Chain.reset) l n (startChain f w0 n)) []⟩

/-- The chain's step of OUT_GAIN whose wait has timed out unreported at wall MSC w (R213, R161). -/
def chainTimeout (f : Fabric) (x : ChainState) (n : Nat) (w : Nat) : Fabric × ChainState :=
  let ch := mget (fun _ => Chain.reset) x.chains n
  match ch.cur.step with
  | some t =>
    if t.crossed.isNone && !t.timed && decide (t.start + t.tmo ≤ w) then
      (bump (raise f pSPK 4) (ra pSPK 0x858),
       ⟨mset (fun _ => Chain.reset) x.chains n { ch with cur := { ch.cur with step := some { t with timed := true } } }⟩)
    else (f, x)
  | none => (f, x)

-- Register writes (R190, R199, R202, R221)

/-- Records a rejected chain-register write (R190). -/
def spkReject (f : Fabric) (p code n : Nat) : Fabric := raise (fail f p code n) pSPK 7

/-- Records a pool rejection on a page (R199). -/
def poolReject (f : Fabric) (p n : Nat) : Fabric := raise (putB (fail f p 0x0100 n) (ra pCNV 0x50) 1 true) pCNV 0

/-- Whether a shadow change leads to a pool demand R199 rejects. -/
def overPool (f f' : Fabric) : Bool := decide (tapsShd f < tapsShd f') && decide (capTaps f < tapsShd f')

/-- A write of CH_CTRL (R190, R199). -/
def chCtrlWrite (f : Fabric) (n : Nat) (v : Word) : Fabric :=
  let p := 192 + n / 16
  if !ready f p then fail f p 1 (offOf (spkAt n 0))
  else
    let gate := shadowGate f pSPK
    let v := v &&& 0x07FF_07FF
    if gate ≠ 0 then fail f p gate (offOf (spkAt n 0))
    else if 16 < fld v 10 6 then spkReject f p 0x0102 n
    else if bit v 0 && decide (capChain f ≤ n) then spkReject f p 0x0101 n
    else
      let f' := wrShd f pSPK (spkAt n 0) v
      if overPool f f' then poolReject f p n else f'

/-- A write of CNV_CFG (R195, R199, R202, R221). -/
def cnvCfgWrite (f : Fabric) (n : Nat) (v : Word) : Fabric :=
  let p := 257 + n / 256
  if !ready f p then fail f p 1 (offOf (cnvAt n))
  else
    let gate := shadowGate f pCNV
    let len := fld v 3 0
    let ess := fld v 15 12
    if gate ≠ 0 then fail f p gate (offOf (cnvAt n))
    else if decide (12 < len) || (!rate96 f && decide (8 < len)) || decide (4 < fld v 10 8) || ess == 13 || ess == 14 then
      fail f p 0x0102 n
    else
      let f' := wrShd f pCNV (cnvAt n) (v &&& 0x1FFF_F70F)
      if overPool f f' then poolReject f p n else f'

-- LOAD (R203, R204)

/-- The smallest length code with L ≥ n (R203). -/
def codeFor (n : Nat) : Nat := ((upto 13).find? (fun c => decide (n ≤ lenOf c))).getD 12

/-- The DETAIL with which LOAD fails before its commit point, 0 where it goes on (R204); readOk: the list was read without
an uncorrectable error from channels that are READY. The arguments as sampled at the start stand at offsets 0x080 to 0x08C of
the page, which hold no register (R72). -/
def loadDetail (f : Fabric) (readOk : Bool) : Nat :=
  let n := getF f (ra pCNV 0x88) 15 0
  let ch := getF f (ra pCNV 0x84) 9 0
  let addr := rdN f (ra pCNV 0x80)
  let longest := if rate96 f then 32768 else 16384
  if capChain f ≤ ch ∨ n = 0 ∨ longest < n ∨ 0xE000_0000 < addr + 4 * n then 1
  else
    let a := cnvAt ch
    let f' := wrShd f pCNV a (setFld (rdShd f pCNV a) 3 0 (codeFor n))
    if overPool f f' then 2 else if !readOk then 3 else 0

/-- LOAD's changes at its commit point, with the coefficients read (R203). -/
def loadCommit (f : Fabric) (coefs : List Word) : Fabric :=
  let n := getF f (ra pCNV 0x88) 15 0
  let ch := getF f (ra pCNV 0x84) 9 0
  let f := (upto 128).foldl (fun f k => wrShd f pCNV (headAt ch k) (if k < n then coefs.getD k 0 else 0)) f
  let b := !actB f pCNV
  let lo := poolKey ch 0
  let f := if b then { f with bank1 := mclear lo (lo + 2 ^ 15) f.bank1 } else { f with bank0 := mclear lo (lo + 2 ^ 15) f.bank0 }
  let f := ((coefs.take n).zipIdx).foldl (fun f e => if 128 ≤ e.2 then wrB f b (poolKey ch e.2) e.1 else f) f
  let f := wrShd f pCNV (cnvAt ch) (setFld (rdShd f pCNV (cnvAt ch)) 3 0 (codeFor n))
  wrShd f pCNV (cnvAt ch + 4) (rdR f (ra pCNV 0x8C))

-- The ledger (R216)

/-- The four terms of an enabled chain, U16.16 but for LED_BULK in samples. -/
def ledger (f : Fabric) (n : Nat) : Nat × Nat × Nat × Nat :=
  let c := chainCfg f n
  if !c.en then (0, 0, 0, 0)
  else
    let b := blockLen f
    ((3 * b + (if c.sumEn then b else 0)) * 2 ^ 16,
     (if c.iirEn then (rdAct f pSPK (spkAt n 0x14)).toNat else 0) + (if c.cnvEn then (rdAct f pCNV (cnvAt n + 4)).toNat else 0),
     (if c.dynEn then c.la (rate96 f) * 2 ^ 16 else 0),
     c.dly)

/-- LED_TOT (R216). -/
def ledgerTot (f : Fabric) (n : Nat) : Nat :=
  let l := ledger f n
  l.1 + l.2.1 + l.2.2.1 + l.2.2.2 * 2 ^ 16

/-- FLAG_SUM[i] (R220). -/
def flagSum (f : Fabric) (i : Nat) : Nat :=
  (upto 32).foldl (fun t j => if fld (rdR f (spkAt (32 * i + j) 0x18)) 7 0 ≠ 0 then t + 2 ^ j else t) 0

/-- SPK[0] soft reset (R220): pages 192 to 255 but not the window; all stage state. -/
def spkSoft (f : Fabric) (a : Audio) : Fabric × ChainState × Audio :=
  let f := (upto 64).foldl (fun f i => pageClear f (pSPK + i)) f
  let f := clearBanks f 0xC_0000 0x10_0000
  (f, ChainState.reset, dropLine a (fun k => decide (0x2_0000 ≤ k) && decide (k < 0x8_0000) && !(k / 0x1_0000 == 6) || k / 0x1000 == 6))

/-- CNV[0] soft reset (R222): every CNV_CFG and CNV_DECL, and the input history. -/
def cnvSoft (f : Fabric) (a : Audio) : Fabric × Audio :=
  let f := (upto 8).foldl (fun f i => softClear f (pCNV + i) (fun o => decide (o < 0x40))) f
  let f := clearBanks f 0x10_0000 0x10_8000
  (f, dropLine a (fun k => k / 0x1_0000 == 2 || k / 0x1000 == 0x70))

end Sys2Proof.Machine
end

