-- ==== Sys2Proof/Machine/Conditioning.lean ====
section
/-! DEFINITION. Input conditioning (07): decimators, rate groups, slips, the DC blocker, synchronising resets and the INC
registers, as functions of the fabric, the conditioning state and the sample store. -/
namespace Sys2Proof.Machine

/-- The BAR0 offset of a channel register (R244). -/
def incAt (c off : Nat) : Nat := ra (128 + c / 64) (0x40 + 0x20 * (c % 64) + off)
/-- The BAR0 offset of a group register (R247). -/
def grpAt (g off : Nat) : Nat := ra pINC (0x900 + 0x20 * g + off)

/-- CAP_CH (R223, R247). -/
def capInc (f : Fabric) : Nat := if rate96 f then 512 else 1024
/-- CAP_ASRC (R223, R247). -/
def capAsrc (f : Fabric) : Nat := if rate96 f then 128 else 256

-- Fields of CH_CFG (R244)
def cfgEn (w : Word) : Bool := bit w 0
def cfgMode (w : Word) : Nat := fld w 2 1
def cfgRatio (w : Word) : Nat := 2 ^ (fld w 5 4 + 1)
def cfgGrouped (w : Word) : Bool := bit w 6
def cfgGrp (w : Word) : Nat := fld w 12 8
def cfgDc (w : Word) : Bool := bit w 13
def cfgFc (w : Word) : Nat := 2 ^ fld w 15 14
def cfgFreeze (w : Word) : Bool := bit w 16
/-- The fields whose change is a synchronising reset (R240). -/
def cfgSync (w : Word) : Word := w &&& 0x1F77

/-- An enabled ASRC channel. -/
def isAsrc (w : Word) : Bool := cfgEn w && cfgMode w == 2

/-- The channels whose CH_CFG is not at reset in a bank, ascending, with CH_CFG. -/
def incCfgs (f : Fabric) (b : Bool) : List (Nat × Word) :=
  ((bankMap f b).filter (fun e => decide (ra 128 0x40 ≤ e.1) && decide (e.1 < ra 144 0) && decide (0x40 ≤ offOf e.1) &&
    decide (offOf e.1 < 0x840) && offOf e.1 % 0x20 == 0)).map
    (fun e => ((pageOf e.1 - 128) * 64 + (offOf e.1 - 0x40) / 0x20, e.2))

/-- ASRC channels enabled in a bank (ASRC_ACT, ASRC_SHD). -/
def asrcCount (f : Fabric) (b : Bool) : Nat := ((incCfgs f b).filter (fun e => isAsrc e.2)).length

/-- Channel admission (R246). -/
def incAdmit (f : Fabric) : Fabric :=
  let cfgs := (incCfgs f (actB f pINC)).filter (fun e => cfgEn e.2)
  let f := (upto 1024).foldl (fun f c => if getB f (incAt c 8) 6 then putB f (incAt c 8) 6 false else f) f
  let r := cfgs.foldl (fun (x : Fabric × Nat × Bool) e =>
    let a := isAsrc e.2
    if e.1 < capInc f ∧ (!a ∨ x.2.1 < capAsrc f) then (x.1, x.2.1 + a.toNat, x.2.2)
    else (putB x.1 (incAt e.1 8) 6 true, x.2.1, true)) (f, 0, false)
  let f := putB r.1 (ra pINC 0x850) 0 r.2.2
  raiseIf r.2.2 f pINC 6

-- Kernels (R226, R229)

/-- Taps of a decimator by ratio code (R226). -/
def decimTaps (code : Nat) : Nat := if code = 0 then 97 else if code = 1 then 241 else 529
/-- Stated delay of a decimator by ratio code (R226). -/
def decimDelay (code : Nat) : Nat := if code = 0 then 24 else if code = 1 then 30 else 33

/-- A free value held to within lim of zero. -/
def freeWithin (lim : Nat) (v : Int) : Int := if v > lim then lim else if v < -(lim : Int) then -(lim : Int) else v

/-- A decimator tap (R226): symmetric, and the taps sum to 1.0 within 0.0001 dB. -/
def decimTap (code k : Nat) : Int :=
  let n := decimTaps code
  let half := (n - 1) / 2
  let raw (k : Nat) : Int := sx 32 (ux 32 (Config.decimKernel code k))
  if k = half then 2 ^ 31 - 2 * isum ((upto half).map raw) + freeWithin 24720 (Config.decimKernel code half)
  else if k < half then raw k else raw (n - 1 - k)

/-- A decimator's output in period m over the input from period m0 on (R226, R227), and whether it saturated. -/
def decimate (a : Audio) (code : Nat) (grouped : Bool) (src m0 m : Nat) : Int × Bool :=
  let r := 2 ^ (code + 1)
  let x (n : Int) : Int :=
    if n < ((r * m0 : Nat) : Int) then 0
    else
      let per := n.toNat / r
      let j := n.toNat % r
      if grouped then sample a (per : Int) (src + j) else subSample a (per : Int) j src
  let t := isum ((upto (decimTaps code)).map (fun k => decimTap code k * x (((r * m : Nat) : Int) - (k : Int))))
  let y := rshr t 31
  (satS 32 y, satHits 32 y)

/-- A row of the polyphase kernel of a rate group (R229): tap 32 makes its sum 1.0 within 0.01 dB. Row 256 is row 0 shifted by
one tap toward the next sample, as the read position moves, and so tap 0 of row 0 is 0 (R111, log 59). -/
def asrcRow (p q k : Nat) : Int :=
  let raw (k : Nat) : Int := if q = 0 ∧ k = 0 then 0 else sx 17 (ux 17 (Config.asrcKernel p q k))
  let row (k : Nat) : Int :=
    if k = 32 then 2 ^ 22 + freeWithin 4800 (Config.asrcKernel p q 32) - isum (((upto 64).filter (fun j => j != 32)).map raw) else raw k
  if 64 ≤ k then 0 else row k

/-- A polyphase coefficient of a rate group at a fraction of 2^-16 (R229, as R111 splits the fraction). -/
def asrcCoef (p phi k : Nat) : Int :=
  let row (q : Nat) : Int := if q = 256 then asrcRow p 0 (k + 1) else asrcRow p q k
  let q := phi / 256
  row q + rne ((row (q + 1) - row q) * ((phi % 256 : Nat) : Int)) 256

/-- A rate group's output for one channel at its read position (R229), and whether it saturated. -/
def asrcOut (p : Nat) (pos : Int) (buf : List (Nat × Int)) : Int × Bool :=
  let n := pos / 2 ^ 48
  let phi := ((pos % 2 ^ 48) / 2 ^ 32).toNat
  let x (i : Int) : Int := if i < 0 then 0 else mget zeroI buf i.toNat
  let y := rshr (isum ((upto 64).map (fun (k : Nat) => asrcCoef p phi k * x (n - (k : Int))))) 22
  (satS 32 y, satHits 32 y)

/-- A pre-decimated sample: number n of the raw input (R229), and whether it saturated. -/
def preDecim (p n : Nat) (raw : List (Nat × Int)) : Int × Bool :=
  if p ≤ 1 then (mget zeroI raw n, false)
  else
    let y := rshr (isum ((upto 64).map (fun k =>
      sx 32 (ux 32 (Config.preKernel p k)) * (if n < k then 0 else mget zeroI raw (n - k))))) 31
    (satS 32 y, satHits 32 y)

-- Rate groups (R228 to R237)

def incCh (x : IncState) (c : Nat) : IncCh := mget (fun _ => IncCh.reset) x.chs c
def setCh (x : IncState) (c : Nat) (v : IncCh) : IncState := { x with chs := mset (fun _ => IncCh.reset) x.chs c v }
def incGrp (x : IncState) (g : Nat) : Grp := mget (fun _ => Grp.reset) x.grps g
def setGrp (x : IncState) (g : Nat) (v : Grp) : IncState := { x with grps := mset (fun _ => Grp.reset) x.grps g v }

/-- The enabled ASRC channels of a group, admitted or not, ascending (R228). -/
def grpChs (x : IncState) (g : Nat) : List Nat :=
  (x.chs.filter (fun e => isAsrc e.2.cfg && cfgGrp e.2.cfg == g)).map (·.1)

/-- Samples measured in ACQUIRE (R230). -/
def acqLen (f : Fabric) : Nat := if rate96 f then 8192 else 4096
/-- Samples spent in FAST (R230). -/
def fastLen (f : Fabric) : Nat := if rate96 f then 48000 else 24000
/-- Samples between loop updates (R231). -/
def updLen (f : Fabric) : Nat := if rate96 f then 32 else 16

/-- Enters ACQUIRE at sample m. -/
def toAcquire (g : Grp) (m : Nat) : Grp := { g with st := .acquire, since := m, count := 0, clamped := 0, slip := none }

/-- A group follows another member's loop (R237): GRP_CFG.FOLLOW, and this device is not the leader itself. -/
def following (f : Fabric) (x : IncState) (g : Nat) : Bool := bit (rdAct f pINC (grpAt g 0)) 8 && !x.own.contains g

/-- The buffer fill F in Q16.16 (R231). -/
def grpFill (g : Grp) : Int := rne (((g.arrived : Int) - 1) * 2 ^ 48 - g.pos) (2 ^ 32)

/-- A synchronising reset of a channel at sample m (R240): filter histories and e cleared. -/
def syncReset (m : Nat) (c : IncCh) : IncCh :=
  { c with m0 := m, due := false, e := if cfgFreeze c.cfg then c.e else 0, dc := none, fade := none, raw := [], buf := [], sat := false }

/-- A synchronising reset of one channel at sample m (R240): the read position of an ASRC channel's group goes back to half-full,
fraction 0. -/
def resetCh (x : IncState) (c m : Nat) (ch : IncCh) : IncState :=
  let x := setCh x c (syncReset m ch)
  if isAsrc ch.cfg then
    let g := cfgGrp ch.cfg
    let v := incGrp x g
    setGrp x g { v with pos := ((v.arrived : Int) - 33) * 2 ^ 48 }
  else x

/-- A synchronising reset of every channel of a group at sample m, with its read position (R230, R240). -/
def syncGrp (f : Fabric) (x : IncState) (g m : Nat) (v : Grp) : IncState :=
  let x := (grpChs x g).foldl (fun x c => setCh x c (syncReset m (incCh x c))) x
  setGrp x g { v with pos := -33 * 2 ^ 48, rawIn := 0, arrived := 0, fade := none, slip := none, placed := none, clamped := 0, follow := [] }

/-- The end of a rate measurement at sample m (R229, R230): RANGE at once, FAST with the synchronising reset at the first sample
of a block (R240). -/
def measureEnd (f : Fabric) (x : IncState) (g m : Nat) : Fabric × IncState :=
  let v := incGrp x g
  if v.st ≠ .acquire ∧ v.st ≠ .range ∨ m < v.since + acqLen f ∨ following f x g then (f, x)
  else
    let rate := v.count * fsHz f
    let n := acqLen f
    if rate < 43659 * n ∨ 193920 * n < rate then
      let f := raise (putB f (grpAt g 4) 17 true) pINC 4
      (f, setGrp x g { v with st := .range, since := m, count := 0 })
    else if v.st = .range then (f, setGrp x g (toAcquire v m))
    else if m % blockLen f ≠ 0 then (f, x)
    else
      let p := if rate * 100 ≤ 102 * fsHz f * n then 1 else if rate * 100 ≤ 204 * fsHz f * n then 2 else 4
      let rho := rne ((v.count : Int) * 2 ^ 60) (p * n)
      (f, syncGrp f x g m { v with st := .fast, since := m, p := p, rho0 := rho, rho := rho, i := 0, lastUpd := none })

/-- The end of FAST at sample m (R230). -/
def fastEnd (f : Fabric) (x : IncState) (g m : Nat) : IncState :=
  let v := incGrp x g
  if v.st = .fast ∧ v.since + fastLen f ≤ m ∧ !following f x g then setGrp x g { v with st := .track } else x

/-- A slip of a group is pending (R235): decided, or published and not yet applied (R237). -/
def slipPending (v : Grp) : Bool := v.slip.isSome || v.placed.isSome || v.follow.any (fun d => d.slip != 0)

/-- The read position that sample u + 2B of an update at u will have, held to the 2^-16 that a FOLLOW_POS word carries (R237,
R427): from the decision before it, or from the present position. -/
def posAhead (f : Fabric) (u : Nat) (v : Grp) : Int :=
  let p := match v.follow.getLast? with
    | some d => d.pos.getD v.pos + ((u : Int) - d.at_) * (d.rho.getD v.rho / 2 ^ 12)
    | none => v.pos + 2 * (blockLen f : Int) * (v.rho / 2 ^ 12)
  p / 2 ^ 32 * 2 ^ 32

/-- The decisions of the update at u are published, with a slip that has been placed; the leader too applies them from u + 2B
(R237). -/
def publishLoop (f : Fabric) (x : IncState) (g u : Nat) (rho : Int) (v : Grp) : IncState :=
  let pos := posAhead f u v
  let sl := v.placed.elim (0, 0) (fun e => (if e.1.drop then 1 else 2, e.2))
  let d : Follow := ⟨u, some rho, some pos, sl.1, sl.2, v.placed.map (fun e => e.1.start + e.2)⟩
  setGrp { x with pub := x.pub ++ [⟨g, u, rho, pos, sl.1, sl.2⟩] } g { v with follow := v.follow ++ [d], placed := none }

/-- A loop update at sample m (R231, R232, R235). -/
def loopUpdate (f : Fabric) (x : IncState) (g m : Nat) : Fabric × IncState :=
  let v := incGrp x g
  if (v.st ≠ .fast ∧ v.st ≠ .track) ∨ m % updLen f ≠ 0 ∨ v.lastUpd = some m ∨ following f x g then (f, x)
  else
    let fl := grpFill v
    let e := fl - 32 * 2 ^ 16
    let bw := if v.st = .fast then 0 else min 4 (fld (rdAct f pINC (grpAt g 0)) 2 0)
    let add := if rate96 f then 1 else 0
    let i := v.i + rne (e * 2 ^ 44) (2 ^ (18 + 2 * bw + add))
    let rho := v.rho0 + i + rne (e * 2 ^ 44) (2 ^ (10 + bw + add))
    let lim := rne (5 * v.rho0) 1000
    let rho' := clampHere (v.rho0 - lim) (v.rho0 + lim) rho
    let n := if rho' = rho then 0 else v.clamped + 1
    let slip := if slipPending v then v.slip
      else if fl > 56 * 2 ^ 16 then some ⟨true, v.arrived⟩ else if fl < 8 * 2 ^ 16 then some ⟨false, v.arrived⟩ else none
    let v := { v with i := i, clamped := n, lastUpd := some m, slip := slip }
    let r := if x.pubs then publishLoop f x g m rho' v else setGrp x g { v with rho := rho' }
    if n < 4 then (f, r)
    else
      let f := raise (putB f (grpAt g 4) 16 true) pINC 3
      (f, setGrp r g { toAcquire (incGrp r g) (m + 1) with fade := some m })
where
  /-- A value held between two limits. -/
  clampHere (lo hi v : Int) : Int := if v < lo then lo else if v > hi then hi else v

/-- The placement of a slip (R235, R236): the window index whose largest magnitude over the slip group is smallest. -/
def slipIndex (chans : List (List Int)) : Nat :=
  let mag (i : Nat) : Nat := chans.foldl (fun m c => max m (c.getD i 0).natAbs) 0
  (upto 32).foldl (fun best i => if mag i < mag best then i else best) 0

/-- A buffer with the sample of an index dropped, or written twice (R235). -/
def slipBuf (drop : Bool) (idx : Nat) (buf : List (Nat × Int)) : List (Nat × Int) :=
  if drop then (buf.filter (fun e => e.1 ≠ idx)).map (fun e => if idx < e.1 then (e.1 - 1, e.2) else e)
  else
    let v := mget zeroI buf idx
    mset zeroI (buf.map (fun e => if idx < e.1 then (e.1 + 1, e.2) else e)) (idx + 1) v

/-- Places a slip of a group at an index of its buffer (R235). -/
def slipGrp (f : Fabric) (x : IncState) (g : Nat) (drop : Bool) (idx : Nat) : Fabric × IncState :=
  let v := incGrp x g
  let chs := grpChs x g
  let x := chs.foldl (fun x c => setCh x c { incCh x c with buf := slipBuf drop idx (incCh x c).buf }) x
  let x := setGrp x g { v with slip := none, arrived := if drop then v.arrived - 1 else v.arrived + 1 }
  let f := bump f (grpAt g (if drop then 0x14 else 0x18))
  let f := chs.foldl (fun f c => putB f (incAt c 8) 3 true) f
  (raise f pINC 0, x)

/-- A slip of a group whose window has been received is placed (R235). -/
def slipPlace (f : Fabric) (x : IncState) (g : Nat) : Fabric × IncState :=
  let v := incGrp x g
  match v.slip with
  | none => (f, x)
  | some s =>
    if v.arrived < s.start + 32 then (f, x)
    else
      let chans := (grpChs x g).map (fun c => (upto 32).map (fun i => mget zeroI (incCh x c).buf (s.start + i)))
      let i := slipIndex chans
      if x.pubs then (f, setGrp x g { v with slip := none, placed := some (s, i) })
      else slipGrp f x g s.drop (s.start + i)

/-- Marks a missed sample of a follower (R237): its output is 0 for the block. -/
def followMiss (f : Fabric) (x : IncState) (g m : Nat) : Fabric × IncState :=
  let b := blockLen f
  let f := raise (putB f (grpAt g 4) 18 true) pINC 7
  (f, setGrp x g { incGrp x g with missTo := (m / b + 1) * b })

/-- The decisions of an update are applied to the samples from u + 2B, by a follower and by its leader (R237). -/
def applyFollow (f : Fabric) (x : IncState) (g m : Nat) : Fabric × IncState :=
  let v := incGrp x g
  let u := m - 2 * blockLen f
  if (!following f x g && !x.pubs) ∨ (v.st ≠ .fast ∧ v.st ≠ .track) ∨ m < 2 * blockLen f ∨ u % updLen f ≠ 0 ∨ u < v.since then (f, x)
  else match v.follow.find? (fun d => d.at_ = u && d.rho.isSome && d.pos.isSome) with
    | none => if following f x g then followMiss f x g m else (f, x)
    | some d =>
      let v := { v with rho := d.rho.getD v.rho, pos := d.pos.getD v.pos, follow := v.follow.filter (fun e => decide (u < e.at_)) }
      let x := setGrp x g v
      if d.slip = 0 then (f, x) else slipGrp f x g (d.slip == 1) (d.place.getD (v.arrived - 32 + d.slipIdx))

/-- The source samples of sample period m enter the group (R229, R230). -/
def grpFeed (f : Fabric) (x : IncState) (a : Audio) (g m : Nat) : IncState :=
  let v := incGrp x g
  let chs := grpChs x g
  let n := match chs with
    | [] => 0
    | c :: _ => (arrivals a m (incCh x c).src).length
  let v := if v.st = .lost ∧ n ≠ 0 ∧ !following f x g then toAcquire v m else v
  let v := if (v.st = .acquire ∨ v.st = .range) ∧ v.since ≤ m ∧ m < v.since + acqLen f then { v with count := v.count + n } else v
  if v.p = 0 ∨ v.rho = 0 then setGrp x g v
  else
    let x := chs.foldl (fun x c =>
      let ch := incCh x c
      let r := ((arrivals a m ch.src).take n).foldl (fun (acc : IncCh × Nat × Nat) s =>
        let raw := mset zeroI acc.1.raw acc.2.1 s
        if acc.2.1 % v.p = 0 then
          let y := preDecim v.p acc.2.1 raw
          ({ acc.1 with raw := raw, buf := mset zeroI acc.1.buf acc.2.2 y.1, sat := acc.1.sat || y.2 }, acc.2.1 + 1, acc.2.2 + 1)
        else ({ acc.1 with raw := raw }, acc.2.1 + 1, acc.2.2)) (ch, v.rawIn, v.arrived)
      setCh x c { r.1 with raw := mfilter (fun k => decide (v.rawIn ≤ k + 1100)) r.1.raw,
                           buf := mfilter (fun k => decide (v.arrived ≤ k + 1100)) r.1.buf }) x
    let taken := (upto n).foldl (fun (acc : Nat × Nat) _ =>
      (acc.1 + 1, if acc.1 % v.p = 0 then acc.2 + 1 else acc.2)) (v.rawIn, v.arrived)
    setGrp x g { v with rawIn := taken.1, arrived := taken.2 }

/-- A group's work before the channels' output of sample m: state changes, input, loop, slip (R228 to R237). -/
def grpStep (a : Audio) (m : Nat) (acc : Fabric × IncState) (g : Nat) : Fabric × IncState :=
  let f := acc.1
  let x := acc.2
  let v := incGrp x g
  let used := !(grpChs x g).isEmpty
  if !used then (f, if v.st = .off then x else setGrp x g { Grp.reset with fade := none })
  else
    let x := if v.st = .off then setGrp x g (toAcquire { v with rho := 0 } m) else x
    let (f, x) := measureEnd f x g m
    let x := fastEnd f x g m
    let x := grpFeed f x a g m
    let (f, x) := loopUpdate f x g m
    let (f, x) := slipPlace f x g
    let (f, x) := applyFollow f x g m
    let v := incGrp x g
    if (v.st = .fast ∨ v.st = .track) ∧ (v.arrived : Int) * 2 ^ 48 ≤ v.pos then
      if following f x g then followMiss f x g m
      else
        (raise (bump f (grpAt g 0x1C)) pINC 2, setGrp x g { v with st := .lost, fade := some m })
    else (f, x)

/-- The read position after the output of a sample. -/
def grpAdvance (x : IncState) (g : Nat) : IncState :=
  let v := incGrp x g
  if v.rho = 0 then x else setGrp x g { v with pos := v.pos + v.rho / 2 ^ 12 }

-- Channels (R224, R234, R238 to R243)

/-- The stated delay in samples, doubled: W (R241). -/
def warmup (cfg : Word) : Nat :=
  if cfgMode cfg = 1 then 2 * decimDelay (fld cfg 5 4) else if cfgMode cfg = 2 then 64 else 0

/-- k of the DC blocker, Q0.32 (R238). -/
def dcK (f : Fabric) (cfg : Word) : Int :=
  rne ((2 * pi160 * cfgFc cfg * 2 ^ 32 : Nat) : Int) (fsHz f * 2 ^ 160)

/-- The weight of a fade-out at position i, Q2.30 (R234). -/
def fadeOut (i : Nat) : Int :=
  if 31 ≤ i then 0 else round160 30 ((2 ^ 160 + cosTurn (i + 1) 64) / 2)

/-- A sample under a fade-out that began at s. -/
def underFade (fade : Option Nat) (m : Nat) (v : Int) : Int :=
  match fade with
  | none => v
  | some s => if m < s then v else if 32 ≤ m - s then 0 else satS 32 (rshr (v * fadeOut (m - s)) 30)

/-- The DC blocker on sample x at m (R238, R239): output, new estimate, ramp, saturation. -/
def dcBlock (f : Fabric) (c : IncCh) (m : Nat) (x : Int) : IncCh × Int × Bool :=
  let d := x * 2 ^ 32 - c.e
  let wgt : Int := match c.dc with
    | some (s, up) => if m < s + 64 then (if up then (m - s + 1 : Nat) else (63 - (m - s) : Nat)) else if up then 64 else 0
    | none => if cfgDc c.cfg then 64 else 0
  let y := rshr (x * 2 ^ 38 - wgt * c.e) 38
  let e := if cfgFreeze c.cfg then c.e else satS 64 (rshr (c.e * 2 ^ 32 + dcK f c.cfg * d) 32)
  ({ c with e := e, dc := c.dc.filter (fun s => decide (m < s.1 + 63)) }, satS 32 y, satHits 32 y)

/-- The start gate at m (R241). -/
def startGate (c : IncCh) (m : Nat) (y : Int) : Int :=
  let w := warmup c.cfg
  let p := m - c.m0
  if p < w then 0
  else if p < w + 64 then rshr (y * ((p - w + 1 : Nat) : Int) * 2 ^ 24) 30
  else y

/-- One channel's conditioned sample at m (R224): channel, sample, saturation. -/
def incSample (f : Fabric) (x : IncState) (a : Audio) (c m : Nat) : IncCh × Int × Bool :=
  let ch := incCh x c
  let g := incGrp x (cfgGrp ch.cfg)
  let mode := cfgMode ch.cfg
  let quiet := mode == 2 && !(g.st == .fast || g.st == .track) && (match g.fade with
    | some s => decide (s + 32 ≤ m)
    | none => true)
  let r := if mode = 0 then (sample a (m : Int) ch.src, false)
    else if mode = 1 then decimate a (fld ch.cfg 5 4) (cfgGrouped ch.cfg) ch.src ch.m0 m
    else if quiet then (0, false) else asrcOut g.p g.pos ch.buf
  let d := dcBlock f ch m r.1
  let y := startGate ch m d.2.1
  let y := if mode = 2 then underFade g.fade m y else y
  let y := if mode = 2 && (quiet || decide (m < g.missTo)) then 0 else y
  let y := underFade ch.fade m y
  (d.1, y, r.2 || d.2.2)

/-- The status bits of a channel when the next sample to be conditioned is m (R241, R244). -/
def incStat (f : Fabric) (x : IncState) (c m : Nat) : Fabric :=
  let ch := incCh x c
  let a := incAt c 8
  let adm := cfgEn ch.cfg && !getB f a 6
  let g := incGrp x (cfgGrp ch.cfg)
  let w := warmup ch.cfg
  let p := m - ch.m0
  let wait := cfgMode ch.cfg == 2 && (g.st == .acquire || g.st == .range)
  let settling := adm && (decide (p < w) || wait)
  let ramp := adm && !settling && decide (p < w + 64)
  let s := rdR f a
  wrR f a (setBit (setBit (setBit s 0 (adm && !settling)) 1 settling) 2 ramp)

/-- CH_DELAY of a channel (R243). -/
def incDelay (x : IncState) (c : Nat) : Nat :=
  let ch := incCh x c
  if !cfgEn ch.cfg then 0
  else if cfgMode ch.cfg = 1 then decimDelay (fld ch.cfg 5 4) * 2 ^ 16
  else if cfgMode ch.cfg = 2 then
    let g := incGrp x (cfgGrp ch.cfg)
    if g.st = .fast ∨ g.st = .track then 32 * 2 ^ 16 + ((g.pos % 2 ^ 48) / 2 ^ 32).toNat else 0
  else 0

/-- Takes up the banks' contents for the block that starts at ingress MSC t0 (R239, R240). -/
def takeInc (f : Fabric) (x : IncState) (t0 : Nat) : IncState :=
  let b := actB f pINC
  let keys := ((incCfgs f b).map (·.1) ++ (x.chs.map (·.1))).foldl (fun l c => mset falseB l c true) []
  keys.foldl (fun x k =>
    let c := k.1
    let ch := incCh x c
    let cfg := rdB f b (incAt c 0)
    let src := (rdB f b (incAt c 4)).toNat % 65536
    if cfg = ch.cfg ∧ src = ch.src then x
    else
      let dc := if cfgDc cfg != cfgDc ch.cfg then some (t0, cfgDc cfg) else ch.dc
      let x := if cfgSync cfg != cfgSync ch.cfg || src != ch.src then resetCh x c t0 { ch with cfg := cfg, src := src } else x
      setCh x c { incCh x c with cfg := cfg, src := src, dc := dc }) x

/-- The synchronising resets that are due happen at the first sample t0 of a block (R240). -/
def takeDue (x : IncState) (t0 : Nat) : IncState :=
  x.chs.foldl (fun x e => if e.2.due then resetCh x e.1 t0 e.2 else x) x

/-- A change of INC[0].PAGE_CTRL.ENABLE (R240, R247): every channel fades out from the next sample to be conditioned, or has a
synchronising reset. -/
def incEnable (x : IncState) (on : Bool) : IncState :=
  { x with on := on, chs := x.chs.map (fun e => (e.1, if on then { e.2 with due := true } else { e.2 with fade := some x.next })) }

/-- Writes a group's registers (R230, R231). -/
def grpRegs (f : Fabric) (x : IncState) (g : Nat) : Fabric :=
  let v := incGrp x g
  let live := v.st == .fast || v.st == .track
  let f := putF f (grpAt g 4) 2 0 v.st.code
  let f := putF f (grpAt g 4) 5 4 (if v.p = 4 then 2 else if v.p = 2 then 1 else 0)
  let f := putB f (grpAt g 4) 8 (slipPending v)
  let f := wrR f (grpAt g 8) (wordOf (rne v.rho (2 ^ 30)))
  let f := wrR f (grpAt g 0xC) (if live then wordOf (grpFill v) else 0)
  wrN f (grpAt g 0x10) (rne (v.rho * ((v.p * fsHz f * 256 : Nat) : Int)) (2 ^ 60)).toNat

/-- The groups any channel names, and those with state. -/
def usedGrps (x : IncState) : List Nat :=
  ((x.chs.filter (fun e => isAsrc e.2.cfg)).map (fun e => cfgGrp e.2.cfg) ++ x.grps.map (·.1)).foldl
    (fun l g => mset falseB l g true) [] |>.map (·.1)

/-- The channels of a configuration, ascending. -/
def liveInc (x : IncState) : List Nat := (x.chs.filter (fun e => cfgEn e.2.cfg)).map (·.1)

/-- CH_DELAY of every channel, at the first sample of a block (R243). -/
def showDelays (f : Fabric) (x : IncState) : Fabric := (x.chs.map (·.1)).foldl (fun f c => wrN f (incAt c 0xC) (incDelay x c)) f

/-- Conditioning of the ingress block that starts at t0 (R224): the class 0x4 samples of that block. -/
def condition (f : Fabric) (x : IncState) (a : Audio) (t0 : Nat) : Fabric × IncState × Audio :=
  let b := blockLen f
  let x := takeDue (if t0 < x.swapAt then x else takeInc f x t0) t0
  let gs := usedGrps x
  let r := (upto b).foldl (fun (acc : Fabric × IncState × Audio × List Nat) i =>
    let m := t0 + i
    let (f, x) := gs.foldl (grpStep acc.2.2.1 m) (acc.1, acc.2.1)
    let f := if i = 0 then showDelays f x else f
    let y := (liveInc x).foldl (fun (y : IncState × Audio × List Nat) c =>
      if getB f (incAt c 8) 6 || (!x.on && (incCh y.1 c).fade.isNone) then y
      else
        let o := incSample f y.1 y.2.1 c m
        (setCh y.1 c { o.1 with sat := false }, putSample y.2.1 m (0x4000 + c) o.2.1,
         if (o.2.2 || o.1.sat) && !y.2.2.contains c then y.2.2 ++ [c] else y.2.2)) (x, acc.2.2.1, acc.2.2.2)
    (f, gs.foldl grpAdvance y.1, y.2.1, y.2.2)) (f, x, a, [])
  let x := { r.2.1 with next := t0 + b }
  let f := r.2.2.2.foldl (fun f c => bump (raise (putB f (incAt c 8) 4 true) pINC 1) (ra pINC 0x854)) r.1
  let f := (x.chs.map (·.1)).foldl (fun f c =>
    let f := incStat f x c x.next
    wrR f (incAt c 0x10) (wordOf (satS 32 (rshr (incCh x c).e 32)))) f
  let f := gs.foldl (fun f g => grpRegs f x g) f
  (f, x, r.2.2.1)

/-- Conditioning as a session starts: every channel has a synchronising reset at the first sample (R240). -/
def incStart (f : Fabric) (x : IncState) (m : Nat) : IncState :=
  let cfgs := incCfgs f (actB f pINC)
  let chs := cfgs.foldl (fun l e => mset (fun _ => IncCh.reset) l e.1
    { IncCh.reset with cfg := e.2, src := (rdAct f pINC (incAt e.1 4)).toNat % 65536, m0 := m,
                       e := if cfgFreeze e.2 then (incCh x e.1).e else 0 }) []
  { x with chs := chs, grps := [], swapAt := 0, next := m, on := enabled f pINC, pub := [] }

-- Register writes (R245)

/-- Records a rejected INC write (R245). -/
def incReject (f : Fabric) (p code c : Nat) : Fabric := raise (fail f p code c) pINC 5

/-- Whether a source, or a grouped span from it, lies in R148's ranges (R245). -/
def spanOk (cfg : Word) (src : Nat) : Bool :=
  let cls := src / 4096
  let n := if cfgMode cfg = 1 ∧ cfgGrouped cfg then cfgRatio cfg else 1
  (cls == 1 || cls == 2 || cls == 3) &&
    decide (src % 4096 + n ≤ (if cls = 3 then 4096 else 2048))

/-- The verdict on a shadow write of CH_CFG and CH_SRC as they would stand (R245): the code, 0 where accepted. -/
def incVerdict (f : Fabric) (c : Nat) (cfgWrite : Bool) (cfg : Word) (src : Nat) : Nat :=
  let old := rdShd f pINC (incAt c 0)
  let n := asrcCount f (!actB f pINC)
  let n' := n - (isAsrc old).toNat + (isAsrc cfg).toNat
  if cfgWrite && (cfgMode cfg == 3 || fld cfg 5 4 == 3) then 0x0102
  else if (!cfgWrite || (cfgGrouped cfg && cfgMode cfg == 1)) && !spanOk cfg src then 0x0101
  else if cfgWrite && ((cfgEn cfg && decide (capInc f ≤ c)) || (decide (n < n') && decide (capAsrc f < n'))) then 0x0100
  else 0

/-- A write of CH_CFG or CH_SRC (R245). -/
def incChWrite (f : Fabric) (c : Nat) (src : Bool) (v : Word) : Fabric :=
  let a := incAt c (if src then 4 else 0)
  let p := pageOf a
  if !ready f p then fail f p 1 (offOf a)
  else
    let gate := shadowGate f pINC
    let v := if src then v &&& 0xFFFF else v &&& 0x1_FF77
    if gate ≠ 0 then fail f p gate (offOf a)
    else
      let code := if src then incVerdict f c false (rdShd f pINC (incAt c 0)) v.toNat
        else incVerdict f c true v ((rdShd f pINC (incAt c 4)).toNat % 65536)
      if code = 0 then wrShd f pINC a v else incReject f p code c

/-- A write of GRP_CFG (R231, R245). -/
def grpCfgWrite (f : Fabric) (g : Nat) (v : Word) : Fabric :=
  let a := grpAt g 0
  if !ready f pINC then fail f pINC 1 (offOf a)
  else
    let gate := shadowGate f pINC
    if gate ≠ 0 then fail f pINC gate (offOf a)
    else if 4 < fld v 2 0 then raise (fail f pINC 0x0102 g) pINC 5
    else wrShd f pINC a (v &&& 0x3F_0107)

/-- A write of CH_CMD (R240). -/
def incResync (f : Fabric) (x : IncState) (c : Nat) (v : Word) : Fabric × IncState :=
  let p := 128 + c / 64
  if !ready f p then (fail f p 1 (offOf (incAt c 0x14)), x)
  else (f, if bit v 0 then setCh x c { incCh x c with due := true } else x)

/-- A FOLLOW_RATIO word for group g (R237): the ratio of the update, and with it the leader's state, P and ρ0. -/
def followRatio (f : Fabric) (x : IncState) (g u : Nat) (rho : Int) (st : GrpSt) (p : Nat) (rho0 : Int) : Fabric × IncState :=
  if !following f x g then (f, x)
  else
    let v := incGrp x g
    let m := x.next
    if u + 2 * blockLen f < m ∧ (st = .fast ∨ st = .track) ∧ (v.st = .fast ∨ v.st = .track) then followMiss f x g m
    else
      let x := if st = .fast ∧ v.st ≠ .fast ∧ v.st ≠ .track then
          syncGrp f x g m { v with st := .fast, since := m, p := max 1 p, rho0 := rho0, rho := rho, i := 0 }
        else setGrp x g { v with st := st, p := max 1 p, rho0 := rho0 }
      let v := incGrp x g
      let old := (v.follow.find? (fun d => d.at_ = u)).getD ⟨u, none, none, 0, 0, none⟩
      (f, setGrp x g { v with follow := v.follow.filter (fun d => d.at_ ≠ u) ++ [{ old with rho := some rho }] })

/-- A FOLLOW_POS word for group g (R237): read position, slip and its index. -/
def followPos (f : Fabric) (x : IncState) (g u : Nat) (pos : Int) (slip idx : Nat) : Fabric × IncState :=
  if !following f x g then (f, x)
  else
    let v := incGrp x g
    let m := x.next
    if u + 2 * blockLen f < m ∧ (v.st = .fast ∨ v.st = .track) then followMiss f x g m
    else
      let old := (v.follow.find? (fun d => d.at_ = u)).getD ⟨u, none, none, 0, 0, none⟩
      (f, setGrp x g { v with follow := v.follow.filter (fun d => d.at_ ≠ u) ++
        [{ old with pos := some pos, slip := slip, slipIdx := idx }] })

/-- INC[0] soft reset (R247): both banks, and every group to OFF. -/
def incSoft (f : Fabric) (_ : IncState) : Fabric × IncState :=
  let f := (upto 16).foldl (fun f i => pageClear f (pINC + i)) f
  let f := clearBanks f 0x8_0000 0x9_0000
  (f, IncState.reset)

end Sys2Proof.Machine
end

