-- ==== Sys2Proof/Machine/Flags.lean ====
section
/-! DEFINITION. The flag computations of the Cheba cores (R257, R266): C, V, N, Z in SR[3:0], SAT and OVA. -/
namespace Sys2Proof.Machine

/-- SR with Z and N set from a result (R257). -/
def flagsZN (sr r : Word) : Word := setBit (setBit sr 0 (r == 0)) 1 (bit r 31)

/-- SR with V set. -/
def flagV (sr : Word) (v : Bool) : Word := setBit sr 2 v
/-- SR with C set. -/
def flagC (sr : Word) (c : Bool) : Word := setBit sr 3 c
/-- SR with the sticky SAT set where a result saturated (R253). -/
def stickySat (sr : Word) (b : Bool) : Word := if b then setBit sr 4 true else sr
/-- SR with the sticky OVA set where an accumulator result wrapped (R255). -/
def stickyOva (sr : Word) (b : Bool) : Word := if b then setBit sr 5 true else sr

/-- Flags of ADD (R257). -/
def addFlags (sr a b : Word) : Word :=
  let r := a + b
  flagC (flagV (flagsZN sr r) (intOf a + intOf b != intOf r)) (decide (2 ^ 32 ≤ a.toNat + b.toNat))

/-- C of a subtraction: the carry of a + ~b + 1, or its complement (log 19). -/
def subCarry (a b : Word) : Bool := decide (b.toNat ≤ a.toNat) != Config.subBorrow

/-- Flags of SUB and CMP (R257). -/
def subFlags (sr a b : Word) : Word :=
  let r := a - b
  flagC (flagV (flagsZN sr r) (intOf a - intOf b != intOf r)) (subCarry a b)

/-- Flags of AND, OR and XOR: Z and N set, V cleared, C kept (R257). -/
def logicFlags (sr r : Word) : Word := flagV (flagsZN sr r) false

/-- Flags of a shift: C is the last bit shifted out, kept for a shift by 0 (R257). -/
def shiftFlags (sr r : Word) (n : Nat) (out : Bool) : Word :=
  let s := flagV (flagsZN sr r) false
  if n = 0 then s else flagC s out

/-- Whether a condition holds (R266). -/
def condHolds (sr : Word) (cc : Nat) : Bool :=
  let z := bit sr 0
  let n := bit sr 1
  let v := bit sr 2
  let c := bit sr 3
  match cc with
  | 0 => true
  | 1 => z
  | 2 => !z
  | 3 => n != v
  | 4 => n == v
  | 5 => z || n != v
  | 6 => !z && n == v
  | 7 => c
  | 8 => !c
  | 9 => v
  | 10 => !v
  | _ => false

end Sys2Proof.Machine
end

