-- ==== Sys2Proof/Machine/Operands.lean ====
section
/-! DEFINITION. The operand forms of the Cheba cores: register codes and widths (R252, R253), address generation (R258 to
R260), and the decoding of a bundle (R262, R263, R265). -/
namespace Sys2Proof.Machine

-- Registers (R252, R253)

/-- A register code that names a register (R252). -/
def codeOk (c : Nat) : Bool := decide (c < 0x1C) || (decide (0x20 ≤ c) && decide (c ≤ 0x43))

/-- A register as a 32-bit value: M registers and AnG sign-extend, narrower others zero-extend (R253). -/
def rdReg (k : Core) (c : Nat) : Word := mget zeroW k.regs c

/-- A value narrowed to a register's width and extended as R253 reads it. -/
def narrow (c : Nat) (v : Word) : Word :=
  if c = 0x12 ∨ c = 0x15 ∨ c = 0x18 ∨ c = 0x1B ∨ (0x28 ≤ c ∧ c ≤ 0x2F) then wordOf (sx 16 v.toNat)
  else if (0x20 ≤ c ∧ c ≤ 0x27) ∨ (0x30 ≤ c ∧ c ≤ 0x3A) then BitVec.ofNat 32 (v.toNat % 2 ^ 16)
  else if (0x3B ≤ c ∧ c ≤ 0x40) ∨ c = 0x42 then BitVec.ofNat 32 (v.toNat % 2 ^ 13)
  else v

/-- Writes a register (R253); a move to SR leaves EV and LA as they are. -/
def wrReg (k : Core) (c : Nat) (v : Word) : Core :=
  let v' := if c = 0x41 then (rdReg k 0x41 &&& 0x0707_0000) ||| (v &&& 0x113F) else narrow c v
  { k with regs := mset zeroW k.regs c v' }

/-- Writes SR whole: the defined bits. -/
def setSr (k : Core) (v : Word) : Core := { k with regs := mset zeroW k.regs 0x41 (v &&& 0x0707_113F) }

/-- D register n. -/
def rdD (k : Core) (n : Nat) : Word := rdReg k n
/-- SR. -/
def rdSr (k : Core) : Word := rdReg k 0x41

/-- Accumulator n as a signed 80-bit value. -/
def rdAcc (k : Core) (n : Nat) : Int :=
  sx 80 ((rdReg k (0x10 + 3 * n)).toNat + (rdReg k (0x11 + 3 * n)).toNat * 2 ^ 32 + (rdReg k (0x12 + 3 * n)).toNat % 2 ^ 16 * 2 ^ 64)

/-- Writes accumulator n modulo 2^80. -/
def wrAcc (k : Core) (n : Nat) (v : Int) : Core :=
  let u := ux 80 v
  wrReg (wrReg (wrReg k (0x10 + 3 * n) (BitVec.ofNat 32 u)) (0x11 + 3 * n) (BitVec.ofNat 32 (u / 2 ^ 32)))
    (0x12 + 3 * n) (BitVec.ofNat 32 (u / 2 ^ 64))

-- Address generation (R258 to R260)

/-- The low k bits of v in reverse order. -/
def revBits : Nat → Nat → Nat
  | 0, _ => 0
  | k + 1, v => (v % 2) * 2 ^ k + revBits k (v / 2)

/-- Smallest k with L ≤ 2^k. -/
def ceilLog (l : Nat) : Nat := if l ≤ 1 then 0 else Nat.log2 (l - 1) + 1

/-- Modulo arithmetic (R259). -/
def modAddr (p : Nat) (inc : Int) (l : Nat) : Nat :=
  let base : Int := ((p - p % 2 ^ ceilLog l : Nat) : Int)
  let q := (p : Int) + inc
  let q := if q ≥ base + l then q - l else if q < base then q + l else q
  ux 16 q

/-- Bit-reversed arithmetic (R260). -/
def revAddr (p : Nat) (inc : Int) (l : Nat) : Nat :=
  let k := Nat.log2 l
  let n := 2 ^ k
  let o := p % n
  let h := p - o
  h + revBits k ((revBits k o + revBits k (ux k inc)) % n)

/-- The post-modified address (R258): code, Pi, Mi, Li. -/
def postMod (pm p : Nat) (m : Int) (l : Nat) : Nat :=
  let inc : Int := if pm = 2 then 1 else m
  if pm = 0 then p
  else if l = 0 then ux 16 ((p : Int) + inc)
  else if pm = 3 then revAddr p inc l
  else modAddr p inc l

/-- Pi after a memory slot of a core (R258). -/
def nextP (k : Core) (i pm : Nat) : Nat :=
  postMod pm (rdReg k (0x20 + i)).toNat (intOf (rdReg k (0x28 + i))) (rdReg k (0x30 + i)).toNat

-- Bundles (R262, R263, R265)

/-- A move slot; none where a field is reserved (R263). -/
def decodeM (v : Nat) : Option MSlot :=
  let kind := v / 2 ^ 14
  if kind = 0 then
    if v = 0 then some .nop
    else
      let d := nfld v 13 7
      let s := nfld v 6 0
      if codeOk d && codeOk s then some (.mov d s) else none
  else if kind = 3 then
    let g := nfld v 13 12
    let i := nfld v 11 9
    some (.imm (if g = 0 then 0x20 + i else if g = 1 then 0x28 + i else if g = 2 then 0x30 + i else i) (sx 9 v))
  else
    let r := nfld v 4 0
    if nfld v 7 5 = 0 ∧ (r < 0x1C ∨ r = 0x1F) then
      some (.mem (kind == 2) (nfld v 13 13 == 1) (nfld v 12 10) (nfld v 9 8) r)
    else none

/-- The three-operand operation of an OP code (R265). -/
def alu3Of (op : Nat) : Option Alu3 :=
  match op with
  | 0x08 => some .add | 0x09 => some .adds | 0x0A => some .sub | 0x0B => some .subs
  | 0x0C => some .and | 0x0D => some .or | 0x0E => some .xor
  | 0x15 => some .min | 0x16 => some .max | 0x18 => some .mulr | 0x19 => some .muli
  | _ => none

/-- A compute slot of a standard bundle from bits [61:32], as the high word w of the bundle: every field not named must be 0
(R265). -/
def decodeComp (w : Nat) : Option Comp :=
  let op := nfld w 29 24
  let z (hi : Nat) : Bool := decide (w % 2 ^ (hi + 1) = 0)
  let g (c : Bool) (v : Comp) : Option Comp := if c then some v else none
  let f (hi lo : Nat) : Nat := nfld w (hi - 32) (lo - 32)
  match alu3Of op with
  | some a => g (z 11) (.alu a (f 55 52) (f 51 48) (f 47 44))
  | none =>
    if op = 0x00 then g (z 23) .nop
    else if op = 0x01 then g (z 2) (.mac (f 55 54) (f 53 50) (f 49 46) (f 45 42) (f 41 38) (f 37 37 == 1) (f 36 36 == 1) (f 35 35 == 1))
    else if op = 0x02 then g (z 19) (.adda (f 55 54) (f 53 52))
    else if op = 0x03 then g (z 19) (.suba (f 55 54) (f 53 52))
    else if op = 0x04 then g (z 12) (.rnd (f 55 52) (f 51 50) (sx 5 (f 49 45)))
    else if op = 0x05 then g (z 17) (.mvda (f 55 54) (f 53 50))
    else if op = 0x06 then g (z 12) (.asha (f 55 54) (f 53 52) (sx 7 (f 51 45)))
    else if op = 0x07 then g (z 21) (.clra (f 55 54))
    else if op = 0x10 then g (z 10) (.shift .asr (f 55 52) (f 51 48) (f 47 43))
    else if op = 0x11 then g (z 10) (.shift .lsr (f 55 52) (f 51 48) (f 47 43))
    else if op = 0x12 then g (z 10) (.shift .lsl (f 55 52) (f 51 48) (f 47 43))
    else if op = 0x13 then g (z 15) (.abs (f 55 52) (f 51 48))
    else if op = 0x14 then g (z 15) (.neg (f 55 52) (f 51 48))
    else if op = 0x17 then g (z 11 && f 55 52 == 0) (.cmp (f 51 48) (f 47 44))
    else if op = 0x20 then g (f 50 48 == 0) (.br (f 55 51) (f 47 32))
    else if op = 0x21 then g (f 50 48 == 0) (.call (f 55 51) (f 47 32))
    else if op = 0x22 then g (z 14) (.jr (f 55 51) (f 50 47))
    else if op = 0x23 then g (z 3 && f 49 49 == 0) (.loop (f 55 54) (f 53 50) (f 48 36))
    else if op = 0x26 then g (z 23) .rti
    else if op = 0x27 then g (z 23) .wait
    else if op = 0x28 then g (z 23) .bdone
    else if op = 0x29 then g (z 23) .halt
    else if op = 0x2A then g (f 51 50 == 0 && z 11) (.mvts (f 49 44) (f 55 52))
    else if op = 0x2B then g (f 51 50 == 0 && z 11) (.mvfs (f 55 52) (f 49 44))
    else none

/-- A bundle; none where it faults with ILLEGAL by its encoding (R262). -/
def decodeBundle (v : Nat) : Option Bundle :=
  let w := v / 2 ^ 32
  let fmt := v / 2 ^ 62
  if fmt = 0 then
    match decodeComp w, decodeM (nfld v 31 16), decodeM (nfld v 15 0) with
    | some c, some m1, some m0 => some ⟨c, m1, m0⟩
    | _, _, _ => none
  else if fmt = 1 then
    let op := nfld v 61 56
    let imm := nfld v 31 0
    if op = 0x24 ∧ nfld v 53 49 = 0 ∧ nfld v 35 32 = 0 ∧ imm < 2 ^ 16 then
      some ⟨.loopi (nfld v 55 54) imm (nfld v 48 36), .nop, .nop⟩
    else if op = 0x25 ∧ nfld v 48 32 = 0 then some ⟨.ldi (nfld v 55 49) (BitVec.ofNat 32 imm), .nop, .nop⟩
    else none
  else none

end Sys2Proof.Machine
end

