-- ==== Sys2Proof/Machine/Cores.lean ====
section
/-! DEFINITION. The Cheba cores (08): issue of a bundle over the exposed pipeline, loops, interrupts, special registers, DMA
starts, the exchange with the matrix, and the host's side of a core. -/
namespace Sys2Proof.Machine

/-- Core c. -/
def coreOf (cs : CoreState) (c : Nat) : Core := mget (fun _ => Core.reset) cs.cores c
/-- Replaces core c. -/
def setCore (cs : CoreState) (c : Nat) (k : Core) : CoreState := ⟨mset (fun _ => Core.reset) cs.cores c k⟩

/-- A register of DSP[c]. -/
def dspAt (c off : Nat) : Nat := ra (pDSP c) off
/-- CORE_STAT.STATE: 0 STOPPED, 1 STARTING, 2 RUNNING, 3 WAITING, 4 HALTED, 5 FAULTED, 6 SHED (R291). -/
def coreSt (f : Fabric) (c : Nat) : Nat := getF f (dspAt c 0x44) 2 0
/-- Sets CORE_STAT.STATE. -/
def setSt (f : Fabric) (c st : Nat) : Fabric := putF f (dspAt c 0x44) 2 0 st
/-- CORE_CTRL.DET (R286). -/
def isDet (f : Fabric) (c : Nat) : Bool := getB f (dspAt c 0x40) 0
/-- Sets CORE_STAT.STALE (R283, R285). -/
def staleIf (b : Bool) (f : Fabric) (c : Nat) : Fabric := if b then putB f (dspAt c 0x44) 18 true else f

/-- An occurrence of event line e (R276). -/
def coreEvent (cs : CoreState) (c e : Nat) : CoreState :=
  let k := coreOf cs c
  setCore cs c { k with evtPend := k.evtPend ||| (1#8 <<< e) }

-- Data memory as the core sees it (R250, R283, R285)

/-- The key of word j of core c's parameter area (R249, R285). -/
def parAt (c j : Nat) : Nat := 0x83_8000 + c * 0x4_0000 + 4 * j

/-- The words of a bank of core c's parameter area, by word of the area, those that are 0 left out (R285). -/
def paramsOf (f : Fabric) (c : Nat) (bank : Bool) : List (Nat × Word) :=
  (upto 0x800).filterMap (fun j =>
    let w := rdB f bank (parAt c j)
    if w = 0 then none else some (j, w))

/-- A core's load: value, and whether it was stale. -/
def coreLoad (f : Fabric) (k : Core) (c : Nat) (isY : Bool) (a : Nat) : Word × Bool :=
  if isY then
    if 0x4000 ≤ a ∧ a < 0x4800 then
      (match k.params with
        | none => rdAct f (pDSP c) (parAt c (a - 0x4000))
        | some l => mget zeroW l (a - 0x4000), false)
    else if 0x4800 ≤ a ∧ a < 0x5000 then (rdShd f (pDSP c) (parAt c (a - 0x4800)), false)
    else (mget zeroW k.y a, false)
  else if 0x5000 ≤ a ∧ ((a - 0x5000) / 0x800 == 1) != k.xbuf then (0, true)
  else (mget zeroW k.x a, false)

/-- A core's store: fabric, core and whether it was stale. -/
def coreStore (f : Fabric) (k : Core) (c : Nat) (isY : Bool) (a : Nat) (v : Word) : Fabric × Core :=
  if isY then
    if 0x4000 ≤ a ∧ a < 0x4800 then (staleIf true f c, k)
    else if 0x4800 ≤ a ∧ a < 0x5000 then
      let g := shadowGate f (pDSP c)
      (if g ≠ 0 then fail f (pDSP c) g (a - 0x4800) else wrShd f (pDSP c) (parAt c (a - 0x4800)) v, k)
    else if 0x5000 ≤ a ∧ ((a - 0x5000) / 0x800 == 1) != k.xbuf then (staleIf true f c, k)
    else (f, { k with y := mset zeroW k.y a v })
  else (f, { k with x := mset zeroW k.x a v })

-- Special registers (R277, R286)

/-- Special registers MVFS may read (R277). -/
def specReadable (n : Nat) : Bool := (decide (n ≤ 13) && n != 3 && n != 12) || n == 15 || n == 16 || n == 18
/-- Special registers MVTS may write (R277). -/
def specWritable (n : Nat) : Bool := n == 1 || n == 3 || n == 4 || n == 9 || n == 12 || (decide (14 ≤ n) && decide (n ≤ 17))

/-- The whole nanoseconds of TIME, 40 bits (R293, R277). -/
def timeNow (f : Fabric) : Nat := f.time.toNat / 2 ^ 32 % 2 ^ 40

/-- TIMER_CNT of a running timer has reached 0: TIME is at or past its end (R277). -/
def timerDue (f : Fabric) (k : Core) : Bool := k.timerRld != 0 && decide ((timeNow f + 2 ^ 40 - k.timerAt) % 2 ^ 40 < 2 ^ 39)

/-- Sets DET_VIOL (R286). -/
def detViol (f : Fabric) (c : Nat) : Fabric := raise (putB f (dspAt c 0x44) 17 true) (pDSP c) 4

/-- MVFS: the value and the fabric after the read (R277, R286). -/
def mvfs (f : Fabric) (k : Core) (c spec : Nat) : Fabric × Word :=
  let w (n : Nat) : Word := BitVec.ofNat 32 n
  if isDet f c && (spec == 8 || spec == 10 || spec == 11 || spec == 13 || spec == 18) then (detViol f c, 0)
  else match spec with
    | 0 => (f, w c)
    | 1 => (f, w ((if isDet f c then k.evtEn &&& 1 else k.evtEn).toNat))
    | 2 => (f, w k.evtPend.toNat)
    | 4 => (f, w k.vbr)
    | 5 => (f, w k.xbuf.toNat)
    | 6 => (f, w k.blkMsc)
    | 7 => (f, w (k.blkMsc / 2 ^ 32))
    | 8 => (f, w k.cyc)
    | 9 => (f, w k.timerRld)
    | 10 => (f, if k.timerRld = 0 ∨ timerDue f k then 0 else w ((k.timerAt + 2 ^ 40 - timeNow f) % 2 ^ 40))
    | 11 => (putB f (dspAt c 0x60) 0 false, rdR f (dspAt c 0x58))
    | 13 => (f, rdR f (dspAt c 0x60) &&& 3)
    | 15 => (f, k.dmaLoc)
    | 16 => (f, k.dmaBus)
    | 18 => (f, w (k.dma.isSome.toNat + 2 * k.dmaErr.toNat + 4 * k.dmaRej.toNat + 16 * k.dmaCode))
    | _ => (f, 0)

/-- The bus ranges a core's DMA may reach (R279). -/
def dmaBusOk (a n : Nat) : Bool :=
  decide (a + n ≤ 0xE000_0000) || (decide (0xF000_0000 ≤ a) && decide (a + n ≤ 0xF080_0000)) ||
    (decide (0xF800_0000 ≤ a) && decide (a + n ≤ 0xF900_0000))

/-- The CODE a transfer ends with by its ranges (R279). -/
def dmaRange (isY : Bool) (loc n bus : Nat) : Nat :=
  if n = 0 ∨ 16384 < n ∨ (if isY then 0x4000 else 0x5000) < loc + n then 1
  else if !dmaBusOk bus (4 * n) then 2 else 0

/-- MVTS (R277 to R279, R286). -/
def mvts (f : Fabric) (cs : CoreState) (c spec : Nat) (v : Word) : Fabric × CoreState :=
  let k := coreOf cs c
  let put (k : Core) : Fabric × CoreState := (f, setCore cs c k)
  if isDet f c && (spec == 9 || spec == 12 || spec == 14 || spec == 17) then (detViol f c, cs)
  else match spec with
    | 1 =>
      let e := BitVec.ofNat 8 v.toNat
      if isDet f c then ((if e &&& 0xFE#8 = 0 then f else detViol f c), setCore cs c { k with evtEn := e &&& 1 })
      else put { k with evtEn := e }
    | 3 => put { k with evtPend := k.evtPend &&& ~~~(BitVec.ofNat 8 v.toNat) }
    | 4 => put { k with vbr := v.toNat % 8192 / 32 * 32 }
    | 9 => put { k with timerRld := v.toNat, timerAt := (timeNow f + v.toNat) % 2 ^ 40 }
    | 12 =>
      if getB f (dspAt c 0x60) 1 then (putB f (dspAt c 0x44) 19 true, coreEvent cs c 4)
      else (raise (putB (wrR f (dspAt c 0x5C) v) (dspAt c 0x60) 1 true) (pDSP c) 2, cs)
    | 14 => (f, (upto 16).foldl (fun cs i => if bit v i then coreEvent cs i 5 else cs) cs)
    | 15 => put { k with dmaLoc := v &&& 0x1_FFFF }
    | 16 => put { k with dmaBus := v &&& 0xFFFF_FFFC }
    | 17 =>
      if k.dma.isSome then put { k with dmaRej := true }
      else
        let loc := fld k.dmaLoc 15 0
        let isY := bit k.dmaLoc 16
        let n := fld v 14 0
        put { k with dma := some ⟨loc, isY, k.dmaBus.toNat, n, bit v 16, dmaRange isY loc n k.dmaBus.toNat⟩
                     dmaErr := false, dmaRej := false, dmaCode := 0 }
    | _ => (f, cs)

-- Faults of a bundle (R264, R288)

/-- The codes of an accumulator's parts. -/
def accCodes (n : Nat) : List Nat := [0x10 + 3 * n, 0x11 + 3 * n, 0x12 + 3 * n]

/-- The registers a compute slot names as destinations (R264). -/
def compDests : Comp → List Nat
  | .nop => []
  | .mac a _ _ _ _ _ _ single => accCodes a ++ (if single then [] else accCodes (if a % 2 = 0 then a + 1 else a - 1))
  | .adda ad _ => accCodes ad
  | .suba ad _ => accCodes ad
  | .rnd dd _ _ => [dd]
  | .mvda ad _ => accCodes ad
  | .asha ad _ _ => accCodes ad
  | .clra ad => accCodes ad
  | .alu _ dd _ _ => [dd]
  | .shift _ dd _ _ => [dd]
  | .abs dd _ => [dd]
  | .neg dd _ => [dd]
  | .cmp _ _ => []
  | .br _ _ => []
  | .call _ _ => [0x0F]
  | .jr _ _ => []
  | .loop k _ _ => [0x38 + k, 0x3B + k, 0x3E + k]
  | .loopi k _ _ => [0x38 + k, 0x3B + k, 0x3E + k]
  | .ldi code _ => [code]
  | .rti => []
  | .wait => []
  | .bdone => []
  | .halt => []
  | .mvts _ _ => []
  | .mvfs dd _ => [dd]

/-- The registers a move slot names as destinations, the post-modified Pi among them (R264). -/
def moveDests : MSlot → List Nat
  | .nop => []
  | .mov d _ => [d]
  | .mem _ store i pm r => (if !store && r != 0x1F then [r] else []) ++ (if pm = 0 then [] else [0x20 + i])
  | .imm d _ => [d]

/-- The data memory a slot accesses: none, X (false) or Y (true). -/
def memOf : MSlot → Option Bool
  | .mem isY _ _ _ r => if r = 0x1F then none else some isY
  | _ => none

/-- A flow-control operation (R265). -/
def isFlow : Comp → Bool
  | .br _ _ => true
  | .call _ _ => true
  | .jr _ _ => true
  | .loop _ _ _ => true
  | .loopi _ _ _ => true
  | .rti => true
  | .wait => true
  | .halt => true
  | _ => false

/-- Field values that fault with ILLEGAL (R252, R265, R266, R277). -/
def compLegal : Comp → Bool
  | .br cc _ => decide (cc ≤ 10)
  | .call cc _ => decide (cc ≤ 10)
  | .jr cc _ => decide (cc ≤ 10)
  | .loop k _ _ => decide (k < 3)
  | .loopi k _ _ => decide (k < 3)
  | .ldi code _ => codeOk code
  | .mvts spec _ => specWritable spec
  | .mvfs _ spec => specReadable spec
  | _ => true

/-- A move whose codes name registers (R252, R263). -/
def moveLegal : MSlot → Bool
  | .mov d s => codeOk d && codeOk s
  | _ => true

/-- Level l of the loop hardware is active. -/
def loopOn (k : Core) (l : Nat) : Bool := bit (rdSr k) (16 + l)
/-- LE of a level. -/
def leOf (k : Core) (l : Nat) : Nat := (rdReg k (0x3E + l)).toNat
/-- LS of a level. -/
def lsOf (k : Core) (l : Nat) : Nat := (rdReg k (0x3B + l)).toNat

/-- Addresses LE - 2 to LE of an active level (R271). -/
def nearEnd (k : Core) : Bool :=
  (upto 3).any (fun l => loopOn k l && decide (leOf k l ≤ k.pc + 2) && decide (k.pc ≤ leOf k l))

/-- Two slots share a destination or a memory (R264). -/
def conflicts (b : Bundle) : Bool :=
  let hit (x y : List Nat) : Bool := x.any (fun c => y.contains c)
  let dc := compDests b.comp
  let d0 := moveDests b.m0
  let d1 := moveDests b.m1
  hit dc d0 || hit dc d1 || hit d0 d1 || ((memOf b.m0).isSome && memOf b.m0 == memOf b.m1)

/-- A slot's access lies above 0x5FFF (R261). -/
def badAddr (k : Core) : MSlot → Bool
  | .mem _ _ i _ r => r != 0x1F && decide (0x6000 ≤ (rdReg k (0x20 + i)).toNat)
  | _ => false

/-- LOOP's own faults (R271): level active, or an end before the body. -/
def loopBad (k : Core) : Comp → Bool
  | .loop l _ e => loopOn k l || decide (e < k.pc + 1)
  | .loopi l _ e => loopOn k l || decide (e < k.pc + 1)
  | _ => false

/-- The fault code of a bundle, 0 for none (R288); a code of a lower number wins where several apply. -/
def faultOf (k : Core) (b : Option Bundle) (memErr : Bool) : Nat :=
  match b with
  | none => if memErr then 6 else 1
  | some b =>
    if !compLegal b.comp || !moveLegal b.m0 || !moveLegal b.m1 then 1
    else if conflicts b then 2
    else if badAddr k b.m0 || badAddr k b.m1 then 3
    else if isFlow b.comp && (k.delay.isSome || nearEnd k) then 4
    else if loopBad k b.comp then 5
    else if memErr then 6 else 0

-- Compute results (R255 to R257)

/-- The MAC product (R255). -/
def macProd (frac : Bool) (x y : Word) : Int := intOf x * intOf y * (if frac then 2 else 1)

/-- RND of an accumulator value times 2^sh (R256): the value before saturation. -/
def rndVal (v : Int) (sh : Int) : Int :=
  if sh ≥ 0 then rshr (v * (2 ^ sh.toNat : Nat)) 32 else rshr v (32 + (-sh).toNat)

/-- What a compute slot writes: SR after it, the registers with 32-bit values, and the accumulators (R255 to R257). -/
structure CompOut where
  sr : Word
  regs : List (Nat × Word) := []
  accs : List (Nat × Int) := []

/-- An accumulator result, with OVA on a wrap (R255). -/
def accOut (sr : Word) (l : List (Nat × Int)) : CompOut :=
  { sr := stickyOva sr (l.any (fun e => satHits 80 e.2)), accs := l }

/-- A saturating 32-bit result (R257). -/
def satOut (sr : Word) (dd : Nat) (v : Int) : CompOut :=
  { sr := stickySat sr (satHits 32 v), regs := [(dd, wordOf (satS 32 v))] }

/-- The three-operand operations (R257). -/
def aluOut (sr : Word) (op : Alu3) (dd : Nat) (a b : Word) : CompOut :=
  match op with
  | .add => { sr := addFlags sr a b, regs := [(dd, a + b)] }
  | .adds => satOut sr dd (intOf a + intOf b)
  | .sub => { sr := subFlags sr a b, regs := [(dd, a - b)] }
  | .subs => satOut sr dd (intOf a - intOf b)
  | .and => { sr := logicFlags sr (a &&& b), regs := [(dd, a &&& b)] }
  | .or => { sr := logicFlags sr (a ||| b), regs := [(dd, a ||| b)] }
  | .xor => { sr := logicFlags sr (a ^^^ b), regs := [(dd, a ^^^ b)] }
  | .min => { sr := sr, regs := [(dd, if intOf a ≤ intOf b then a else b)] }
  | .max => { sr := sr, regs := [(dd, if intOf a ≥ intOf b then a else b)] }
  | .mulr => satOut sr dd (rndVal (macProd true a b) 0)
  | .muli => { sr := sr, regs := [(dd, wordOf (intOf a * intOf b))] }

/-- The shifts (R257). -/
def shiftOut (sr : Word) (op : ShiftOp) (dd : Nat) (a : Word) (n : Nat) : CompOut :=
  let r := match op with
    | .asr => a.sshiftRight n
    | .lsr => a >>> n
    | .lsl => a <<< n
  let out := match op with
    | .asr => bit a (n - 1)
    | .lsr => bit a (n - 1)
    | .lsl => bit a (32 - n)
  { sr := shiftFlags sr r n out, regs := [(dd, r)] }

/-- The results of a compute slot that touches registers only. -/
def compOut (k : Core) (sr : Word) : Comp → CompOut
  | .mac a x1 y1 x2 y2 ng cl single =>
    let fr := bit sr 8
    let one (n x y : Nat) : Nat × Int :=
      let p := macProd fr (rdD k x) (rdD k y)
      (n, (if cl then 0 else rdAcc k n) + (if ng then -p else p))
    accOut sr ([one a x1 y1] ++ (if single then [] else [one (if a % 2 = 0 then a + 1 else a - 1) x2 y2]))
  | .adda ad s => accOut sr [(ad, rdAcc k ad + rdAcc k s)]
  | .suba ad s => accOut sr [(ad, rdAcc k ad - rdAcc k s)]
  | .rnd dd s sh => satOut sr dd (rndVal (rdAcc k s) sh)
  | .mvda ad s => { sr := sr, accs := [(ad, intOf (rdD k s) * 2 ^ 32)] }
  | .asha ad s sh =>
    if sh ≥ 0 then accOut sr [(ad, rdAcc k s * (2 ^ sh.toNat : Nat))]
    else { sr := sr, accs := [(ad, rdAcc k s / (2 ^ (-sh).toNat : Nat))] }
  | .clra ad => { sr := sr, accs := [(ad, 0)] }
  | .alu op dd s1 s2 => aluOut sr op dd (rdD k s1) (rdD k s2)
  | .shift op dd s n => shiftOut sr op dd (rdD k s) n
  | .abs dd s => satOut sr dd (intOf (rdD k s)).natAbs
  | .neg dd s => satOut sr dd (-(intOf (rdD k s)))
  | .cmp s1 s2 => { sr := subFlags sr (rdD k s1) (rdD k s2) }
  | .call cc _ => if condHolds sr cc then { sr := sr, regs := [(15, BitVec.ofNat 32 ((k.pc + 3) % 8192))] } else { sr := sr }
  | _ => { sr := sr }

-- Loops (R270, R271)

/-- The loop hardware after the bundle at pc: the next address and the core (R270). -/
def loopBack (k : Core) : Nat × Core :=
  let r := [2, 1, 0].foldl (fun (acc : Option Nat × Core) l =>
    match acc.1 with
    | some _ => acc
    | none =>
      let k := acc.2
      if loopOn k l && k.pc == leOf k l then
        let n := (rdReg k (0x38 + l)).toNat
        if 1 < n then (some (lsOf k l), wrReg k (0x38 + l) (BitVec.ofNat 32 (n - 1)))
        else (none, setSr (wrReg k (0x38 + l) 0) (setBit (rdSr k) (16 + l) false))
      else acc) (none, k)
  (r.1.getD ((k.pc + 1) % 8192), r.2)

/-- LOOP and LOOPI (R270, R271): the core, and the next address where the body is skipped. -/
def startLoop (k : Core) (l count end_ : Nat) : Core × Option Nat :=
  let k := wrReg (wrReg (wrReg k (0x3B + l) (BitVec.ofNat 32 (k.pc + 1))) (0x3E + l) (BitVec.ofNat 32 end_))
    (0x38 + l) (BitVec.ofNat 32 count)
  if count = 0 then (k, some ((end_ + 1) % 8192)) else (setSr k (setBit (rdSr k) (16 + l) true), none)

-- Issue (R262 to R269)

/-- Bundles until a written register is seen (R267): moves into P, M and L 2, into LC, LS and LE 3, others 1. -/
def moveLat (c : Nat) : Nat := if 0x20 ≤ c ∧ c ≤ 0x37 then 2 else if 0x38 ≤ c ∧ c ≤ 0x40 then 3 else 1

/-- What a move slot reads before any slot writes: its register writes with their latencies, its store, its stale load. -/
def moveOut (f : Fabric) (k : Core) (c : Nat) : MSlot → List (Nat × Nat × Word) × Option (Bool × Nat × Word) × Bool
  | .nop => ([], none, false)
  | .mov d s => ([(moveLat d, d, rdReg k s)], none, false)
  | .imm d v => ([(moveLat d, d, wordOf v)], none, false)
  | .mem isY store i pm r =>
    let a := (rdReg k (0x20 + i)).toNat
    let upd := if pm = 0 then [] else [(1, 0x20 + i, BitVec.ofNat 32 (nextP k i pm))]
    if r = 0x1F then (upd, none, false)
    else if store then (upd, some (isY, a, rdReg k r), false)
    else
      let v := coreLoad f k c isY a
      (upd ++ [(2, r, v.1)], none, v.2)

/-- Stops a core's issue with a fault; a MEM fault is an error of the core's SRAM array as well (R288, R476). -/
def coreFault (f : Fabric) (k : Core) (c code : Nat) : Fabric :=
  let f := if code = 6 then sramError f (2 + c) (Config.coreErrWord c k.pc) false else f
  let f := putF (setSt f c 5) (dspAt c 0x44) 15 8 code
  raise (wrN f (dspAt c 0x48) k.pc) (pDSP c) 0

/-- The flow a bundle asks for after its delay slots (R266, R269, R273). -/
def flowOf (k : Core) : Comp → Option Delay
  | .br cc off => some ⟨2, if condHolds (rdSr k) cc then some ((k.pc + off) % 8192) else none, none⟩
  | .call cc off => some ⟨2, if condHolds (rdSr k) cc then some ((k.pc + off) % 8192) else none, none⟩
  | .jr cc s => some ⟨2, if condHolds (rdSr k) cc then some ((rdD k s).toNat % 8192) else none, none⟩
  | .rti => some ⟨2, some (rdReg k 0x42).toNat, some (rdReg k 0x43)⟩
  | _ => none

/-- A bundle without a fault takes effect (R262 to R271). -/
def perform (f : Fabric) (cs : CoreState) (c : Nat) (b : Bundle) : Fabric × CoreState :=
  let k0 := coreOf cs c
  let o0 := moveOut f k0 c b.m0
  let o1 := moveOut f k0 c b.m1
  let f := staleIf (o0.2.2 || o1.2.2) f c
  let (next, k) := loopBack k0
  let out := compOut k0 (rdSr k) b.comp
  -- results with a latency of more than one bundle become visible; then this bundle's
  let aged := k.pend.map (fun e => (e.1 - 1, e.2))
  let k := setSr k out.sr
  let k := (aged.filter (fun e => e.1 = 0)).foldl (fun k e => wrReg k e.2.1 e.2.2) k
  let k := { k with pend := aged.filter (fun e => e.1 ≠ 0) }
  let k := out.regs.foldl (fun k e => wrReg k e.1 e.2) k
  let k := out.accs.foldl (fun k e => wrAcc k e.1 e.2) k
  let (k, skip) := match b.comp with
    | .loop l s e => startLoop k l ((rdD k0 s).toNat % 2 ^ 16) e
    | .loopi l n e => startLoop k l n e
    | _ => (k, none)
  let ldi := match b.comp with
    | .ldi code v => [(moveLat code, code, v)]
    | _ => []
  let writes := ldi ++ o0.1 ++ o1.1
  let k := (writes.filter (fun e => e.1 = 1)).foldl (fun k e => wrReg k e.2.1 e.2.2) k
  let k := { k with pend := k.pend ++ (writes.filter (fun e => e.1 ≠ 1)).map (fun e => (e.1 - 1, e.2)) }
  let (f, k) := [o0.2.1, o1.2.1].foldl (fun (acc : Fabric × Core) o => match o with
    | some (isY, a, v) => coreStore acc.1 acc.2 c isY a v
    | none => acc) (f, k)
  -- the next address
  let next := skip.getD next
  let (pc, delay, srr) := match k0.delay with
    | some d => if d.left ≤ 1 then (d.target.getD next, none, d.sr) else (next, some { d with left := d.left - 1 }, none)
    | none => (next, flowOf k0 b.comp, none)
  let k := match srr with
    | some v => setSr k v
    | none => k
  let k := { k with pc := pc, lastPc := k0.pc, delay := delay, cyc := k0.cyc + 1 + (if skip.isSome then 2 else 0)
                    rtiHold := srr.isSome }
  let cs := setCore cs c k
  match b.comp with
  | .halt => (raise (wrN (setSt f c 4) (dspAt c 0x48) k0.pc) (pDSP c) 1, cs)
  | .wait => (setSt f c 3, cs)
  | .bdone =>
    if k.bdone then (f, cs)
    else (putB f (dspAt c 0x0C) 3 false, setCore cs c { k with bdone := true, cycDone := k.cyc })
  | .mvts spec s => mvts f cs c spec (rdD k0 s)
  | .mvfs dd spec =>
    let r := mvfs f k0 c spec
    (r.1, setCore cs c (wrReg k dd r.2))
  | _ => (f, cs)

/-- Core c issues a bundle where it is RUNNING (R262, R288). -/
def issue (f : Fabric) (cs : CoreState) (c : Nat) (b : Option Bundle) (memErr : Bool) : Fabric × CoreState :=
  if coreSt f c ≠ 2 then (f, cs)
  else
    let k := coreOf cs c
    let code := faultOf k b memErr
    match b with
    | some b => if code = 0 then perform f cs c b else (coreFault f k c code, cs)
    | none => (coreFault f k c code, cs)

/-- Core c fetches and issues the bundle at its PC (R262). -/
def issueNext (f : Fabric) (cs : CoreState) (c : Nat) (memErr : Bool) : Fabric × CoreState :=
  issue f cs c (decodeBundle (mget (fun _ => (0 : BitVec 64)) (coreOf cs c).pm (coreOf cs c).pc).toNat) memErr

/-- A bundle with one compute slot. -/
def compBundle (o : Comp) : Option Bundle := some ⟨o, .nop, .nop⟩
/-- A bundle with one move slot. -/
def moveBundle (m : MSlot) : Option Bundle := some ⟨.nop, .nop, m⟩

-- Interrupts (R272 to R274)

/-- The pending lines a core enables. -/
def coreLines (f : Fabric) (c : Nat) (k : Core) : BitVec 8 :=
  k.evtPend &&& (if isDet f c then k.evtEn &&& 1 else k.evtEn)

/-- The lowest line of a set. -/
def lowLine (l : BitVec 8) : Nat := ((upto 8).find? (fun e => l.getLsbD e)).getD 0

/-- The next bundle lies in an interrupt window (R272). -/
def inWindow (k : Core) : Bool :=
  k.delay.isSome || k.rtiHold ||
    (upto 3).any (fun l => loopOn k l &&
      ((k.pc == leOf k l) || (k.pc + 1 == leOf k l) ||
        (decide (leOf k l < lsOf k l + 2) && decide (lsOf k l ≤ k.pc) && decide (k.pc ≤ leOf k l))))

/-- Interrupt entry for line e (R273). -/
def intEnter (k : Core) (e : Nat) : Core :=
  let sr := rdSr k
  let k := wrReg (wrReg k 0x42 (BitVec.ofNat 32 k.pc)) 0x43 sr
  let k := setSr k (setFld (setFld (setBit sr 12 false) 18 16 0) 26 24 e)
  { k with evtPend := k.evtPend &&& ~~~(1#8 <<< e), pc := (k.vbr + 4 * e) % 8192, cyc := k.cyc + 14 }

/-- A core takes an interrupt where R272 lets it. -/
def coreInterrupt (f : Fabric) (cs : CoreState) (c : Nat) : CoreState :=
  let k := coreOf cs c
  let l := coreLines f c k
  if coreSt f c = 2 ∧ bit (rdSr k) 12 ∧ l ≠ 0 ∧ !inWindow k then setCore cs c (intEnter k (lowLine l)) else cs

/-- A waiting core wakes on a pending enabled line (R274); slept is the cycles since its WAIT, or since the block tick where that
came later, which CYCLE counts as well. -/
def coreWake (f : Fabric) (cs : CoreState) (c slept : Nat) : Fabric × CoreState :=
  let k := coreOf cs c
  let l := coreLines f c k
  if coreSt f c = 3 ∧ l ≠ 0 then
    let k := { k with cyc := k.cyc + slept }
    (setSt f c 2, setCore cs c (if bit (rdSr k) 12 then intEnter k (lowLine l) else { k with cyc := k.cyc + 14 }))
  else (f, cs)

/-- The timer reaches 0 (R276, R277). -/
def coreTimer (f : Fabric) (cs : CoreState) (c : Nat) : CoreState :=
  let k := coreOf cs c
  if timerDue f k then
    coreEvent (setCore cs c { k with timerAt := (k.timerAt + k.timerRld) % 2 ^ 40 }) c 3
  else cs

-- Start and stop (R287, R290, R291)

/-- A core as it starts (R254): registers and pipeline at reset, memories kept. -/
def coreFresh (k : Core) : Core :=
  { Core.reset with pm := k.pm, x := k.x, y := k.y, xbuf := k.xbuf, blkMsc := k.blkMsc, params := k.params }

/-- A core enters STARTING (R287). -/
def coreArm (f : Fabric) (cs : CoreState) (c : Nat) : Fabric × CoreState :=
  let b := blockLen f
  let k := coreOf cs c
  let f := setSt f c 1
  if getB f (dspAt c 0x40) 2 then
    let raw := rdN f (dspAt c 0x54) * 2 ^ 32 + rdN f (dspAt c 0x50)
    let at_ := (raw + b - 1) / b * b
    if running f && decide (at_ ≤ f.msc.toNat) then
      (raise (putB f (dspAt c 0x44) 20 true) (pDSP c) 5, setCore cs c { k with due := false, startAt := none })
    else (f, setCore cs c { k with due := false, startAt := some at_ })
  else (f, setCore cs c { k with due := false, startAt := none })

/-- A core that is due to start issues from PC 0 (R254, R287). -/
def coreStart (f : Fabric) (cs : CoreState) (c : Nat) : Fabric × CoreState :=
  let k := coreOf cs c
  if coreSt f c = 1 ∧ k.due then (setSt f c 2, setCore cs c { coreFresh k with evtPend := 1 }) else (f, cs)

/-- A change of DSP[c].PAGE_CTRL.ENABLE (R287, R290, R291). -/
def coreEnable (f : Fabric) (cs : CoreState) (c : Nat) (on : Bool) : Fabric × CoreState :=
  if on then
    if coreSt f c ≠ 0 then (f, cs)
    else
      let f := putB f (dspAt c 0x0C) 3 true
      if isShed f 1 && getB f (dspAt c 0x40) 1 then (setSt f c 6, cs) else coreArm f cs c
  else (putB (putF (setSt f c 0) (dspAt c 0x44) 15 8 0) (dspAt c 0x0C) 3 false, cs)

/-- ELASTIC is shed or restored (R290). -/
def coreShed (f : Fabric) (cs : CoreState) (on : Bool) : Fabric × CoreState :=
  (upto 16).foldl (fun (acc : Fabric × CoreState) c =>
    let f := acc.1
    if !getB f (dspAt c 0x40) 1 then acc
    else if on && (coreSt f c == 1 || coreSt f c == 2 || coreSt f c == 3) then (setSt f c 6, acc.2)
    else if !on && coreSt f c == 6 then coreArm f acc.2 c
    else acc) (f, cs)

-- Block tick (R276, R281, R282)

/-- The keys of an exchange area in the core's map. -/
def areaBase (h : Bool) : Nat := 0x5000 + 0x800 * h.toNat

/-- The outputs a core hands over at a tick become class 0x7 samples of the wall block that starts at w0 (R280, R282). -/
def publish (a : Audio) (c w0 b : Nat) (k : Core) : Audio :=
  let base := areaBase k.xbuf
  (mfilter (fun n => decide (base ≤ n) && decide (n < base + 0x800)) k.y).foldl (fun a e =>
    let ch := (e.1 - base) / 32
    let i := (e.1 - base) % 32
    if i < b then putSample a (w0 + i) (0x7000 + 64 * c + ch) (intOf e.2) else a) a

/-- A block tick as core c receives it (R276, R281, R282, R287). -/
def coreTick (w0 : Nat) (acc : Fabric × CoreState × Audio) (c : Nat) : Fabric × CoreState × Audio :=
  let f := acc.1
  let b := blockLen f
  let k := coreOf acc.2.1 c
  let st := coreSt f c
  let live := st == 2 || st == 3
  let ok := (live || st == 4 || st == 5) && k.bdone
  let miss := !k.bdone && (live || st == 4 || st == 5)
  let a := if ok then publish acc.2.2 c w0 b k else acc.2.2
  let f := if ok then
      let f := wrN f (dspAt c 0x70) k.cycDone
      if rdN f (dspAt c 0x74) < k.cycDone then wrN f (dspAt c 0x74) k.cycDone else f
    else f
  let f := if miss then raise (putB (bump f (dspAt c 0x6C)) (dspAt c 0x44) 16 true) (pDSP c) 3 else f
  let ready_ := match k.startAt with
    | none => true
    | some t => decide (t ≤ w0)
  let k := { k with handed := ok, bdone := false, cyc := 0, xbuf := (w0 / b) % 2 == 1, blkMsc := w0, params := none
                    due := st == 1 && ready_ }
  let k := if live then { k with evtPend := k.evtPend ||| (if miss then 0x11 else 1) } else k
  (f, setCore acc.2.1 c k, a)

/-- Every core's block tick. -/
def coresTick (f : Fabric) (cs : CoreState) (a : Audio) (w0 : Nat) : Fabric × CoreState × Audio :=
  (upto 16).foldl (coreTick w0) (f, cs, a)

/-- The first pass's class 0xD samples of the wall block at w0 enter the input area the core reads in the next block
(R280, R281). -/
def coreInputs (f : Fabric) (cs : CoreState) (a : Audio) (w0 : Nat) : CoreState :=
  let b := blockLen f
  let h := (w0 / b + 1) % 2 == 1
  let base := areaBase h
  let cleared := cs.cores.foldl (fun cs e =>
    setCore cs e.1 { e.2 with x := mclear base (base + 0x800) e.2.x }) cs
  (mfilter (fun n => decide (w0 * 2 ^ 20 ≤ n) && decide (n < (w0 + b) * 2 ^ 20) && n % 2 ^ 20 / 4096 == 0xD) a.smp).foldl
    (fun cs e =>
      let id := e.1 % 2 ^ 20 - 0xD000
      let c := id / 64
      let k := coreOf cs c
      setCore cs c { k with x := mset zeroW k.x (base + 32 * (id % 64) + (e.1 / 2 ^ 20 - w0)) (wordOf e.2) }) cleared

-- The host's side (R249, R251, R278, R283, R285, R291)

/-- A 32-bit window read of core c at an offset in its 256 KiB; none where unmapped. -/
def coreWinRead (f : Fabric) (cs : CoreState) (c off : Nat) : Option Word :=
  let k := coreOf cs c
  if off < 0x1_0000 then
    some (BitVec.ofNat 32 ((mget (fun _ => (0 : BitVec 64)) k.pm (off / 8)).toNat / 2 ^ (8 * (off % 8 / 4 * 4))))
  else if off < 0x2_8000 then some (mget zeroW k.x ((off - 0x1_0000) / 4))
  else
    let a := (off - 0x2_8000) / 4
    if 0x4000 ≤ a ∧ a < 0x4800 then some (rdShd f (pDSP c) (parAt c (a - 0x4000)))
    else if 0x4800 ≤ a ∧ a < 0x5000 then none
    else some (mget zeroW k.y a)

/-- A 32-bit window write of core c; none where unmapped. -/
def coreWinWrite (f : Fabric) (cs : CoreState) (c off : Nat) (v : Word) : Option (Fabric × CoreState) :=
  let k := coreOf cs c
  if off < 0x1_0000 then
    let st := coreSt f c
    if st = 1 ∨ st = 2 ∨ st = 3 then some (fail f (pDSP c) 0x0100 off, cs)
    else
      let old := (mget (fun _ => (0 : BitVec 64)) k.pm (off / 8)).toNat
      let new := if off % 8 < 4 then old / 2 ^ 32 * 2 ^ 32 + v.toNat else old % 2 ^ 32 + v.toNat * 2 ^ 32
      some (f, setCore cs c { k with pm := mset (fun _ => (0 : BitVec 64)) k.pm (off / 8) (BitVec.ofNat 64 new) })
  else if off < 0x2_8000 then
    let a := (off - 0x1_0000) / 4
    if 0x5000 ≤ a then none else some (f, setCore cs c { k with x := mset zeroW k.x a v })
  else
    let a := (off - 0x2_8000) / 4
    if 0x4000 ≤ a ∧ a < 0x4800 then
      let g := shadowGate f (pDSP c)
      some (if g ≠ 0 then fail f (pDSP c) g off else wrShd f (pDSP c) (parAt c (a - 0x4000)) v, cs)
    else if 0x4800 ≤ a then none
    else some (f, setCore cs c { k with y := mset zeroW k.y a v })

/-- A host write of MBX_IN (R278). -/
def mailboxWrite (f : Fabric) (cs : CoreState) (c : Nat) (v : Word) : Fabric × CoreState :=
  if !ready f (pDSP c) then (fail f (pDSP c) 1 0x58, cs)
  else if getB f (dspAt c 0x60) 0 then (fail f (pDSP c) 0x0101 0x58, cs)
  else (putB (wrR f (dspAt c 0x58) v) (dspAt c 0x60) 0 true, coreEvent cs c 1)

/-- A host write of EVT_RAISE (R276). -/
def evtRaise (f : Fabric) (cs : CoreState) (c : Nat) (v : Word) : Fabric × CoreState :=
  if !ready f (pDSP c) then (fail f (pDSP c) 1 0x64, cs)
  else
    let cs := if bit v 6 then coreEvent cs c 6 else cs
    (f, if bit v 7 then coreEvent cs c 7 else cs)

/-- A fire of trigger comparator n reaches the cores that select it (R276). -/
def coreTrig (f : Fabric) (cs : CoreState) (n : Nat) : CoreState :=
  (upto 16).foldl (fun cs c =>
    let w := rdR f (dspAt c 0x68)
    let cs := if bit w 3 && fld w 2 0 == n then coreEvent cs c 6 else cs
    if bit w 7 && fld w 6 4 == n then coreEvent cs c 7 else cs) cs

/-- A host write of CORE_CTRL (R290, R291). -/
def coreCtrlWrite (f : Fabric) (c : Nat) (v : Word) : Fabric :=
  if coreSt f c ≠ 0 then fail f (pDSP c) 0x0006 0x40
  else if bit v 0 && bit v 1 then fail f (pDSP c) 0x0102 0x40
  else wrR f (dspAt c 0x40) (v &&& 7)

/-- CORE_RUN (R292). -/
def coreRun (f : Fabric) : Nat := (upto 16).foldl (fun t c => if coreSt f c = 2 ∨ coreSt f c = 3 then t + 2 ^ c else t) 0
/-- CORE_FAULT (R292). -/
def coreFaults (f : Fabric) : Nat := (upto 16).foldl (fun t c => if coreSt f c = 5 then t + 2 ^ c else t) 0

/-- The words a DMA transfer takes from local memory. -/
def dmaLocalRead (k : Core) (j : CoreDma) : List Word :=
  mgets zeroW (if j.isY then k.y else k.x) j.loc j.words
/-- The words a DMA transfer puts into local memory. -/
def dmaLocalWrite (k : Core) (j : CoreDma) (ws : List Word) : Core :=
  if j.isY then { k with y := msets zeroW k.y j.loc ws } else { k with x := msets zeroW k.x j.loc ws }

/-- The end of a DMA transfer with a CODE, 0 for none (R279). -/
def dmaEnd (f : Fabric) (cs : CoreState) (c code : Nat) : Fabric × CoreState :=
  let k := coreOf cs c
  let cs := setCore cs c { k with dma := none, dmaErr := code ≠ 0, dmaCode := code }
  let cs := coreEvent cs c 2
  if code = 0 then (f, cs) else (putB f (dspAt c 0x44) 21 true, coreEvent cs c 4)

end Sys2Proof.Machine
end

