-- ==== Sys2Proof/Machine/Power.lean ====
section
/-! DEFINITION. The power controller: load classes, the thermal governor, boost, the PS and ENG operations and the wake
sources (R489 to R512), as functions of the fabric and the power state. -/
namespace Sys2Proof.Machine

/-- The DSP shared page (R41). -/
def pDSH : Nat := 288

/-- Shows the power state in PWR.STAT and in SETTLING of the PWR page (R511). -/
def showPwr (f : Fabric) (p : PwrState) : Fabric := putF f 0x1060 1 0 (if p.state = .quiet then 1 else 0)

-- Temperatures, in 0.125 °C (R512)

/-- TJ (R500). -/
def tjOf (f : Fabric) : Int := sx 16 (getF f 0x2040 15 0)
/-- LEVEL (R501). -/
def thmLevel (f : Fabric) : Nat := getF f 0x2074 2 0
/-- SHUT_LATCH (R502). -/
def shutLatch (f : Fabric) : Bool := getB f 0x2074 8
/-- The entry threshold of a level (R501). -/
def enterT (l : Nat) : Int := if l = 1 then 736 else if l = 2 then 800 else if l = 3 then 840 else 880
/-- The release value of a level (R501). -/
def releaseT (l : Nat) : Int := if l = 1 then 712 else if l = 2 then 776 else 816
/-- ALERT_N is driven low (R504); STAT.ALERT shows it (R512). -/
def alertNow (f : Fabric) : Bool := shutLatch f || (getB f 0x2070 0 && decide (sx 16 (getF f 0x2068 15 0) ≤ tjOf f))
def showAlert (f : Fabric) : Fabric := putB f 0x2074 9 (alertNow f)

-- Boost (R505)

/-- The last current estimate exceeds I_CORE_MAX, where that is not 0 (R505). -/
def overCurrent (f : Fabric) : Bool := decide (getF f 0x1094 9 0 ≠ 0 ∧ getF f 0x1094 9 0 < getF f 0x1098 9 0)

/-- Every condition of a boost grant that the device holds (R505); the monitor's reading of VDD_DS is part of the event. -/
def boostOk (f : Fabric) (p : PwrState) : Bool :=
  getB f (ra pDSH 0x40) 0 && getB f 0x1090 0 && decide (p.state = .active) && !isShed f 0 && !p.holdoff && !overCurrent f

/-- BOOST_STAT.HELD: boost is requested and not granted. -/
def showHeld (f : Fabric) (boost : Bool) : Fabric := putB f (ra pDSH 0x44) 1 (getB f (ra pDSH 0x40) 0 && !boost)

/-- Boost is granted (R505, R289): the DS island runs at 1.2 GHz. -/
def boostGrant (f : Fabric) (p : PwrState) : Fabric × PwrState :=
  if p.boost || !boostOk f p then (f, p)
  else (raise (wrN (showHeld (putB f (ra pDSH 0x44) 0 true) true) (ra pDSH 0x48) 1200) pDSH 1,
      { p with boost := true, freqWait := min 50 Config.freqPause })

/-- Boost ends where it runs; one that host software did not ask for is counted (R505). -/
def boostEnd (f : Fabric) (p : PwrState) (asked : Bool) : Fabric × PwrState :=
  if !p.boost then (f, p)
  else
    let f := wrN (showHeld (putB f (ra pDSH 0x44) 0 false) false) (ra pDSH 0x48) 1000
    (if asked then f else raise (bump f (ra pDSH 0x54)) pDSH 0,
      { p with boost := false, freqWait := min 50 Config.freqPause })

/-- Boost is removed where a condition has gone; one that went with REQ or BOOST_VOK is not counted (R505). -/
def boostCheck (f : Fabric) (p : PwrState) : Fabric × PwrState :=
  if boostOk f p then (f, p) else boostEnd f p (!(getB f (ra pDSH 0x40) 0 && getB f 0x1090 0))

/-- A write of DSP_SH.BOOST_CTRL or PWR.BOOST_VOK (R505). -/
def boostWrite (f : Fabric) (p : PwrState) (vok : Bool) (v : Word) : Fabric × PwrState :=
  let f := showHeld (wrR f (if vok then 0x1090 else ra pDSH 0x40) (v &&& 1)) p.boost
  if bit v 0 then (f, p) else boostEnd f p true

/-- The current estimate, in 0.1 A (R505): above I_CORE_MAX boost is removed where it runs, and held off. -/
def currentLimit (f : Fabric) (p : PwrState) (est : Nat) : Fabric × PwrState :=
  let f := putF f 0x1098 9 0 (min 1023 est)
  if getF f 0x1094 9 0 ≠ 0 ∧ getF f 0x1094 9 0 < est then
    let r := boostEnd f p false
    (r.1, { r.2 with holdoff := true })
  else (f, p)

/-- The on-die monitor reads VDD_DS below 0.78 V (R505): boost that runs is removed. -/
def vddLow (f : Fabric) (p : PwrState) : Fabric × PwrState :=
  if p.boost then
    let r := boostEnd f p false
    (raise r.1 pPWR 3, r.2)
  else (f, p)

/-- The 100 ms hold-off ends (R505). -/
def holdoffEnd (p : PwrState) : PwrState := { p with holdoff := false }

-- Load classes (R498, R499)

/-- The classes shed: by the thermal level or by SHED_FORCE (R499, R501). -/
def shedNow (f : Fabric) : Nat :=
  let l := thmLevel f
  Nat.lor ((decide (1 ≤ l)).toNat + 2 * (decide (2 ≤ l)).toNat + 4 * (decide (3 ≤ l)).toNat) (getF f 0x10A0 2 0)

/-- SHED_STAT follows, its change is a cause, the trace writer shows SHED and boost may go (R499, R505, R518). -/
def shedUpdate (f : Fabric) (p : PwrState) : Fabric × PwrState :=
  let new := shedNow f
  if new = getF f 0x10A4 2 0 then (f, p)
  else
    let f := putF f 0x10A4 2 0 new
    let f := putB f (ra pOBS 0x54) 1 (new / 2 % 2 = 1)
    boostCheck (raise f pPWR 4) p

/-- A write of SHED_FORCE (R499). -/
def shedForce (f : Fabric) (p : PwrState) (v : Word) : Fabric × PwrState := shedUpdate (wrR f 0x10A0 (v &&& 7)) p

-- The governor (R500 to R502)

/-- LEVEL takes a new value: one cause for the change (R501). -/
def setLevel (f : Fabric) (l : Nat) : Fabric := if l = thmLevel f then f else raise (putF f 0x2074 2 0 l) pTHM 0

/-- The highest level whose threshold a temperature has reached. -/
def levelFor (tj : Int) : Nat := if 880 ≤ tj then 4 else if 840 ≤ tj then 3 else if 800 ≤ tj then 2 else if 736 ≤ tj then 1 else 0

/-- The levels from one above lo to hi are counted (R501). -/
def countLevels (f : Fabric) (lo hi : Nat) : Fabric :=
  (upto 4).foldl (fun f i => if lo ≤ i ∧ i < hi then bumpF f 0x207C (8 * i + 7) (8 * i) else f) f

/-- One entry of the release timers after a sample. -/
def relStep (tj : Int) (l : Nat) (x : Option Nat) : Option Nat :=
  if tj ≤ releaseT l then some (min 10000 (x.elim 0 (· + 1))) else none

/-- Samples of a fade of the shutdown (R502). -/
def shutLen (f : Fabric) : Nat := if rate96 f then 960 else 480

/-- Level 4: ALERT_N, the latch, the fade, and the end of a pending start (R502). -/
def shutdown (f : Fabric) (p : PwrState) : Fabric × PwrState :=
  let f := raise (putB f 0x2074 8 true) pTHM 2
  let p := { p with shutFrom := if running f then some (blockStart f + blockLen f) else some f.msc.toNat }
  if startPending f then (opEnd (putB f 0x104 2 false) .eng 5 0x0004, p) else (f, p)

/-- A conversion of the eight sensors (R500): TJ, its peak, the warning, and every level reached (R501). -/
def thermalSample (f : Fabric) (p : PwrState) (sensors : List Int) : Fabric × PwrState :=
  let codes := (upto 8).map (fun i => satS 16 (sensors.getD i 0))
  let tj := codes.foldl max (codes.headD 0)
  let f := codes.zipIdx.foldl (fun (f : Fabric) (e : Int × Nat) => wrN f (0x2048 + 4 * e.2) (ux 16 e.1)) f
  let f := wrN f 0x2040 (ux 16 tj)
  let f := if sx 16 (getF f 0x2044 15 0) < tj then wrN f 0x2044 (ux 16 tj) else f
  let f := raiseIf (decide (sx 16 (getF f 0x2068 15 0) ≤ tj)) f pTHM 1
  let p := { p with relMs := [relStep tj 1 (p.relMs.getD 0 none), relStep tj 2 (p.relMs.getD 1 none), relStep tj 3 (p.relMs.getD 2 none)] }
  let old := thmLevel f
  let new := levelFor tj
  let (f, p) :=
    if old < new then
      let f := setLevel (countLevels f old new) new
      if new = 4 then shutdown f p else (f, p)
    else (f, p)
  shedUpdate (showAlert f) p

/-- A level below 4 whose 10 s have passed (R501). -/
def released (p : PwrState) (l : Nat) : Bool := (p.relMs.getD (l - 1) none).any (fun n => decide (10000 ≤ n))

/-- The level left when every level whose 10 s have passed is left, the highest first (R501). -/
def levelAfter (p : PwrState) : Nat → Nat
  | 0 => 0
  | l + 1 => if l + 1 ≤ 3 ∧ released p (l + 1) then levelAfter p l else l + 1

/-- Levels are left (R501). -/
def thermalRelease (f : Fabric) (p : PwrState) : Fabric × PwrState := shedUpdate (setLevel f (levelAfter p (thmLevel f))) p

/-- A write of THM.CMD (R502, R512); one rejected with HOT does nothing else. -/
def thmCmd (f : Fabric) (p : PwrState) (v : Word) : Fabric × PwrState :=
  if bit v 0 && decide (800 < tjOf f) then (fail f pTHM 0x0100 0x78, p)
  else
    let f := if bit v 1 then wrR f 0x2044 (rdR f 0x2040) else f
    if bit v 0 && shutLatch f then
      let f := putB f 0x2074 8 false
      let f := setLevel f (levelAfter p 3)
      shedUpdate (showAlert f) p
    else (f, p)

/-- A write of WARN_T, WAKE_T or CFG. -/
def thmWrite (f : Fabric) (off : Nat) (v : Word) : Fabric :=
  showAlert (wrR f (ra pTHM off) (v &&& (if off = 0x70 then 1 else 0xFFFF)))

-- PWR registers (R511)

/-- A KEEP_BASE and KEEP_SIZE pair that would reach past the last DRAM byte is rejected; a size of 0 reaches nowhere. -/
def keepWrite (f : Fabric) (off : Nat) (v : Word) : Fabric :=
  let k := (off - 0x70) / 8
  let isBase := (off - 0x70) % 8 == 0
  let base := if isBase then (v &&& 0xFFF0_0000).toNat else rdN f (0x1070 + 8 * k)
  let size := if isBase then getF f (0x1074 + 8 * k) 11 0 else fld v 11 0
  if size ≠ 0 ∧ 0xE000_0000 < base + size * 2 ^ 20 then fail f pPWR 0x0100 off
  else wrR f (ra pPWR off) (if isBase then v &&& 0xFFF0_0000 else v &&& 0xFFF)

/-- The keep SRAM word that KEEP_ADDR selects. -/
def keepIdx (f : Fabric) : Nat := getF f 0x10B0 17 2
/-- KEEP_ADDR advances by one word where AUTO_INC is set. -/
def keepNext (f : Fabric) : Fabric := if getB f 0x10B0 31 then putF f 0x10B0 17 2 (keepIdx f + 1) else f
/-- A write of KEEP_DATA. -/
def keepPut (f : Fabric) (m : MemState) (v : Word) : Fabric × MemState :=
  (keepNext f, { m with keep := mset zeroW m.keep (keepIdx f) v })
/-- A read of KEEP_DATA. -/
def keepGet (f : Fabric) (m : MemState) : Fabric × Word := (keepNext f, mget zeroW m.keep (keepIdx f))

-- Power state operations (R490 to R492)

/-- The code of a PS operation's check, 0 where it may run (R490). -/
def psDetail (f : Fabric) (p : PwrState) (op : Nat) : Nat :=
  let busy := running f || startPending f
  if op = 2 then (if p.state ≠ .quiet then 1 else if shutLatch f then 4 else 0)
  else if op = 1 ∧ p.state ≠ .active then 1
  else if busy then 2 else 0

/-- A PS operation is accepted (R490): a failing check ends it at once; otherwise it runs until its commit point. -/
def psStart (f : Fabric) (p : PwrState) (op : Nat) : Fabric × PwrState :=
  let f := opStart f .ps op
  let d := psDetail f p op
  if d ≠ 0 then (opEnd f .ps 5 d, p) else (f, { p with wakePend := 0 })

/-- A wake source becomes pending (R496, R497): where its enable is 1, during an entry to RETAIN or DEEP or in such a state;
a comparator does not wake from DEEP. -/
def wakeSource (f : Fabric) (p : PwrState) (n : Nat) : PwrState :=
  let entry := opRunning f .ps && (opLast f .ps == 3 || opLast f .ps == 4)
  let toDeep := decide (p.state = .deep) || (entry && opLast f .ps == 4)
  if getB f 0x1064 n && (entry || p.state = .retain || p.state = .deep) && !(toDeep && n == 2) then
    { p with wakePend := p.wakePend ||| BitVec.ofNat 5 (2 ^ n) }
  else p

-- Engine start and stop (R506 to R508)

/-- The check of START (R506); 0 where the start may go on. -/
def startDetail (f : Fabric) (p : PwrState) (drams : Bool) : Nat :=
  if p.state ≠ .active then 1 else if !drams then 2
  else if 6 ≤ getF f (ra pREF 0x80) 2 0 then 3
  else if shutLatch f then 4 else if running f then 5 else 0

/-- START is accepted (R507, R30): SESSION_CFG is sampled and PENDING set, or a check ends it. -/
def engStart (f : Fabric) (p : PwrState) (drams : Bool) : Fabric × PwrState :=
  let f := opStart f .eng 1
  let d := startDetail f p drams
  if d ≠ 0 then (opEnd f .eng 5 d, p)
  else
    let f := wrR f 0x105C (rdR f 0x1058)
    (putB f 0x104 2 true, { p with startAt := time40 f, startTrig := false })

/-- A pending start waits for a comparator: its number (R507). -/
def startWaits (f : Fabric) : Option Nat := if startPending f ∧ getB f 0x105C 0 then some (getF f 0x105C 3 1) else none

/-- TRIG[n] arrives at a pending start (R507): one before the end of preparation sets LATE_START. -/
def startFire (f : Fabric) (p : PwrState) (n : Nat) : Fabric × PwrState :=
  if startWaits f = some n ∧ !p.startTrig then
    let early := decide ((time40 f + 2 ^ 40 - p.startAt) % 2 ^ 40 < Config.prepNs % 100001)
    (putB f 0x1060 8 (getB f 0x1060 8 || early), { p with startTrig := true })
  else (f, p)

/-- An abort of START or STOP before its commit point (R73, R507). -/
def engAborted (f : Fabric) (p : PwrState) : Fabric × PwrState :=
  if opLast f .eng = 1 then (putB f 0x104 2 false, { p with startTrig := false }) else (f, { p with stopFrom := none })

/-- STOP is accepted (R508). -/
def engStop (f : Fabric) (p : PwrState) : Fabric × PwrState :=
  let f := opStart f .eng 2
  if running f then (f, { p with stopFrom := some (blockStart f + blockLen f) })
  else (opEnd f .eng 2 0, p)

/-- The MSC of the block boundary at or after a sample (R508). -/
def boundaryAt (f : Fabric) (m : Nat) : Nat := (m + blockLen f - 1) / blockLen f * blockLen f
/-- The MSC at which STOP ends the session (R508). -/
def stopEnd (f : Fabric) (p : PwrState) : Option Nat := p.stopFrom.map (fun s => boundaryAt f (s + 31))
/-- The MSC at which the shutdown ends the session (R502). -/
def shutEnd (f : Fabric) (p : PwrState) : Option Nat := p.shutFrom.map (fun s => boundaryAt f (s + shutLen f - 1))

/-- Q2.30 weight of an egress sample of MSC m under STOP and shutdown fades: the smaller where both run (R502, R508). -/
def egressWeight (f : Fabric) (p : PwrState) (fade32 : Nat → Int) (m : Nat) : Option Int :=
  let a := p.stopFrom.bind (fun s => if s ≤ m then some (if m < s + 32 then fade32 (m - s) else 0) else none)
  let n := shutLen f
  let b := p.shutFrom.bind (fun s => if s ≤ m then
    some (if m < s + n then rne ((2 ^ 30 : Int) * (n - (m - s) - 1 : Nat)) n else 0) else none)
  match a, b with
  | some x, some y => some (min x y)
  | some x, none => some x
  | none, b => b

/-- Resets of the PWR and THM pages (R511, R512); AON_TIMER and WAKE_SRC are RW and W1C fields like the others. -/
def pwrSoft (f : Fabric) (p : PwrState) : Fabric × PwrState := shedUpdate (softClear f pPWR (fun _ => false)) p
def thmSoft (f : Fabric) : Fabric := showAlert (softClear f pTHM (fun _ => false))

end Sys2Proof.Machine
end

