-- ==== Sys2Proof/Machine/StateRef.lean ====
section
/-! DEFINITION. The state of the reference monitors and the DPLL that no register shows (10). -/
namespace Sys2Proof.Machine

/-- The monitor of a reference (R323 to R328); MON is in REF_STAT. Times and phases are in 1/256 ns. -/
structure RefMon where
  /-- phase error of the last accepted edge; none before the first -/
  lastE : Option Int
  /-- time since the last accepted edge -/
  sinceAcc : Nat
  /-- time of the reference's edges, and the times of its last outliers on it, newest first -/
  clock : Nat
  outs : List Nat
  /-- accepted intervals of the last 10 s, newest first -/
  ivals : List Nat
  /-- the last 64 intervals between edges, newest first -/
  raw : List Nat
  /-- consecutive reversed PPS pulses -/
  rev : Nat
  /-- the reference has been QUALIFIED since reset -/
  once : Bool
  /-- build-out offset (R336) -/
  offset : Option Int
  /-- accepted edges not yet used by the loop, and the time they have taken (R320) -/
  skip : Nat
  wait : Nat
  /-- when the check began, and the last edges at which REF_FREQ was out of range and at which the rate was not the one
  required (R326) -/
  checkAt : Nat
  farAt : Option Nat
  rateAt : Option Nat
  deriving DecidableEq, Repr

def RefMon.reset : RefMon := ⟨none, 0, 0, [], [], [], 0, false, none, 0, 0, 0, none, none⟩

/-- Reference selection and the DPLL (10). -/
structure RefState where
  mons : List (Nat × RefMon)
  /-- control value, 2^-40 (R318) -/
  y : Int
  /-- y of the last accepted update (R335) -/
  yLast : Int
  /-- sum of the phase errors used by the loop, and the last one, 10^-8/256 ns -/
  integ : Int
  lastErr : Int
  /-- reference in use or targeted -/
  sel : Option Nat
  /-- the first accepted edge of the reference sets the build-out offset or the distance of the target phase -/
  fresh : Bool
  /-- distance of the moving target phase from the reference, 10^-8/256 ns (R337) -/
  dist : Int
  /-- one more than the time since the first update of an unbroken run of updates within LOCK_PHASE; 0 outside one (R341) -/
  lockFor : Nat
  /-- TBREF grid point in units of 2^-32/96000 ns, against the counter without its wraps (R322) -/
  grid : Int
  /-- records of the last 4200 seconds, newest first: mean and whether good (R334) -/
  recs : List (Int × Bool)
  /-- sum and number of the y of this second, and whether it was LOCKED throughout -/
  sum : Int
  num : Nat
  allLocked : Bool
  /-- ticks until R331 may change the selection again -/
  hold60 : Nat
  deriving DecidableEq, Repr

def RefState.reset : RefState where
  mons := []
  y := 0
  yLast := 0
  integ := 0
  lastErr := 0
  sel := none
  fresh := false
  dist := 0
  lockFor := 0
  grid := 0
  recs := []
  sum := 0
  num := 0
  allLocked := false
  hold60 := 0

end Sys2Proof.Machine
end

