-- ==== Sys2Proof/Machine/State.lean ====
section
/-! DEFINITION. The state of the OXZ1024: the queue of commands, the register fabric, and the state of every unit that no
register shows. State.reset is the device at the rise of RESET_N after power-on, every strap open (R509, R510, R533). -/
namespace Sys2Proof.Machine

/-- The machine's state. -/
structure State where
  /-- the commands that wait, first in first out -/
  pending : List Instr
  /-- registers, banks, interrupts, time, crumbs and counters (02, 05, 09, 17) -/
  fab : Fabric
  /-- DRAM, shared SRAM and keep SRAM, and the DRAM queues (15) -/
  mem : MemState
  /-- the bus matrix (15) -/
  bus : BusState
  /-- DMA channels and the QSPI target (02) -/
  host : HostState
  /-- power, thermal and engine control (16, 18) -/
  pwr : PwrState
  /-- the JTAG port (17, 18) -/
  tap : TapState
  /-- the path engine (03, 04) -/
  ren : RenderState
  /-- the samples of every stage (01) -/
  aud : Audio
  /-- the crosspoint matrix (05) -/
  mtx : MtxState
  /-- the speaker chains (06) -/
  chains : ChainState
  /-- input conditioning (07) -/
  inc : IncState
  /-- the Cheba cores (08) -/
  cores : CoreState
  /-- the timebase (09) -/
  tb : TbState
  /-- the reference monitors and the DPLL (10) -/
  ref : RefState
  /-- the serial ports (11) -/
  ports : PortState
  /-- the network ports (12) -/
  net : NetState
  /-- the stream engine (12) -/
  strm : StrmState
  /-- the Uhlyen links and the stack (13) -/
  stk : StkState
  /-- the trifle (14) -/
  tri : TriState
  deriving DecidableEq, Repr

/-- The reasons a step could stop with a fault. The specification gives every command of the table an effect, so no meaning
raises one; the type is closed and empty. -/
inductive Fault
  deriving DecidableEq, Repr

/-- The reasons a step could refuse. -/
inductive Refusal
  /-- Raised by an arm of exec whose command has no meaning yet (safe: nothing follows from a refusal); no arm is left. -/
  | notModelled (mnemonic : String)
  deriving DecidableEq, Repr

/-- The state right after a power-on reset: every register at its reset value, SYS.RST_CAUSE showing POR alone (R53), every
strap open, no session, the PLLs not yet locked. -/
def State.reset : State where
  pending := []
  fab := { Fabric.reset with regs := [(0x4C, 1#32)] }
  mem := MemState.reset
  bus := BusState.reset
  host := HostState.reset
  pwr := PwrState.reset
  tap := TapState.reset
  ren := RenderState.reset
  aud := Audio.reset
  mtx := MtxState.reset
  chains := ChainState.reset
  inc := IncState.reset
  cores := CoreState.reset
  tb := TbState.reset
  ref := RefState.reset
  ports := PortState.reset
  net := NetState.reset
  strm := StrmState.reset
  stk := StkState.reset
  tri := TriState.reset

end Sys2Proof.Machine
end

