-- ==== Sys2Proof/Machine/Ops.lean ====
section
/-! DEFINITION. The named operations over the whole state: which islands run, and the lifting of a unit's operation to the
state. Every meaning is one of these over the operations of its unit's file. -/
namespace Sys2Proof.Machine

/-- An outcome of the machine. -/
abbrev Out := Host.Outcome State Fault Refusal

/-- Every island except AON is held in reset: PWRGOOD or RESET_N low (R509, R569), OSC_IN lost (R557) or THERMTRIP (R503). -/
def isHeld (s : State) : Bool := !(s.pwr.pwrgood && s.pwr.resetN && s.pwr.osc) || s.pwr.tripped

/-- The islands of QUIET run: every one except EN and DS (R489, R491). -/
def isUp (s : State) : Bool := !isHeld s && (decide (s.pwr.state = .active) || decide (s.pwr.state = .quiet))

/-- EN and DS run (R489). -/
def isActive (s : State) : Bool := !isHeld s && decide (s.pwr.state = .active)

/-- The TB island runs with its PLL in lock: in every state but DEEP (R489, R510). -/
def tbRuns (s : State) : Bool := !isHeld s && !decide (s.pwr.state = .deep) && s.pwr.locked

/-- The step of a command that acts where a condition holds, and has no effect elsewhere. -/
def whenB (b : Bool) (s t : State) : Out := .next (if b then t else s)
/-- A command served by the islands that QUIET keeps running. -/
def whenUp (s t : State) : Out := whenB (isUp s) s t
/-- A command of the EN or DS island. -/
def whenActive (s t : State) : Out := whenB (isActive s) s t
/-- A command of the TB island. -/
def whenTb (s t : State) : Out := whenB (tbRuns s) s t

/-- Lifts an operation on the fabric. -/
def onF (s : State) (g : Fabric → Fabric) : State := { s with fab := g s.fab }
/-- Lifts an operation on the fabric and the memories. -/
def onMem (s : State) (g : Fabric → MemState → Fabric × MemState) : State :=
  { s with fab := (g s.fab s.mem).1, mem := (g s.fab s.mem).2 }
/-- Lifts an operation on the fabric and the power unit. -/
def onPwr (s : State) (g : Fabric → PwrState → Fabric × PwrState) : State :=
  { s with fab := (g s.fab s.pwr).1, pwr := (g s.fab s.pwr).2 }
/-- Lifts an operation on the fabric and the path engine. -/
def onRen (s : State) (g : Fabric → RenderState → Fabric × RenderState) : State :=
  { s with fab := (g s.fab s.ren).1, ren := (g s.fab s.ren).2 }
/-- Lifts an operation on the fabric and the matrix. -/
def onMtx (s : State) (g : Fabric → MtxState → Fabric × MtxState) : State :=
  { s with fab := (g s.fab s.mtx).1, mtx := (g s.fab s.mtx).2 }
/-- Lifts an operation on the fabric and the speaker chains. -/
def onChains (s : State) (g : Fabric → ChainState → Fabric × ChainState) : State :=
  { s with fab := (g s.fab s.chains).1, chains := (g s.fab s.chains).2 }
/-- Lifts an operation on the fabric and input conditioning. -/
def onInc (s : State) (g : Fabric → IncState → Fabric × IncState) : State :=
  { s with fab := (g s.fab s.inc).1, inc := (g s.fab s.inc).2 }
/-- Lifts an operation on the fabric and the cores. -/
def onCores (s : State) (g : Fabric → CoreState → Fabric × CoreState) : State :=
  { s with fab := (g s.fab s.cores).1, cores := (g s.fab s.cores).2 }
/-- Lifts an operation on the fabric and the timebase. -/
def onTb (s : State) (g : Fabric → TbState → Fabric × TbState) : State :=
  { s with fab := (g s.fab s.tb).1, tb := (g s.fab s.tb).2 }
/-- Lifts an operation on the fabric and the references. -/
def onRef (s : State) (g : Fabric → RefState → Fabric × RefState) : State :=
  { s with fab := (g s.fab s.ref).1, ref := (g s.fab s.ref).2 }
/-- Lifts an operation on the fabric and the serial ports. -/
def onPorts (s : State) (g : Fabric → PortState → Fabric × PortState) : State :=
  { s with fab := (g s.fab s.ports).1, ports := (g s.fab s.ports).2 }
/-- Lifts an operation on the fabric and the network ports. -/
def onNet (s : State) (g : Fabric → NetState → Fabric × NetState) : State :=
  { s with fab := (g s.fab s.net).1, net := (g s.fab s.net).2 }
/-- Lifts an operation on the fabric, the memories and the network ports. -/
def onNetMem (s : State) (g : Fabric → MemState → NetState → Fabric × MemState × NetState) : State :=
  { s with fab := (g s.fab s.mem s.net).1, mem := (g s.fab s.mem s.net).2.1, net := (g s.fab s.mem s.net).2.2 }
/-- Lifts an operation on the fabric and the streams. -/
def onStrm (s : State) (g : Fabric → StrmState → Fabric × StrmState) : State :=
  { s with fab := (g s.fab s.strm).1, strm := (g s.fab s.strm).2 }
/-- Lifts an operation on the fabric and the stack. -/
def onStk (s : State) (g : Fabric → StkState → Fabric × StkState) : State :=
  { s with fab := (g s.fab s.stk).1, stk := (g s.fab s.stk).2 }
/-- Lifts an operation on the fabric and the trifle. -/
def onTri (s : State) (g : Fabric → TriState → Fabric × TriState) : State :=
  { s with fab := (g s.fab s.tri).1, tri := (g s.fab s.tri).2 }
/-- Lifts an operation on the fabric, the trifle and the stack. -/
def onTriStk (s : State) (g : Fabric → TriState → StkState → Fabric × TriState × StkState) : State :=
  { s with fab := (g s.fab s.tri s.stk).1, tri := (g s.fab s.tri s.stk).2.1, stk := (g s.fab s.tri s.stk).2.2 }

/-- An error of a page without its unit's state (R44). -/
def failOn (s : State) (p code info : Nat) : State := onF s (fun f => fail f p code info)

/-- Every DRAM line of a range lies in a channel that is READY (R472). -/
def dramReadyRange (f : Fabric) (a n : Nat) : Bool := (linesOf a n).all (fun l => drcReady f (dramChan l))

end Sys2Proof.Machine
end

