-- ==== Sys2Proof/Machine/Render.lean ====
section
/-! DEFINITION. The Serririx path engine (03, 04): motion segments, geometry, panning, the interpolator and the speaker
buses, as functions of the fabric, the render state and the sample store. -/
namespace Sys2Proof.Machine

/-- REN active-bank word. -/
def renAct (f : Fabric) (a : Nat) : Word := rdAct f pREN a
/-- REN shadow-bank word. -/
def renShd (f : Fabric) (a : Nat) : Word := rdShd f pREN a
/-- The praline of an object in the REN window (R121). -/
def pralineAt (o : Nat) : Nat := 0x40_0000 + 0x40 * o
/-- The speaker table entry (R127). -/
def speakerAt (i : Nat) : Nat := 0x41_0000 + 0x20 * i
/-- The mesh entry (R128). -/
def meshAt (t : Nat) : Nat := 0x44_0000 + 0x40 * t

/-- The footprint width of a praline CTRL word (R121). -/
def fpWidth (ctrl : Word) : Nat :=
  let c := fld ctrl 9 8
  if c = 0 then 64 else if c = 1 then 128 else if c = 2 then 256 else 0

/-- G (R77). -/
def geoG (f : Fabric) : Nat := if rate96 f then 32 else 16
/-- D_MAX as a Q16.16 code (R94). -/
def dMax (f : Fabric) : Int := if rate96 f then 0x1FF8_0000 else 0x0FF8_0000

/-- K of R92 for a sound speed register and a rate. -/
def kOf (c fs : Nat) : Nat := (rne ((fs * 2 ^ 32 : Nat) : Int) (10 * max c 10000)).toNat
/-- REN.K (R92): the active SOUND_SPEED and the rate in force. -/
def renK (f : Fabric) : Nat := kOf (renAct f (ra pREN 0x40)).toNat (fsHz f)

/-- An object's state. -/
def objOf (r : RenderState) (o : Nat) : Obj := mget (fun _ => Obj.reset) r.objs o
/-- Writes an object's state. -/
def putObj (r : RenderState) (o : Nat) (x : Obj) : RenderState :=
  { r with objs := mset (fun _ => Obj.reset) r.objs o x }
/-- A path's state. -/
def pathOf (r : RenderState) (k : Nat) : Path := mget (fun _ => Path.reset) r.paths k
/-- Writes a path's state. -/
def putPath (r : RenderState) (k : Nat) (x : Path) : RenderState :=
  { r with paths := mset (fun _ => Path.reset) r.paths k x }

/-- The address of OBJ_STAT (R146). -/
def objStat (o : Nat) : Nat := ra (161 + o / 128) (0x40 + 8 * (o % 128))

/-- Sets flag k of an object and IRQ_RAW[k] (R115, R142). -/
def objFlag (f : Fabric) (o k : Nat) : Fabric := raise (putB f (objStat o) k true) pREN k
/-- Sets a flag where a condition holds. -/
def objFlagIf (c : Bool) (f : Fabric) (o k : Nat) : Fabric := if c then objFlag f o k else f

-- Capacity and admission (R136, R137)

/-- The objects with ENABLE in a bank, ascending, with their CTRL words. -/
def enabledObjs (f : Fabric) (b : Bool) : List (Nat × Word) :=
  ((if b then f.bank1 else f.bank0).filter (fun e =>
    decide (0x40_0000 ≤ e.1) && decide (e.1 < 0x41_0000) && decide (e.1 % 0x40 = 0) && bit e.2 0)).map
    (fun e => ((e.1 - 0x40_0000) / 0x40, e.2))

/-- The path demand of a bank (R136). -/
def demand (f : Fabric) (b : Bool) : Nat := ((enabledObjs f b).map (fun e => fpWidth e.2)).foldl (· + ·) 0

/-- Admission of the active bank's enabled objects, in ascending index (R137). -/
def admitObjs (f : Fabric) : List Nat :=
  ((enabledObjs f (actB f pREN)).foldl (fun (acc : List Nat × Nat) e =>
    let w := fpWidth e.2
    if e.1 < capObj f ∧ acc.2 + w ≤ capPath f then (acc.1 ++ [e.1], acc.2 + w) else acc) ([], 0)).1

/-- Clears NOT_ADMITTED of every object, then reports the admission of the active bank (R137). -/
def renAdmit (f : Fabric) : Fabric :=
  let f := (mfilter (fun k => decide (0xA_1000 ≤ k) && decide (k < 0xA_9000) && decide ((k % 0x1000 - 0x40) % 8 = 0)) f.regs).foldl
    (fun f e => putB f e.1 10 false) f
  let adm := admitObjs f
  let out := ((enabledObjs f (actB f pREN)).map (·.1)).filter (fun o => !adm.contains o)
  let f := out.foldl (fun f o => raise (putB f (objStat o) 10 true) pREN 10) f
  wrN f (ra pREN 0x70) adm.length

/-- An object of the active bank is enabled and admitted. -/
def objAdmitted (f : Fabric) (o : Nat) : Bool :=
  bit (renAct f (pralineAt o)) 0 && !getB f (objStat o) 10

-- Motion (R82 to R88)

/-- The position and gain of a segment at t (R82). -/
def segAt (x : Obj) (h : Seg) (s t : Int) : Int × Int × Int × Int :=
  let d := (h.arr - s).toNat
  let go (p a : Int) : Int := p + rne ((a - p) * (t - s)) d
  (go x.bx h.tx, go x.by_ h.ty, go x.bz h.tz, go x.bg h.tg)

/-- A segment becomes head at start s: a late one runs over one tick (R85). Answers whether it was late. -/
def becomeHead (g : Nat) (s : Int) (l : List Seg) : List Seg × Bool :=
  match l with
  | [] => ([], false)
  | h :: r => if h.arr ≤ s then ({ h with arr := s + g } :: r, true) else (h :: r, false)

/-- Retires heads whose arrival is at or before t (R83), counting late segments. -/
def retire (g : Nat) (t : Int) : Nat → Obj → Nat → Obj × Nat
  | 0, x, late => (x, late)
  | n + 1, x, late =>
    match x.segs with
    | [] => (x, late)
    | h :: r =>
      if h.arr ≤ t then
        let (q, l) := becomeHead g h.arr r
        let x' := { x with bx := h.tx, by_ := h.ty, bz := h.tz, bg := h.tg, segs := q,
                           start := if q.isEmpty then none else some h.arr }
        retire g t n x' (late + l.toNat)
      else (x, late)

/-- Holds the position and gain at t: on a segment by R82, else at the held target. -/
def settleAt (x : Obj) (t : Int) : Obj :=
  match x.segs, x.start with
  | h :: _, some s =>
    let p := segAt x h s t
    { x with px := p.1, py := p.2.1, pz := p.2.2.1, pg := p.2.2.2 }
  | _, _ => { x with px := x.bx, py := x.by_, pz := x.bz, pg := x.bg }

/-- A queue that waits for its first boundary starts at t from the position held (R84). -/
def startQueue (g : Nat) (t : Int) (x : Obj) : Obj × Nat :=
  if x.segs.isEmpty || x.start.isSome then (x, 0)
  else
    let (q, l) := becomeHead g t x.segs
    ({ x with bx := x.px, by_ := x.py, bz := x.pz, bg := x.pg, segs := q, start := some t }, l.toNat)

/-- The motion of one object at boundary t, with the number of late segments (R83, R84, R88). -/
def moveObj (g : Nat) (t : Int) (x : Obj) : Obj × Nat :=
  let (x, l1) := startQueue g t x
  let (x, l2) := retire g t 8 x 0
  let x := settleAt x t
  match x.pend with
  | none => (x, l1 + l2)
  | some q =>
    let (x, l3) := startQueue g t { x with segs := q, start := none, pend := none }
    (settleAt x t, l1 + l2 + l3)

/-- Reports an object's late segments (R85). -/
def reportLate (f : Fabric) (o : Nat) : Nat → Fabric
  | 0 => f
  | n + 1 => reportLate (bump (objFlag f o 0) (ra pREN 0x80)) o n

/-- The level a push or a status read reports (R88). -/
def queueLevel (x : Obj) : Nat := (x.pend.getD x.segs).length

/-- The position registers of an object (R147): P and g_obj at the boundary just evaluated. -/
def showPos (f : Fabric) (o : Nat) (x : Obj) : Fabric :=
  let p := ra (169 + o / 128) (0x40 + 0x10 * (o % 128))
  wrR (wrR (wrR (wrR f p (wordOf x.px)) (p + 4) (wordOf x.py)) (p + 8) (wordOf x.pz)) (p + 12) (wordOf x.pg)

/-- Every position register at 0, which an object at the origin with gain 0 shows. -/
def clearPos (f : Fabric) : Fabric :=
  (f.regs.filter (fun e => decide (0xA_9000 ≤ e.1) && decide (e.1 < 0xB_1000) && decide (0x40 ≤ e.1 % 0x1000))).foldl
    (fun f e => wrR f e.1 0) f

/-- OBJ_INFO of an object (R146): its queue level, its triangle and its pending full scan. -/
def objInfo (x : Obj) : Nat := x.tri.elim 0 (fun t => 2 ^ 31 + t * 2 ^ 16) + x.deferred.toNat * 16 + queueLevel x

-- Geometry (R90 to R105)

/-- A position word triple of the active bank. -/
def posAct (f : Fabric) (a : Nat) : Int × Int × Int := (posOf (renAct f a), posOf (renAct f (a + 4)), posOf (renAct f (a + 8)))

/-- The distance of two points in Q25.7 mm (R91). -/
def dist7 (p q : Int × Int × Int) : Nat :=
  let dx := p.1 - q.1
  let dy := p.2.1 - q.2.1
  let dz := p.2.2 - q.2.2
  rsqrt ((dx * dx + dy * dy + dz * dz).toNat * 2 ^ 14)

/-- The listener reference point of the active bank. -/
def listener (f : Fabric) : Int × Int × Int := posAct f (ra pREN 0x4C)

/-- R_UNITY, clamped (R90). -/
def rUnity (f : Fabric) : Nat := max 1 (fld (renAct f (ra pREN 0x48)) 22 0)
/-- R_REF (R90). -/
def rRef (f : Fabric) : Nat := fld (renAct f (ra pREN 0x44)) 22 0

/-- β of a praline, clamped (R90). -/
def blendOf (f : Fabric) (o : Nat) : Int := (min 32768 (fld (renAct f (pralineAt o + 0x14)) 15 0) : Nat)
/-- σ of a praline in half degrees, clamped (R90). -/
def spreadOf (f : Fabric) (o : Nat) : Nat := min 360 (fld (renAct f (pralineAt o + 0x14)) 24 16)
/-- r_nf of a praline in mm, clamped (R90). -/
def nfOf (f : Fabric) (o : Nat) : Nat := max 100 (fld (renAct f (pralineAt o + 0x18)) 15 0)

/-- The raw path delay of R93 as a Q16.16 code, before clamping. -/
def rawDelay (k ref : Nat) (beta : Int) (d dL : Nat) : Int :=
  let r : Int := (ref : Int) * 128
  rne ((k : Int) * (((d : Int) - r) * (32768 - beta) + ((dL : Int) - r) * beta)) (2 ^ 38)

/-- The wavefront weight of R95: Q2.30 and whether it saturated. -/
def wfWeight (n diff : Int × Int × Int) (d : Nat) : Int × Bool :=
  if d = 0 then (2 ^ 30, false)
  else
    let dot := n.1 * diff.1 + n.2.1 * diff.2.1 + n.2.2 * diff.2.2
    if dot ≤ 0 then (0, false)
    else
      let w := rne (dot * 2 ^ 23) d
      if w > 0xFFFF_FFFF then (0xFFFF_FFFF, true) else (w, false)

/-- The distance factor of R96: Q4.28 and whether it saturated. -/
def distFactor (unity nf d : Nat) : Int × Bool :=
  let a := rne ((unity * 2 ^ 35 : Nat) : Int) (max d (nf * 128))
  if a > 0x7FFF_FFFF then (0x7FFF_FFFF, true) else (a, false)

/-- The direction of an object from L (R98); none keeps the previous one. -/
def direction (p l : Int × Int × Int) (dL : Nat) : Option (Int × Int × Int) :=
  if dL < 128 then none
  else
    let c (x : Int) : Int := rne (x * 2 ^ 37) dL
    some (c (p.1 - l.1), c (p.2.1 - l.2.1), c (p.2.2 - l.2.2))

/-- h of R99 for a triangle: each sum rounded once to Q4.28 and saturated. -/
def triH (f : Fabric) (t : Nat) (u : Int × Int × Int) : List Int :=
  (upto 3).map (fun r =>
    let m (c : Nat) : Int := intOf (renAct f (meshAt t + 0x10 + 0xC * r + 4 * c))
    satS 32 (rne (m 0 * u.1 + m 1 * u.2.1 + m 2 * u.2.2) (2 ^ 30)))

/-- T contains u (R99). -/
def contains3 (h : List Int) : Bool := h.all (fun x => decide (x ≥ -256))
/-- A triangle's VALID bit (R128). -/
def triValid (f : Fabric) (t : Nat) : Bool := bit (renAct f (meshAt t + 4)) 31

/-- The index of the most negative h, ties to the lowest (R100). -/
def worstH (h : List Int) : Nat :=
  ((upto 3).foldl (fun (b : Nat × Int) k => if h.getD k 0 < b.2 then (k, h.getD k 0) else b) (0, h.getD 0 0)).1
/-- The smallest h. -/
def minH (h : List Int) : Int := h.getD (worstH h) 0

/-- The neighbour opposite vertex k, none at an edge without one or with an invalid one (R128, R129). -/
def neighbour (f : Fabric) (t k : Nat) : Option Nat :=
  let w8 := renAct f (meshAt t + 8)
  let w := if k = 2 then renAct f (meshAt t + 0xC) else w8
  let (i, none?) := if k = 1 then (fld w 27 16, bit w 31) else (fld w 11 0, bit w 15)
  if none? || !triValid f i then none else some i

/-- The walk of R100: up to n moves. -/
def walk (f : Fabric) (u : Int × Int × Int) : Nat → Nat → Option (Nat × List Int)
  | 0, _ => none
  | n + 1, t =>
    match neighbour f t (worstH (triH f t u)) with
    | none => none
    | some t' =>
      let h := triH f t' u
      if contains3 h then some (t', h) else walk f u n t'

/-- Stages 1 and 2 of R100. -/
def nearSearch (f : Fabric) (u : Int × Int × Int) (t : Nat) : Option (Nat × List Int) :=
  if !triValid f t then none
  else
    let h := triH f t u
    if contains3 h then some (t, h) else walk f u 8 t

/-- Every valid triangle of the active mesh, in index order. -/
def validTris (f : Fabric) : List Nat :=
  ((if actB f pREN then f.bank1 else f.bank0).filter (fun e =>
    decide (0x44_0000 ≤ e.1) && decide (e.1 < 0x48_0000) && decide (e.1 % 0x40 = 4) && bit e.2 31)).map
    (fun e => (e.1 - 0x44_0000) / 0x40)

/-- The full scan of R100 and R102: the triangle, its h, and whether u lies outside the mesh. -/
def fullScan (f : Fabric) (u : Int × Int × Int) : Option (Nat × List Int) × Bool :=
  let c := (validTris f).map (fun t => (t, triH f t u))
  match c.find? (fun e => contains3 e.2) with
  | some e => (some e, false)
  | none =>
    match c with
    | [] => (none, true)
    | e :: r => (some (r.foldl (fun b x => if minH x.2 > minH b.2 then x else b) e), true)

/-- The speakers an object's footprint names in each entry, none for a slot that renders nothing (R124, R125). -/
def footprint (f : Fabric) (o : Nat) : List (Option Nat) :=
  let ctrl := renAct f (pralineAt o)
  (upto (fpWidth ctrl)).map (fun e =>
    let w := renAct f (0x42_0000 + 0x80 * fld ctrl 25 16 + e / 2 * 4)
    let s := if e % 2 = 0 then fld w 15 0 else fld w 31 16
    if s.testBit 15 then
      if s % 1024 < capChain f then some (s % 1024) else none
    else none)

/-- A footprint slot names a speaker beyond the row (R125). -/
def footprintBeyond (f : Fabric) (o : Nat) : Bool :=
  let ctrl := renAct f (pralineAt o)
  (upto (fpWidth ctrl)).any (fun e =>
    let w := renAct f (0x42_0000 + 0x80 * fld ctrl 25 16 + e / 2 * 4)
    let s := if e % 2 = 0 then fld w 15 0 else fld w 31 16
    s.testBit 15 && decide (capChain f ≤ s % 1024))

/-- The distinct speakers of a footprint, each once (R103). -/
def fpSpeakers (fp : List (Option Nat)) : List Nat :=
  fp.foldl (fun l s => match s with
    | some i => if l.contains i then l else l ++ [i]
    | none => l) []

/-- The unit direction of a speaker from L, Q2.30 (R104). -/
def spkDir (f : Fabric) (i : Nat) : Int × Int × Int :=
  let s := posAct f (speakerAt i)
  let l := listener f
  let d := (s.1 - l.1, s.2.1 - l.2.1, s.2.2 - l.2.2)
  let n := (d.1 * d.1 + d.2.1 * d.2.1 + d.2.2 * d.2.2).toNat
  if n ≤ 1 then (0, 0, 0) else (divSqrt 30 d.1 n, divSqrt 30 d.2.1 n, divSqrt 30 d.2.2 n)

/-- The amplitude gains g_a of the footprint's speakers (R103, R104), and whether a triangle speaker is missing. -/
def ampGains (f : Fabric) (o : Nat) (spks : List Nat) (u : Int × Int × Int) (t : Option (Nat × List Int)) :
    List (Nat × Int) × Bool :=
  let (verts, hp) := match t with
    | none => ([], [])
    | some (i, h) =>
      let w0 := renAct f (meshAt i)
      let w1 := renAct f (meshAt i + 4)
      ([fld w0 9 0, fld w0 25 16, fld w1 9 0], h.map (fun x => max 0 x))
  let sum := (hp.map (fun x => (x * x).toNat)).foldl (· + ·) 0
  let e := if sum = 0 then [] else (verts.zip hp).map (fun p => (p.1, divSqrt 30 p.2 sum))
  let miss := verts.any (fun j => !spks.contains j)
  let sigma := spreadOf f o
  let base := spks.map (fun j => (j, ((e.filter (fun p => p.1 == j)).map (·.2)).foldl (· + ·) 0))
  if sigma = 0 then (base, miss)
  else
    let cs := round160 30 (cosTurn sigma 720)
    let e' := base.map (fun p =>
      let v := spkDir f p.1
      let ca := rne (u.1 * v.1 + u.2.1 * v.2.1 + u.2.2 * v.2.2) (2 ^ 30)
      let tj := if ca > cs then rne ((ca - cs) * (ca - cs) * 2 ^ 30) (((2 ^ 30 - cs) * (2 ^ 30 - cs)).toNat) else 0
      (p.1, p.2 + tj))
    let s2 := (e'.map (fun p => (p.2 * p.2).toNat)).foldl (· + ·) 0
    if s2 = 0 then (e'.map (fun p => (p.1, 0)), miss) else (e'.map (fun p => (p.1, divSqrt 30 p.2 s2)), miss)

/-- The result of the panning search of one object at a boundary. -/
structure Pan where
  amp : List (Nat × Int)
  tri : Option Nat
  deferred : Bool
  outside : Bool
  miss : Bool
  deriving DecidableEq, Repr

/-- The panning of an object from a found triangle. -/
def panFrom (f : Fabric) (o : Nat) (spks : List Nat) (u : Int × Int × Int) (t : Option (Nat × List Int)) (outside : Bool) :
    Pan :=
  let (a, m) := ampGains f o spks u t
  ⟨a, t.map (·.1), false, outside, m⟩

/-- What one path aims at: gain and delay with the flags of its evaluation (R93 to R96, R105). -/
structure Aim where
  g : Int
  tau : Int
  low : Bool
  high : Bool
  gsat : Bool
  w : Int
  deriving DecidableEq, Repr

/-- The geometry of one path (R91 to R96, R105). -/
def aimOf (f : Fabric) (o : Nat) (x : Obj) (amp : List (Nat × Int)) (i : Nat) : Aim :=
  let p := (x.px, x.py, x.pz)
  let s := posAct f (speakerAt i)
  let l := listener f
  let d := dist7 p s
  let dL := dist7 p l
  let beta := blendOf f o
  let ctrl := renAct f (pralineAt o)
  let raw := if bit ctrl 1 then rawDelay (renK f) (rRef f) beta d dL else 0
  let tau := if raw < 0 then 0 else if raw > dMax f then dMax f else raw
  let nw := renAct f (speakerAt i + 0xC)
  let nz := renAct f (speakerAt i + 0x10)
  let n := (sx 16 (fld nw 15 0), sx 16 (fld nw 31 16), sx 16 (fld nz 15 0))
  let (w, s1) := wfWeight n (s.1 - p.1, s.2.1 - p.2.1, s.2.2 - p.2.2) d
  let (ai, s2) := distFactor (rUnity f) (nfOf f o) d
  let gw0 := rne (w * ai) (2 ^ 30)
  let gw := if gw0 > 0x7FFF_FFFF then 0x7FFF_FFFF else gw0
  let ga := ((amp.find? (fun e => e.1 == i)).map (·.2)).getD 0
  let (aL, s3) := distFactor (rUnity f) (nfOf f o) dL
  let amp58 := if bit ctrl 2 then ga * aL else ga * 2 ^ 28
  let num := x.pg * intOf (renAct f (speakerAt i + 0x14)) * ((32768 - beta) * (gw * 2 ^ 30) + beta * amp58)
  let g0 := rne num (2 ^ 101)
  let on := bit nz 16 && bit ctrl 0
  { g := if on then satS 32 g0 else 0
    tau := tau
    low := decide (raw < 0)
    high := decide (raw > dMax f)
    gsat := s1 || s2 || decide (gw0 > 0x7FFF_FFFF) || (bit ctrl 2 && s3) || (on && satHits 32 g0)
    w := w }

/-- Whether an object's geometry is evaluated at a boundary: it is enabled and admitted, and not shed (R137, R140, R498). -/
def objGeo (f : Fabric) (o : Nat) : Bool := objAdmitted f o && !(isShed f 2 && bit (renAct f (pralineAt o)) 3)

/-- Whether an object's paths are active at a boundary (R109, R137, R140, R498): geometry goes on while REN is not enabled. -/
def objRenders (f : Fabric) (o : Nat) : Bool := objGeo f o && enabled f pREN

/-- The delay carried into the next tick (R107) and whether it was limited. -/
def slew (g : Nat) (t0 t1 : Int) : Int × Bool :=
  let lim : Int := (g : Int) / 4 * 65536
  if t1 - t0 > lim then (t0 + lim, true) else if t0 - t1 > lim then (t0 - lim, true) else (t1, false)

/-- One path over the tick that ends at boundary t (R106 to R110). want is the speaker its entry names, where it renders. -/
def stepPath (f : Fabric) (o : Nat) (x : Obj) (amp : List (Nat × Int)) (t : Nat) (p : Path) (want : Option Nat) :
    Path × Bool :=
  let g := geoG f
  let keep := p.ticks.take 3
  match p.cur, want with
  | none, none => (⟨none, keep⟩, false)
  | none, some b =>
    let a := aimOf f o x amp b
    (⟨some (b, a.g, a.tau), ⟨t - g, b, 0, a.g, a.tau, a.tau⟩ :: keep⟩, false)
  | some (s, g0, t0), want =>
    let a := aimOf f o x amp s
    let (t1, hit) := slew g t0 a.tau
    if want = some s then (⟨some (s, a.g, t1), ⟨t - g, s, g0, a.g, t0, t1⟩ :: keep⟩, hit)
    else (⟨none, ⟨t - g, s, g0, 0, t0, t1⟩ :: keep⟩, hit)

/-- The objects that hold state or are enabled, ascending. -/
def liveObjs (f : Fabric) (r : RenderState) : List Nat :=
  (upto 1024).filter (fun o =>
    r.objs.any (fun e => e.1 == o) || bit (renAct f (pralineAt o)) 0 || r.paths.any (fun e => e.1 / 256 == o))

/-- The motion of every object at boundary t (R83). -/
def moveAll (f : Fabric) (r : RenderState) (t : Nat) : Fabric × RenderState :=
  r.objs.foldl (fun (acc : Fabric × RenderState) e =>
    let (x, late) := moveObj (geoG f) t e.2
    (reportLate acc.1 e.1 late, putObj acc.2 e.1 x)) (f, r)

/-- The new direction of an object (R98). -/
def turnObj (f : Fabric) (x : Obj) : Obj :=
  let p := (x.px, x.py, x.pz)
  match direction p (listener f) (dist7 p (listener f)) with
  | none => x
  | some u => { x with ux := u.1, uy := u.2.1, uz := u.2.2 }

/-- The panning of one object before full scans: none where a full scan is needed (R100). -/
def panNear (f : Fabric) (o : Nat) (x : Obj) (spks : List Nat) : Option Pan :=
  if blendOf f o = 0 then some ⟨[], none, false, false, false⟩
  else match x.tri with
    | none => none
    | some t => (nearSearch f (x.ux, x.uy, x.uz) t).map (fun r => panFrom f o spks (x.ux, x.uy, x.uz) (some r) false)

/-- The objects whose full scan is made at this boundary: deferred ones first, at most 64 (R101). -/
def scanOrder (need : List (Nat × Bool)) : List Nat :=
  ((need.filter (·.2)).map (·.1) ++ (need.filter (fun e => !e.2)).map (·.1)).take 64

/-- One object's panning and paths at boundary t (R97 to R110). -/
def geoObj (t : Nat) (scans : List Nat) (acc : Fabric × RenderState) (o : Nat) : Fabric × RenderState :=
  let f := acc.1
  let r := acc.2
  let x := turnObj f (objOf r o)
  let fp := footprint f o
  let rend := objGeo f o
  let live := objRenders f o
  let spks := fpSpeakers fp
  let u := (x.ux, x.uy, x.uz)
  let pan :=
    if !rend then (⟨x.amp, if blendOf f o = 0 then none else x.tri, false, false, false⟩ : Pan)
    else match panNear f o x spks with
      | some p => p
      | none =>
        if scans.contains o then
          let (c, out) := fullScan f u
          let c' := if out then c.map (fun e => (e.1, e.2.map (fun h => max 0 h))) else c
          panFrom f o spks u c' out
        else ⟨x.amp, x.tri, true, false, false⟩
  let x := { x with amp := pan.amp, tri := pan.tri, deferred := pan.deferred }
  let aims := if rend then spks.map (fun i => aimOf f o x pan.amp i) else []
  let f := objFlagIf (aims.any (·.low)) f o 3
  let f := objFlagIf (aims.any (·.high)) f o 4
  let f := objFlagIf (aims.any (·.gsat)) f o 6
  let f := objFlagIf (rend && decide (blendOf f o < 32768) && aims.all (fun a => decide (a.w = 0))) f o 7
  let f := objFlagIf pan.outside f o 8
  let f := objFlagIf pan.miss f o 9
  let f := if rend && pan.deferred then bump f (ra pREN 0x8C) else f
  let f := if rend && footprintBeyond f o then raise (putB f (ra pREN 0x74) 1 true) pREN 12 else f
  let r := putObj r o x
  let width := if rend then fp.length else 256
  let res := (upto (max width 256)).foldl (fun (a : RenderState × Nat) e =>
    let p := pathOf a.1 (o * 256 + e)
    let want := if live then (fp.getD e none) else none
    if p = Path.reset ∧ want = none then a
    else
      let (p', hit) := stepPath f o x pan.amp t p want
      (putPath a.1 (o * 256 + e) p', a.2 + hit.toNat)) (r, 0)
  let f := objFlagIf (decide (res.2 > 0)) f o 5
  let f := bump f (ra pREN 0x88) res.2
  (showPos f o x, res.1)

/-- At the first boundary after engine start, a soft reset or a mesh swap no object has a previous triangle (R100). -/
def freshTris (r : RenderState) : RenderState :=
  if r.meshNew then { r with objs := r.objs.map (fun e => (e.1, { e.2 with tri := none })), meshNew := false } else r

/-- The evaluation of one tick boundary (R78, R83, R91 to R110, R147). -/
def geoBoundary (f : Fabric) (r : RenderState) : Fabric × RenderState :=
  let t := r.nextB
  let (f, r) := moveAll (clearPos f) (freshTris r) t
  let live := liveObjs f r
  let need := (live.filter (fun o => objGeo f o && blendOf f o != 0 &&
      (panNear f o (turnObj f (objOf r o)) (fpSpeakers (footprint f o))).isNone)).map
      (fun o => (o, (objOf r o).deferred))
  let (f, r) := live.foldl (geoObj t (scanOrder need)) (f, r)
  let f := putB f (ra pREN 0x74) 3 (live.any (fun o => (objOf r o).deferred))
  (f, { r with nextB := t + geoG f, settled := true })

/-- The render stage of a wall block that starts at MSC w: up to n boundaries in ascending order, those (j + 1)G whose jG the
render block holds (R78). -/
def geoStage (w : Nat) : Nat → Fabric → RenderState → Fabric × RenderState
  | 0, f, r => (f, r)
  | n + 1, f, r =>
    if r.nextB < w + geoG f then
      let x := geoBoundary f r
      geoStage w n x.1 x.2
    else (f, r)

-- The interpolator and the buses (R111 to R114)

/-- A table word that is left open (log 10): any Q2.22 value; row 0 ends in 0, so that row 256 can be row 0 shifted. -/
def freeTap (p k : Nat) : Int := if p = 0 ∧ k = 7 then 0 else sx 24 (ux 24 (Config.interp p k))

/-- The taps of a row of which only taps 3 and 4 are not free (R111, R112): these two make the row sum to 2^22 and its delay
3 + p/256 samples at 0 Hz within 0.01 sample. A row whose two taps leave Q2.22 is the linear one. -/
def rowTaps (p : Nat) : List Int :=
  let h := (upto 8).map (freeTap p)
  let others := [0, 1, 2, 5, 6, 7]
  let s0 := isum (others.map (fun k => h.getD k 0))
  let s1 := isum (others.map (fun k : Nat => (k : Int) * h.getD k 0))
  let err := Config.interp p 8 % 83887 - 41943
  let h4 := (p : Int) * 2 ^ 14 + err - s1 + 3 * s0
  let h3 := 2 ^ 22 - s0 - h4
  if satHits 24 h3 || satHits 24 h4 then (upto 8).map (fun k => if k = 3 then 2 ^ 22 - (p : Int) * 2 ^ 14 else if k = 4 then (p : Int) * 2 ^ 14 else 0)
  else (h.set 3 h3).set 4 h4

/-- The interpolator table (R111, R112, R132): row 256 is row 0 shifted by one tap. -/
def hTap (p k : Nat) : Int :=
  if p = 256 then (if k = 0 then 0 else (rowTaps 0).getD (k - 1) 0) else (rowTaps p).getD k 0

/-- A coefficient between phases (R111). -/
def coefAt (phi k : Nat) : Int :=
  let p := phi / 256
  let a : Int := ((phi % 256 : Nat) : Int)
  hTap p k + rne ((hTap (p + 1) k - hTap p k) * a) 256

/-- The history sample of an object at a render MSC is lost in this block (R135). -/
def pastLost (fails : List MemFail) (o : Nat) (t : Int) : Bool :=
  fails.any (fun g => match g with
    | .past p x _ => p == o && (x : Int) == t
    | _ => false)

/-- A history word, 0 where it is read with an uncorrectable error (R134, R135). -/
def histAt (fails : List MemFail) (a : Audio) (o : Nat) (t : Int) : Int :=
  if pastLost fails o t then 0 else sample a t (idHist o)

/-- The interpolator's output at render MSC m for delay code tau, from the history x (R111, R113). -/
def interpAt (x : Int → Int) (m : Nat) (tau : Int) : Int :=
  let n := tau / 65536
  let phi := (tau % 65536).toNat
  satS 32 (rshr (isum ((upto 8).map (fun k => coefAt phi k * x ((m : Int) - n - k)))) 22)

/-- The gain and delay of a path at render MSC m (R106). -/
def tickAt (g : Nat) (p : Path) (m : Nat) : Option (Nat × Int × Int) :=
  (p.ticks.find? (fun k => decide (k.m0 ≤ m) && decide (m < k.m0 + g))).map (fun k =>
    let i : Int := ((m - k.m0 : Nat) : Int)
    (k.spk, k.g0 + rne ((k.g1 - k.g0) * i) g, k.t0 + rne ((k.t1 - k.t0) * i) g))

/-- The path-sample of a path at render MSC m, with its speaker (R113). -/
def pathSample (g : Nat) (x : Int → Int) (p : Path) (m : Nat) : Option (Nat × Int) :=
  (tickAt g p m).map (fun s => (s.1, gainMul (interpAt x m s.2.2) s.2.1))

/-- A path reads the history sample of render MSC t for the block of b samples at render MSC m0 (R111). -/
def pathReads (g b m0 : Nat) (p : Path) (t : Nat) : Bool :=
  (upto b).any (fun i => (tickAt g p (m0 + i)).any (fun s =>
    decide ((t : Int) ≤ (m0 + i : Nat) - s.2.2 / 65536) && decide ((m0 + i : Nat) - s.2.2 / 65536 < (t : Int) + 8)))

/-- The errors of history words that the block's paths read, reported (R135, R476). -/
def reportPast (f : Fabric) (r : RenderState) (fails : List MemFail) (m0 : Nat) : Fabric :=
  fails.foldl (fun f g => match g with
    | .past o t w =>
      if r.paths.any (fun e => e.1 / 256 == o && pathReads (geoG f) (blockLen f) m0 e.2 t) then sramError f 0 w false else f
    | _ => f) f

/-- Adds a path-sample to the exact bus sums. -/
def addBus (acc : List (Nat × Int)) (s : Option (Nat × Int)) : List (Nat × Int) :=
  match s with
  | none => acc
  | some (i, v) => mset zeroI acc i (mget zeroI acc i + v)

/-- The speaker buses of one render MSC, written at wall MSC w (R113): saturated sums and the speakers that saturated. -/
def busSample (f : Fabric) (r : RenderState) (a : Audio) (fails : List MemFail) (m w : Nat) : Audio × List Nat :=
  let sums := if ready f pREN then
    r.paths.foldl (fun acc e => addBus acc (pathSample (geoG f) (histAt fails a (e.1 / 256)) e.2 m)) [] else []
  sums.foldl (fun (x : Audio × List Nat) e =>
    (putSample x.1 w (0x5000 + e.1) (satS 32 e.2), if satHits 32 e.2 then x.2 ++ [e.1] else x.2)) (a, [])

/-- The render stage's block: wall MSCs w to w + B - 1 (R76, R113), with the memory errors of the block (R135). -/
def renderBlock (f : Fabric) (r : RenderState) (a : Audio) (fails : List MemFail) : Fabric × Audio :=
  let b := blockLen f
  let w := blockStart f
  let res := (upto b).foldl (fun (x : Audio × List Nat) i =>
    let (a', s) := busSample f r x.1 fails (w + i - b) (w + i)
    (a', x.2 ++ s.filter (fun n => !x.2.contains n))) (a, [])
  (reportPast (res.2.foldl (fun f _ => bump (raise f pREN 11) (ra pREN 0x90)) f) r fails (w - b), res.1)

-- Segment pushes (R81, R86 to R88, R143 to R145)

/-- The push's outcome: RESULT of SEG_RESULT. -/
def pushResult (f : Fabric) (r : RenderState) (o : Nat) (tns mscF : Bool) (mode : Nat) (arr : Int) : Nat :=
  let x := objOf r o
  let q := (x.pend.getD x.segs)
  let est : Int := if mode = 2 then latchMsc f else match q.getLast? with
    | some s => s.arr
    | none => latchMsc f
  if !running f then 6
  else if capObj f ≤ o then 5
  else if tns == mscF || (mode != 1 && mode != 2) then 4
  else if mode = 1 ∧ 4 ≤ q.length then 2
  else if arr > est + 2 ^ 24 then 3
  else 1

/-- The queue after an accepted push (R84, R88). -/
def pushQueue (x : Obj) (mode : Nat) (s : Seg) : Obj :=
  if mode = 2 then { x with pend := some [s] }
  else match x.pend with
    | some q => { x with pend := some (q ++ [s]) }
    | none => { x with segs := x.segs ++ [s] }

/-- A segment push of requester q (R81, R86 to R88, R144). -/
def pushSegment (f : Fabric) (r : RenderState) (q : Nat) (tns mscF : Bool) (mode : Nat) : Fabric × RenderState :=
  if !ready f pREN then (fail f pREN 1 0xBC, r)
  else
    let g (off : Nat) : Word := rdO f q (ra pREN off)
    let o := fld (g 0xA0) 9 0
    let arr : Int := if tns then mscOfTime f (g 0xB4).toNat else (((g 0xB8).toNat * 2 ^ 32 + (g 0xB4).toNat : Nat) : Int)
    let res := pushResult f r o tns mscF mode arr
    let seg : Seg := ⟨posOf (g 0xA4), posOf (g 0xA8), posOf (g 0xAC), intOf (g 0xB0), arr⟩
    let x := objOf r o
    let x' := if res = 1 then pushQueue x mode seg else x
    let f := if res = 2 then bump (objFlag f o 1) (ra pREN 0x84)
      else if res = 3 ∨ res = 4 then bump (objFlag f o 2) (ra pREN 0x84)
      else if res = 5 then bump f (ra pREN 0x84) else f
    let f := wrO f q (ra pREN 0xC0) (BitVec.ofNat 32 (queueLevel x' * 2 ^ 16 + o * 16 + res))
    if res = 1 then (f, putObj r o x') else (f, r)

-- Engine start, soft reset, swaps (R80, R122, R131, R134, R140)

/-- An object at its praline's initial fields (R122). -/
def initObj (f : Fabric) (o : Nat) : Obj :=
  let p := posAct f (pralineAt o + 4)
  let g := intOf (renAct f (pralineAt o + 0x10))
  { Obj.reset with px := p.1, py := p.2.1, pz := p.2.2, pg := g, bx := p.1, by_ := p.2.1, bz := p.2.2, bg := g }

/-- Every object and path as at engine start, with the first boundary after the session's first block (R80). -/
def renRestart (f : Fabric) (r : RenderState) (firstMsc : Nat) : Fabric × RenderState :=
  let os := (upto 1024).filter (fun o => initObj f o != Obj.reset)
  let r' : RenderState := { r with
    objs := os.map (fun o => (o, initObj f o)), paths := [], nextB := (firstMsc / geoG f + 1) * geoG f, settled := false,
    meshNew := true }
  (f, r')

/-- The history zeroed (R134). -/
def zeroHistory (a : Audio) : Audio := dropLine a (fun k => decide (0x1_0000 ≤ k) && decide (k < 0x2_0000))

/-- REN[0] soft reset's effect on the engine (R140). -/
def renSoft (f : Fabric) (r : RenderState) (a : Audio) : Fabric × RenderState × Audio :=
  let f := (mfilter (fun k => decide (0xA_1000 ≤ k) && decide (k < 0xA_9000) && decide ((k % 0x1000 - 0x40) % 8 = 0)) f.regs).foldl
    (fun f e => putF f e.1 9 0 0) f
  let (f, r) := renRestart f r (blockStart f)
  (f, r, zeroHistory a)

/-- What a swap does to the render state: objects enabled from 0 to 1 with an empty queue take their initial fields
(R122); a mesh swap makes every search start with a full scan (R131). -/
def renSwap (f : Fabric) (r : RenderState) (wasOn : Nat → Bool) (mesh : Bool) : Fabric × RenderState :=
  let os := (enabledObjs f (actB f pREN)).map (·.1)
  let fresh := os.filter (fun o => !wasOn o && queueLevel (objOf r o) == 0)
  let r := fresh.foldl (fun r o => putObj r o
    { initObj f o with tri := (objOf r o).tri, ux := (objOf r o).ux, uy := (objOf r o).uy, uz := (objOf r o).uz }) r
  (renAdmit f, { r with meshNew := r.meshNew || mesh })

/-- Segment queues emptied at engine stop (R145): each object holds its last position. -/
def renStop (f : Fabric) (r : RenderState) : Fabric × RenderState :=
  (f, { r with objs := r.objs.map (fun e => (e.1, { e.2 with
    segs := [], pend := none, start := none, bx := e.2.px, by_ := e.2.py, bz := e.2.pz, bg := e.2.pg })) })

/-- A praline CTRL write's check (R123): the error code, 0 where accepted. -/
def pralineCheck (f : Fabric) (o : Nat) (w : Word) : Nat :=
  let wd := fpWidth w
  let base := fld w 25 16
  let old := renShd f (pralineAt o)
  let dOld := demand f (!actB f pREN)
  let cur := if bit old 0 then fpWidth old else 0
  let new := if bit w 0 then wd else 0
  let dNew := dOld - cur + new
  if wd = 0 ∨ base % (wd / 64) ≠ 0 ∨ base + wd / 64 > 1024 then 0x0102
  else if bit w 0 ∧ capObj f ≤ o then 0x0101
  else if capPath f < dNew ∧ dOld < dNew then 0x0100
  else 0

end Sys2Proof.Machine
end

