-- ==== Sys2Proof/Machine/Ports.lean ====
section
/-! DEFINITION. Serial audio ports and clock generators (11), as functions of the fabric, the port state and the sample store. -/
namespace Sys2Proof.Machine

def cgOf (x : PortState) (i : Nat) : Cgen := mget (fun _ => Cgen.reset) x.cgs i
def setCg (x : PortState) (i : Nat) (v : Cgen) : PortState := { x with cgs := mset (fun _ => Cgen.reset) x.cgs i v }

/-- The offset of a CG register. -/
def cgAt (i off : Nat) : Nat := ra (pCG i) off
/-- The offset of a SAP register. -/
def sapAt (p off : Nat) : Nat := ra (pSAP p) off
/-- The offset of a start group's register. -/
def sgAt (g off : Nat) : Nat := ra (pCG 0) (0x100 + 0x10 * g + off)
/-- CG_STAT.STATE: 0 OFF, 1 WAIT, 2 RUN, 3 NO_CLOCK, 4 PLL_FAULT, 5 STOPPING (R363). -/
def cgSt (f : Fabric) (i : Nat) : Nat := getF f (cgAt i 0x50) 2 0
/-- CG_STAT.CLASS: 0 SYNC_FS, 1 SYNC_MULT, 2 FOREIGN (R348). -/
def cgClass (f : Fabric) (i : Nat) : Nat := getF f (cgAt i 0x50) 5 4

-- Configuration (R345 to R348, R363)

def cgCfg (f : Fabric) (i : Nat) : Word := rdR f (cgAt i 0x40)
def cgSlave (f : Fabric) (i : Nat) : Bool := bit (cgCfg f i) 0
def cgPll44 (f : Fabric) (i : Nat) : Bool := bit (cgCfg f i) 1
def cgN (f : Fabric) (i : Nat) : Nat := fld (cgCfg f i) 8 4 + 1
def widthOf (c : Nat) : Nat := if c = 0 then 16 else if c = 1 then 24 else 32
def cgSlotW (f : Fabric) (i : Nat) : Nat := widthOf (fld (cgCfg f i) 10 9)
def cgWordW (f : Fabric) (i : Nat) : Nat := widthOf (fld (cgCfg f i) 12 11)
def cgSteer (f : Fabric) (i : Nat) : Bool := bit (cgCfg f i) 18
def cgHiz (f : Fabric) (i : Nat) : Bool := bit (cgCfg f i) 19
def cgStart (f : Fabric) (i : Nat) : Nat := fld (cgCfg f i) 21 20

/-- The frame's shape on the wire (R345): I²S, left-justified or TDM, with FS_INV and SCK_INV. -/
def frameShape (f : Fabric) (i : Nat) : FrameShape :=
  let c := cgCfg f i
  let fmt := fld c 3 2
  let bits := cgN f i * cgSlotW f i
  { bits := bits, delay := if fmt = 0 then 1 else if fmt = 1 then 0 else (bit c 14).toNat,
    lead := (fmt != 0) != bit c 15, width := if fmt = 2 ∧ !bit c 13 then 1 else bits / 2, falling := !bit c 16 }
/-- The level of FS k bit periods after its active edge (R345). -/
def fsLevel (s : FrameShape) (k : Nat) : Bool := if k % max 1 s.bits < s.width then s.lead else !s.lead

/-- RATE_DIV at 2^-24 (R347). -/
def rateDiv (f : Fabric) (i : Nat) : Nat := getF f (cgAt i 0x44) 12 0 * 2 ^ 24 + getF f (cgAt i 0x48) 23 0
/-- The nominal frequency of a clock generator's PLL (R347). -/
def pllHz (f : Fabric) (i : Nat) : Nat := if cgPll44 f i then 180633600 else 196608000
/-- Nominal frame rate, U24.8 Hz. -/
def nomFs (f : Fabric) (i : Nat) : Nat := if rateDiv f i = 0 then 0 else (rne (pllHz f i * 2 ^ 32 : Nat) (rateDiv f i)).toNat

/-- The checks of R346 at ENABLE. -/
def rateOk (f : Fabric) (i : Nat) : Bool :=
  let d := rateDiv f i
  let p := pllHz f i * 2 ^ 24
  d != 0 && decide (2 ≤ cgN f i) && decide (cgWordW f i ≤ cgSlotW f i) && decide (44100 * d ≤ p) && decide (p ≤ 192000 * d) &&
    decide (p * cgN f i * cgSlotW f i ≤ 49152000 * d)

/-- The class of a clock generator with its measured rate, U24.8 Hz (R348). -/
def classOf (f : Fabric) (i rate : Nat) : Nat :=
  if cgSlave f i then
    if bit (cgCfg f i) 17 ∧ 99 * fsHz f * 256 ≤ 100 * rate ∧ 100 * rate ≤ 101 * fsHz f * 256 then 0 else 2
  else if cgPll44 f i || getF f (cgAt i 0x48) 23 0 != 0 || cgSteer f i then 2
  else
    let n := getF f (cgAt i 0x44) 12 0
    if n * fsHz f = 196608000 then 0
    else if n * 2 * fsHz f = 196608000 ∨ (!rate96 f ∧ n * 4 * fsHz f = 196608000) then 1
    else 2

/-- What a running clock generator measures, or its nominal rate in master mode (R348, R363). -/
def cgRate (f : Fabric) (i rate : Nat) : Nat := if cgSlave f i then rate else nomFs f i

/-- Sets CLASS, and RATE_MISMATCH for a synchronous slave outside fs ± 1 % (R348). -/
def setClass (f : Fabric) (i rate : Nat) : Fabric :=
  let c := classOf f i rate
  let was := cgClass f i
  let f := putF (wrN f (cgAt i 0x54) rate) (cgAt i 0x50) 5 4 c
  if cgSlave f i && bit (cgCfg f i) 17 && c == 2 && (was != 2 || !getB f (cgAt i 0x50) 14) then
    raise (putB f (cgAt i 0x50) 14 true) (pCG i) 9
  else f

/-- The clock generator is a member of an armed start group (R350, R351). -/
def sgMember (f : Fabric) (i : Nat) : Bool := (upto 4).any (fun g => getB f (ra (pCG 0) (0x10C + 0x10 * g)) 8 && getB f (ra (pCG 0) (0x100 + 0x10 * g)) i)

/-- A write of CG_CFG, RATE_INT, RATE_FRAC, STEER_CFG or MCLK_CFG (R351, R363). -/
def cgWrite (f : Fabric) (i off : Nat) (v : Word) : Fabric :=
  let a := cgAt i off
  let bad :=
    if off = 0x40 then
      fld v 21 20 == 3 || fld v 12 11 == 3 || fld v 10 9 == 3 || fld v 8 4 == 0 || fld v 3 2 == 3 ||
        (decide (fld v 3 2 < 2) && fld v 8 4 != 1) || (bit v 18 && bit v 0) || (bit v 17 && !bit v 0)
    else if off = 0x60 then decide (4 < fld v 2 0)
    else if off = 0xA0 then fld v 2 1 == 3 || (decide (fld v 2 1 < 2) && decide (fld v 15 8 < 4))
    else false
  if off ≠ 0xA0 ∧ (cgSt f i ≠ 0 ∨ sgMember f i) then fail f (pCG i) 0x0102 off
  else if off = 0xA0 ∧ 4 ≤ i then f
  else if bad then fail f (pCG i) 0x0100 off
  else match rowOf a with
    | some row => wrR f a (storeReg row (rdR f a) v)
    | none => f

/-- A write of SAP_CFG (R364). -/
def sapWrite (f : Fabric) (p : Nat) (v : Word) : Fabric :=
  let a := sapAt p 0x40
  if fld v 5 4 = 3 then fail f (pSAP p) 0x0100 0x40
  else if cgSt f (fld (rdR f a) 3 0) ≠ 0 ∨ cgSt f (fld v 3 0) ≠ 0 then fail f (pSAP p) 0x0102 0x40
  else wrR f a (v &&& 0x7F)

-- Pins and slots (R344, R355, R362, R364)

/-- The pins of a clock generator. -/
def cgPins (f : Fabric) (i : Nat) : List Nat := (upto 64).filter (fun p => getF f (sapAt p 0x40) 3 0 == i)

/-- DIR of a pin: 0 IN, 1 OUT, 2 SHARED. -/
def pinDir (f : Fabric) (p : Nat) : Nat := getF f (sapAt p 0x40) 5 4

/-- Slot s of pin p is received (R355). -/
def recvSlot (f : Fabric) (n p s : Nat) : Bool :=
  let m := bit (rdAct f (pSAP 0) (sapAt p 0x44)) s
  enabled f (pSAP p) && decide (s < n) && m && (pinDir f p == 0 || (pinDir f p == 2 && !bit (rdAct f (pSAP 0) (sapAt p 0x48)) s))

/-- Slot s of pin p is driven with data (R355, R362); own tells whether this device owns its trifle's outputs at the frame. -/
def driveSlot (f : Fabric) (own : Bool) (n p s : Nat) : Bool :=
  let m := bit (rdAct f (pSAP 0) (sapAt p 0x44)) s
  enabled f (pSAP p) && decide (s < n) && m && (pinDir f p == 1 || (pinDir f p == 2 && bit (rdAct f (pSAP 0) (sapAt p 0x48)) s)) &&
    (!getB f (sapAt p 0x40) 6 || own)

/-- A slot that is not driven with data is driven 0, not high-Z (R355, R362). -/
def driveZero (f : Fabric) (own : Bool) (i p s : Nat) : Bool :=
  enabled f (pSAP p) && decide (s < cgN f i) && pinDir f p == 1 && !cgHiz f i && (!getB f (sapAt p 0x40) 6 || own)

/-- A direction in use by some pin. -/
def dirUsed (f : Fabric) (i : Nat) (out : Bool) : Bool :=
  (cgPins f i).any (fun p => pinDir f p == 2 || pinDir f p == out.toNat)

/-- A SYNC_FS slave, which has a buffer in each direction (R353). -/
def buffered (f : Fabric) (i : Nat) : Bool := cgSlave f i && bit (cgCfg f i) 17 && cgClass f i == 0

-- Fades (R357, R358)

/-- The weight a phase has reached. -/
def phWeight : Phase → Int
  | .live => 2 ^ 30
  | .fade i w0 => if i = 0 then w0 else rshr (w0 * fadeOut (i - 1)) 30
  | .mute _ => 0
  | .ramp i => (min 256 i : Nat) * 2 ^ 22

/-- An event starts a fade from the weight reached (R357, R358). -/
def phFade : Phase → Phase
  | .fade i w0 => .fade i w0
  | .mute _ => .mute 0
  | p => .fade 0 (phWeight p)

/-- The weight of the next frame and the phase after it (R357, R358). -/
def phNext (p : Phase) (clean full : Bool) : Int × Phase :=
  match p with
  | .live => (2 ^ 30, .live)
  | .fade i w0 => if 32 ≤ i then (0, .mute (if clean && full then 1 else 0)) else (rshr (w0 * fadeOut i) 30, .fade (i + 1) w0)
  | .mute n => if !(clean && full) then (0, .mute 0) else if 7 ≤ n then (0, .ramp 0) else (0, .mute (n + 1))
  | .ramp i => if 256 ≤ i then (2 ^ 30, .live) else (((i + 1 : Nat) : Int) * 2 ^ 22, .ramp (i + 1))

/-- The weight of a direction's next frame, and the direction after it (R357, R358). One with a buffer, of the target given,
refills it as its fade ends: it is read again from the target on. -/
def dirNext (target : Option Nat) (d : PDir) (clean full : Bool) : Int × PDir :=
  match d.ph with
  | .fade i w0 =>
    if 32 ≤ i then
      match target with
      | some t => (0, { d with ph := .mute 0, reading := decide (t ≤ d.buf.length) })
      | none => (0, { d with ph := .mute (if clean then 1 else 0) })
    else (rshr (w0 * fadeOut i) 30, { d with ph := .fade (i + 1) w0 })
  | p =>
    let n := phNext p clean full
    (n.1, { d with ph := n.2 })

/-- A direction reads as muted (R363). -/
def phMuted : Phase → Bool
  | .live => false
  | .fade i _ => decide (32 ≤ i)
  | .mute _ => true
  | .ramp _ => true

/-- A sample under a weight. -/
def weigh (w v : Int) : Int := if w = 2 ^ 30 then v else satS 32 (rshr (v * w) 30)

/-- IN_MUTE, OUT_MUTE, the fills, SLIP_PEND, LED_PORT and SETTLING of a clock generator (R353, R363). -/
def showCg (f : Fabric) (x : PortState) (i : Nat) : Fabric :=
  let c := cgOf x i
  let st := cgSt f i
  let on := st != 0
  let im := decide (2 ≤ st) && phMuted c.inp.ph
  let om := decide (2 ≤ st) && phMuted c.out.ph
  let f := putB (putB f (cgAt i 0x50) 6 im) (cgAt i 0x50) 7 om
  let f := putB f (cgAt i 0x50) 15 (c.inp.slip.isSome || c.out.slip.isSome)
  let f := wrN (wrN f (cgAt i 0x58) c.inp.buf.length) (cgAt i 0x5C) c.out.buf.length
  let d (out : Bool) : Nat := if buffered f i && dirUsed f i out && st != 1 then 16 else if out && cgSteer f i then 32 else 0
  let f := wrN f (cgAt i 0x6C) (if on then d false + d true * 2 ^ 16 else 0)
  putB f (cgAt i 0x0C) 3 (st == 1 || st == 3 || im || om)

/-- Enters a state of CG_STAT. -/
def cgEnter (f : Fabric) (i st : Nat) : Fabric :=
  let was := cgSt f i
  let f := putF f (cgAt i 0x50) 2 0 st
  raiseIf (st == 2 && was != 2) f (pCG i) 12

/-- The pins of a clock generator go high-Z. -/
def cgHighZ (f : Fabric) (x : PortState) (i : Nat) : Fabric × PortState :=
  let pins := cgPins f i
  (pins.foldl (fun f p => putB f (sapAt p 0x50) 0 false) f,
   { x with drive := pins.foldl (fun d p => mclear (32 * p) (32 * p + 32) d) x.drive, clk := mset (fun _ => .off) x.clk i .off })

/-- What a clock generator drives on SCK and FS from now on; a slave drives neither (R349, R352). -/
def setClk (f : Fabric) (x : PortState) (i : Nat) (d : ClkDrive) : PortState :=
  { x with clk := mset (fun _ => .off) x.clk i (if cgSlave f i then .off else d) }

/-- The clock generator enters OFF (R359, R363). -/
def cgOff (f : Fabric) (x : PortState) (i : Nat) : Fabric × PortState :=
  let (f, x) := cgHighZ f x i
  let x := setCg x i Cgen.reset
  let f := putF (cgEnter f i 0) (cgAt i 0x50) 5 4 0
  let f := putB f (cgAt i 0x08) 0 false
  (showCg f x i, x)

/-- STOPPING ends once both directions have faded (R359). -/
def cgStopped (f : Fabric) (x : PortState) (i : Nat) : Fabric × PortState :=
  let c := cgOf x i
  let done (out : Bool) (d : PDir) : Bool := !dirUsed f i out || (match d.ph with
    | .fade k _ => decide (32 ≤ k)
    | .mute _ => true
    | _ => false)
  if cgSt f i = 5 ∧ done false c.inp ∧ done true c.out then cgOff f x i else (showCg f x i, x)

-- Starting (R346, R349 to R351)

/-- A write of 1 to CG ENABLE (R346, R349, R363). -/
def cgEnable (f : Fabric) (x : PortState) (i : Nat) : Fabric × PortState :=
  if cgSt f i ≠ 0 then (f, x)
  else if !rateOk f i then (fail (putB f (cgAt i 0x08) 0 false) (pCG i) 0x0101 0x08, x)
  else
    let x := setClk f (setCg x i Cgen.reset) i (.idle (!(frameShape f i).lead))
    let f := cgEnter (putB f (cgAt i 0x08) 0 true) i 1
    let f := wrN (wrN f (cgAt i 0x64) (getF f (cgAt i 0x44) 12 0)) (cgAt i 0x68) (getF f (cgAt i 0x48) 23 0)
    (showCg f x i, x)

/-- A write of 0 to CG ENABLE (R359). -/
def cgDisable (f : Fabric) (x : PortState) (i : Nat) : Fabric × PortState :=
  let st := cgSt f i
  let f := putB f (cgAt i 0x08) 0 false
  if st = 0 ∨ st = 5 then (f, x)
  else if st = 1 then cgOff f x i
  else
    let c := cgOf x i
    let x := setCg x i { c with inp := { c.inp with ph := phFade c.inp.ph }, out := { c.out with ph := phFade c.out.ph } }
    cgStopped (cgEnter f i 5) x i

/-- A tick is eligible for a clock generator (R349). -/
def eligible (f : Fabric) (i : Nat) : Bool :=
  !cgPll44 f i || f.msc.toNat % (if rate96 f then 320 else 160) == 0

/-- The clock generator begins its first frame (R349, R358). -/
def cgBegin (f : Fabric) (x : PortState) (i rate : Nat) : Fabric × PortState :=
  let f := setClass (cgEnter f i 2) i rate
  let x := setClk f (setCg x i Cgen.reset) i (.frames (frameShape f i))
  (showCg f x i, x)

/-- The start of a clock generator alone (R349, R352): a slave by its first frame, a master as START selects. -/
def cgStartAlone (f : Fabric) (x : PortState) (i rate : Nat) : Fabric × PortState :=
  if cgSt f i ≠ 1 then (f, x)
  else if cgSlave f i then cgBegin f x i rate
  else if eligible f i && (cgStart f i == 0 || (cgStart f i == 1 && (cgOf x i).trig)) then cgBegin f x i (nomFs f i)
  else (f, x)

/-- The members of a start group. -/
def sgMembers (f : Fabric) (g : Nat) : List Nat := (upto 16).filter (fun i => getB f (sgAt g 0) i)
/-- A start group is armed. -/
def sgArmed (f : Fabric) (g : Nat) : Bool := getB f (sgAt g 0xC) 8
/-- The MSC target of a start group. -/
def sgTarget (f : Fabric) (g : Nat) : Nat := rdN f (sgAt g 8) * 2 ^ 32 + rdN f (sgAt g 4)

/-- A write of SG_CMD with ARM (R350, R351). -/
def sgArm (f : Fabric) (x : PortState) (g : Nat) : Fabric × PortState :=
  let m := sgMembers f g
  if !ready f (pCG 0) then (fail f (pCG 0) 1 (offOf (sgAt g 0xC)), x)
  else if m.isEmpty ∨ 8 < m.length ∨
      m.any (fun i => cgSlave f i || cgStart f i != 2 ||
        (upto 4).any (fun h => h != g && sgArmed f h && (sgMembers f h).contains i)) = true then
    (fail f (pCG 0) 0x0103 (offOf (sgAt g 0xC)), x)
  else
    let f := putB f (sgAt g 0xC) 8 true
    let x := { x with sgTrig := mset falseB x.sgTrig g false }
    if !getB f (sgAt g 0) 16 && running f && decide (sgTarget f g ≤ f.msc.toNat) then
      (raise (putB f (sgAt g 0xC) 10 true) (pCG 0) 11, x)
    else (f, x)

/-- A write of SG_CMD with DISARM (R351). -/
def sgDisarm (f : Fabric) (g : Nat) : Fabric :=
  if !ready f (pCG 0) then fail f (pCG 0) 1 (offOf (sgAt g 0xC)) else putB f (sgAt g 0xC) 8 false

/-- The start tick of a group (R350, R351). -/
def sgStart (f : Fabric) (x : PortState) (g : Nat) : Fabric × PortState :=
  let m := sgMembers f g
  let go := if getB f (sgAt g 0) 16 then mget falseB x.sgTrig g else running f && decide (sgTarget f g ≤ f.msc.toNat)
  if !(sgArmed f g && go && m.all (fun i => eligible f i)) then (f, x)
  else
    let part := m.any (fun i => cgSt f i != 1)
    let (f, x) := m.foldl (fun (acc : Fabric × PortState) i =>
      if cgSt acc.1 i = 1 then cgBegin acc.1 acc.2 i (nomFs acc.1 i) else acc) (f, x)
    let f := putB (putB f (sgAt g 0xC) 8 false) (sgAt g 0xC) 9 true
    let f := if part then putB f (sgAt g 0xC) 11 true else f
    (raise f (pCG 0) 11, { x with sgTrig := mset falseB x.sgTrig g false })

/-- A fire of comparator n reaches clock generators and start groups (R312, R349, R350). -/
def portTrig (f : Fabric) (x : PortState) (n : Nat) : PortState :=
  let x := (upto 16).foldl (fun x i =>
    if cgSt f i = 1 ∧ cgStart f i = 1 ∧ fld (cgCfg f i) 24 22 = n then setCg x i { cgOf x i with trig := true } else x) x
  (upto 4).foldl (fun x g =>
    if sgArmed f g ∧ getB f (sgAt g 0) 16 ∧ getF f (sgAt g 0) 19 17 = n then { x with sgTrig := mset falseB x.sgTrig g true }
    else x) x

/-- A write of SG_CFG or a target (R363). -/
def sgWrite (f : Fabric) (g off : Nat) (v : Word) : Fabric :=
  let a := sgAt g off
  if sgArmed f g then fail f (pCG 0) 0x0102 (offOf a) else wrR f a (if off = 0 then v &&& 0xF_FFFF else v)

-- Buffers (R353, R357)

/-- Depth of a buffer: 32 frames, 64 of the steered path (R353, R354). -/
def bufDepth (f : Fabric) (i : Nat) : Nat := if cgSteer f i then 64 else 32
/-- Fill at which a buffer is read. -/
def bufTarget (f : Fabric) (i : Nat) : Nat := if cgSteer f i then 32 else 16

/-- A frame enters a buffer; true where it is full and the frame is discarded (R357). A slip's window counts it. -/
def bufPush (depth target : Nat) (d : PDir) (fr : Nat × PFrame) : PDir × Bool :=
  let d := { d with seq := d.seq + 1, slip := d.slip.map (fun (s : BufSlip) => { s with win := (s.win ++ [fr.2]).take 32 }) }
  if depth ≤ d.buf.length then ({ d with ph := phFade d.ph }, true)
  else
    let b := d.buf ++ [(d.seq - 1, fr)]
    ({ d with buf := b, reading := d.reading || decide (target ≤ b.length) }, false)

/-- A frame is taken from a buffer: the frame, the direction, and whether it was needed from an empty buffer (R357). -/
def bufPop (d : PDir) : (Nat × PFrame) × PDir × Bool :=
  if !d.reading then (d.last, d, false)
  else match d.buf with
    | [] => (d.last, { d with ph := phFade d.ph, reading := false }, true)
    | (_, fr) :: r => (fr, { d with buf := r, last := fr }, false)

/-- A slip placed in a buffer (R235, R353): the frame of a number is dropped or doubled. One discarded at a full buffer leaves nothing to
do; one already read out stands for a frame that is still held, which one is free (log 84). -/
def bufSlip {α : Type} (drop : Bool) (num : Nat) (b : List (Nat × α)) : List (Nat × α) :=
  let pick := match b with
    | [] => num
    | e :: _ => if num < e.1 then (b[Config.slipHeld num b.length % b.length]?.getD e).1 else num
  if drop then b.filter (fun e => e.1 ≠ pick)
  else b.flatMap (fun e => if e.1 = pick then [e, e] else [e])

/-- A slip is decided on a buffer (R353): the window of an input is the next 32 frames it receives, that of an output the next 32
that its pins take, from those it holds on. -/
def bufDecide (drop out : Bool) (d : PDir) : PDir :=
  { d with slip := some (if out then ⟨drop, (d.buf.head?.map (·.1)).getD d.seq, (d.buf.map (·.2.2)).take 32⟩ else ⟨drop, d.seq, []⟩) }

/-- A direction whose slip window is complete places the slip (R235, R236, R353): a frame's magnitude is its largest sample. -/
def dirSlip (d : PDir) : PDir × Option Bool :=
  match d.slip with
  | none => (d, none)
  | some s =>
    if s.win.length < 32 then (d, none)
    else
      let i := slipIndex [s.win.map (fun fr => ((fr.foldl (fun m e => max m e.2.natAbs) 0 : Nat) : Int))]
      ({ d with slip := none, buf := bufSlip s.drop (s.start + i) d.buf }, some s.drop)

/-- Slips of a clock generator's buffers are placed (R353). -/
def portSlip (f : Fabric) (x : PortState) (i : Nat) (out : Bool) : Fabric × PortState :=
  let c := cgOf x i
  let r := dirSlip (if out then c.out else c.inp)
  match r.2 with
  | none => (f, x)
  | some drop =>
    let x := setCg x i (if out then { c with out := r.1 } else { c with inp := r.1 })
    let f := raise (bump f (cgAt i (if drop then 0x80 else 0x84))) (pCG i) 4
    (showCg f x i, x)

/-- The fill check of a SYNC_FS slave every 16 frames (R353). -/
def fillCheck (f : Fabric) (x : PortState) (i : Nat) : Fabric × PortState :=
  let c := cgOf x i
  let locked := dpllRef f == 8 && getF f (ra pREF 0x68) 3 0 == i
  if !(buffered f i && cgSt f i == 2 && decide (16 ≤ c.chk)) then (f, x)
  else
    let look (out : Bool) (d : PDir) : PDir :=
      if d.slip.isSome || locked || !dirUsed f i out then d
      else if 28 < d.buf.length then bufDecide true out d
      else if d.buf.length < 4 then bufDecide false out d
      else d
    let x := setCg x i { c with inp := look false c.inp, out := look true c.out, chk := 0 }
    (showCg f x i, x)
where
  /-- The reference the DPLL is locked to; 9 for none. -/
  dpllRef (f : Fabric) : Nat := if getF f (ra pREF 0x80) 2 0 = 2 then getF f (ra pREF 0x80) 7 4 else 9

/-- The steered path runs: in RUN, and while it fades in STOPPING or PLL_FAULT (R354, R359). -/
def steerRuns (f : Fabric) (i : Nat) : Bool := cgSt f i == 2 || cgSt f i == 4 || cgSt f i == 5

/-- The steer update every 64 frames (R354). -/
def steerUpdate (f : Fabric) (x : PortState) (i : Nat) : Fabric × PortState :=
  let c := cgOf x i
  if !(cgSteer f i && steerRuns f i && decide (64 ≤ c.chk)) then (f, x)
  else
    let e : Int := (c.out.buf.length : Int) - 32
    let bw := min 4 (getF f (cgAt i 0x60) 2 0)
    let integ := c.steerI + e * (2 ^ (40 - (16 + 2 * bw)) : Nat)
    let eps := max (-549755813) (min 549755813 (integ + e * (2 ^ (40 - (8 + bw)) : Nat)))
    let act := (rne ((rateDiv f i : Int) * (2 ^ 40 - eps)) (2 ^ 40)).toNat
    let f := wrN (wrN f (cgAt i 0x64) (act / 2 ^ 24 % 2 ^ 13)) (cgAt i 0x68) (act % 2 ^ 24)
    (f, setCg x i { c with steerI := integ, eps := eps, chk := 0 })

-- Frames (R345, R349, R353 to R358, R361)

/-- The samples of a frame's slots as Q5.27 by channel index (R8, R345, R355): a word is the slot's SLOT bits, whose top WORD bits are the
sample; a slot that is not received reads 0. -/
def frameIn (f : Fabric) (i : Nat) (slots : List (Nat × Nat × Nat)) : PFrame :=
  (cgPins f i).flatMap (fun p => (upto (cgN f i)).map (fun s =>
    (32 * p + s,
      if recvSlot f (cgN f i) p s then
        match slots.find? (fun e => e.1 == p && e.2.1 == s) with
        | some e => ingressW (cgWordW f i) (e.2.2 % 2 ^ cgSlotW f i / 2 ^ (cgSlotW f i - cgWordW f i))
        | none => 0
      else 0)))

/-- The output samples of a clock generator's slots for egress MSC m (R349). -/
def frameOut (f : Fabric) (a : Audio) (i m : Nat) : PFrame :=
  (cgPins f i).flatMap (fun p => (upto (cgN f i)).map (fun s => (32 * p + s, sample a m (0xB000 + 32 * p + s))))

/-- The word of a slot that carries a sample (R9, R345): the top WORD bits, the rest 0. -/
def slotWord (f : Fabric) (i : Nat) (v : Int) : Nat := egressW (cgWordW f i) v * 2 ^ (cgSlotW f i - cgWordW f i)

/-- Drives a frame's slots on the data pins (R9, R355, R360, R362). -/
def driveFrame (f : Fabric) (x : PortState) (own : Bool) (i : Nat) (w : Int) (fr : PFrame) : Fabric × PortState :=
  (cgPins f i).foldl (fun (acc : Fabric × PortState) p =>
    let off := acc.2.backoff.contains (.sd p)
    let slot (s : Nat) : Nat :=
      if off then 0
      else if driveSlot f own (cgN f i) p s then
        slotWord f i (weigh w ((fr.find? (fun e => e.1 == 32 * p + s)).elim 0 (·.2))) + 1
      else if driveZero f own i p s then 1 else 0
    let d := (upto 32).foldl (fun d s => mset zeroN d (32 * p + s) (slot s)) acc.2.drive
    (putB acc.1 (sapAt p 0x50) 0 ((upto 32).any (fun s => slot s != 0)), { acc.2 with drive := d })) (f, x)

/-- The bit that data pin p carries k bit periods after the active FS edge (R345): none while the slot is high-Z. -/
def dataBit (f : Fabric) (x : PortState) (i p k : Nat) : Option Bool :=
  let s := frameShape f i
  let j := (k + s.bits - s.delay) % max 1 s.bits
  match mget zeroN x.drive (32 * p + j / cgSlotW f i) with
  | 0 => none
  | c + 1 => some (c.testBit (cgSlotW f i - 1 - j % cgSlotW f i))

/-- Received samples reach the engine's ingress buffer or the conditioning channels (R19, R225). -/
def deliverIn (f : Fabric) (a : Audio) (i m : Nat) (w : Int) (fr : PFrame) : Audio :=
  if !running f then a
  else fr.foldl (fun a e =>
    let v := weigh w e.2
    if cgClass f i = 0 then putSource a m (0x2000 + e.1) v
    else putRaw a m (0x2000 + e.1) v) a

/-- A frame of RX channels enters the buffer of a STEER master (R354): ch gives the sample of a channel. -/
def steerFeed (f : Fabric) (x : PortState) (i : Nat) (ch : Nat → Int) : Fabric × PortState :=
  let c := cgOf x i
  let fr : PFrame := (cgPins f i).flatMap (fun p => (upto (cgN f i)).map (fun s => (32 * p + s, ch (getF f (sapAt p 0x4C) 10 0 + s))))
  let r := bufPush 64 32 c.out (0, fr)
  let f := if r.2 then raise (bump f (cgAt i 0x7C)) (pCG i) 3 else f
  let x := setCg x i { c with out := r.1 }
  (showCg f x i, x)

/-- The direction takes a hit where it is in use (R357). -/
def dirHit (used : Bool) (d : PDir) : PDir := if used then { d with ph := phFade d.ph } else d

/-- The input side of a serial frame (R349, R353, R355, R357, R361): a slave's frame enters when the edge that ends it comes, and is discarded
where that edge comes too early or too late; a master's is whole. The frame that begins is read under the mask of its own edge. -/
def frameInput (f : Fabric) (c : Cgen) (a : Audio) (i m : Nat) (slots : List (Nat × Nat × Nat)) (bad : Bool) : Fabric × Cgen × Audio :=
  let fr := frameIn f i slots
  let done := if cgSlave f i then (if bad then none else c.part) else some fr
  let c := { c with part := if cgSlave f i then some fr else none }
  match done with
  | none => (f, c, a)
  | some fr =>
    if buffered f i then
      let p := bufPush 32 16 c.inp (0, fr)
      (if p.2 && dirUsed f i false then raise (bump f (cgAt i 0x74)) (pCG i) 1 else f, { c with inp := p.1 }, a)
    else
      let n := dirNext none c.inp (cgSt f i != 4) true
      (f, { c with inp := { n.2 with last := (m, fr) } }, deliverIn f a i m n.1 fr)

/-- The output side of a serial frame (R349, R353 to R359): the weight and the frame that goes to the pins, with its egress MSC. While no
session runs a SYNC_FS output carries 0 and is muted once its buffer has run out. -/
def frameOutput (f : Fabric) (c : Cgen) (a : Audio) (i m : Nat) (bad : Bool) : Fabric × Cgen × Int × Nat × PFrame :=
  let clean := !bad && cgSt f i != 4
  let silent := cgClass f i == 0 && !running f
  if buffered f i && silent && (c.out.buf.isEmpty || !c.out.reading) then
    (f, { c with out := { c.out with ph := .mute 0, buf := [], reading := false } }, 0, m, [])
  else if buffered f i || cgSteer f i then
    let o := bufPop c.out
    let f := if o.2.2 && dirUsed f i true then raise (bump f (cgAt i 0x78)) (pCG i) 2 else f
    let n := dirNext (some (bufTarget f i)) o.2.1 (clean && !o.2.2) o.2.1.reading
    (f, { c with out := n.2 }, n.1, if cgSteer f i then m else o.1.1, o.1.2)
  else if silent then (f, { c with out := { c.out with ph := .mute 0 } }, 0, m, [])
  else
    let n := dirNext none c.out clean true
    (f, { c with out := n.2 }, n.1, m, if cgClass f i == 0 then frameOut f a i m else [])

/-- A serial frame begins at an FS active edge of a clock generator (R345, R348, R349, R353 to R358, R361): the slot words on the pins
(pin, slot, word), the bit periods since the previous edge, and a slave's measured rate; own tells of an egress MSC whether this device
owns its trifle's outputs then. -/
def portFrame (f : Fabric) (x : PortState) (a : Audio) (own : Nat → Bool) (i : Nat) (slots : List (Nat × Nat × Nat)) (bits rate : Nat) :
    Fabric × PortState × Audio :=
  let st := cgSt f i
  if st = 0 ∨ st = 1 then (f, x, a)
  else
    let m := f.msc.toNat
    let was := cgClass f i
    let f := setClass f i (cgRate f i rate)
    let c := cgOf x i
    let c := if cgSlave f i && cgClass f i != was then { c with inp := PDir.reset, out := PDir.reset, part := none } else c
    let bad := cgSlave f i && bits != cgN f i * cgSlotW f i && st != 3
    let f := if bad then raise (bump (putB f (cgAt i 0x50) 10 true) (cgAt i 0x88)) (pCG i) 7 else f
    let c := if bad then { c with inp := dirHit (dirUsed f i false) c.inp, out := dirHit (dirUsed f i true) c.out } else c
    let f := if st = 3 then cgEnter f i 2 else f
    let p := frameInput f c a i m slots bad
    let o := frameOutput p.1 p.2.1 a i m bad
    let d := driveFrame o.1 x (own o.2.2.2.1) i o.2.2.1 o.2.2.2.2
    let x := setCg d.2 i { o.2.1 with chk := o.2.1.chk + 1 }
    let r := cgStopped d.1 x i
    (r.1, r.2, p.2.2)

/-- One clock generator's share of a sample tick (R353, R357): a frame leaves the input buffer of a SYNC_FS slave and one enters its output
buffer; a foreign slave whose clock is absent repeats its last frame while it fades (log 85). -/
def portTickOne (f : Fabric) (x : PortState) (a : Audio) (m i : Nat) : Fabric × PortState × Audio :=
  let st := cgSt f i
  let c := cgOf x i
  if st = 0 ∨ st = 1 ∨ !cgSlave f i then (f, x, a)
  else if buffered f i then
    let p := bufPop c.inp
    let f := if p.2.2 && st == 2 && dirUsed f i false then raise (bump f (cgAt i 0x70)) (pCG i) 0 else f
    let ni := dirNext (some 16) p.2.1 (!p.2.2 && st == 2) p.2.1.reading
    let a' := deliverIn f a i m ni.1 p.1.2
    let o := if running f && st != 3 then bufPush 32 16 c.out (m, frameOut f a i m) else (c.out, false)
    let f := if o.2 && dirUsed f i true then raise (bump f (cgAt i 0x7C)) (pCG i) 3 else f
    let x := setCg x i { c with inp := ni.2, out := o.1 }
    let r := cgStopped f x i
    (r.1, r.2, a')
  else match c.inp.ph with
    | .fade _ _ =>
      if st = 3 then
        let ni := dirNext none c.inp false true
        let x := setCg x i { c with inp := ni.2 }
        (showCg f x i, x, deliverIn f a i m ni.1 c.inp.last.2)
      else (f, x, a)
    | _ => (f, x, a)

/-- The sample tick's share of the slaves (R353, R357). -/
def portTick (f : Fabric) (x : PortState) (a : Audio) (m : Nat) : Fabric × PortState × Audio :=
  (upto 16).foldl (fun (acc : Fabric × PortState × Audio) i => portTickOne acc.1 acc.2.1 acc.2.2 m i) (f, x, a)

/-- A slave declares its clock absent (R357, R361): the flag and the cause each time, NO_CLOCK with the underrun counts and the
fades once. -/
def noClock (f : Fabric) (x : PortState) (i flag cause : Nat) : Fabric × PortState :=
  let st := cgSt f i
  if !(cgSlave f i && decide (1 ≤ st) && decide (st ≤ 3)) then (f, x)
  else
    let f := raise (putB f (cgAt i 0x50) flag true) (pCG i) cause
    if st = 3 then (f, x)
    else
      let c := cgOf x i
      let f := cgEnter f i 3
      let f := if dirUsed f i false then raise (bump f (cgAt i 0x70)) (pCG i) 0 else f
      let f := if dirUsed f i true then raise (bump f (cgAt i 0x78)) (pCG i) 2 else f
      let x := setCg x i { c with inp := { c.inp with ph := phFade c.inp.ph }, out := { c.out with ph := phFade c.out.ph }, part := none }
      (showCg f x i, x)

/-- The end of a direction's fade (R357, R359): its last frame has gone, or no clock carries an output's on. Its buffer, if it has one,
refills to its target (R358). -/
def fadeEnd (f : Fabric) (x : PortState) (i : Nat) (out : Bool) : Fabric × PortState :=
  let c := cgOf x i
  let d := if out then c.out else c.inp
  match d.ph with
  | .fade k _ =>
    if 32 ≤ k ∨ (cgSt f i = 3 ∧ (out ∨ !running f)) then
      let has := buffered f i || (out && cgSteer f i)
      let d := { d with ph := .mute 0, reading := if has then decide (bufTarget f i ≤ d.buf.length) else d.reading }
      cgStopped f (setCg x i (if out then { c with out := d } else { c with inp := d })) i
    else (f, x)
  | _ => (f, x)

/-- The end of a direction's recovery (R358). -/
def recoveryEnd (f : Fabric) (x : PortState) (i : Nat) (out : Bool) : Fabric × PortState :=
  let c := cgOf x i
  let d := if out then c.out else c.inp
  match d.ph with
  | .ramp k =>
    if 256 ≤ k then
      let d := { d with ph := .live }
      let x := setCg x i (if out then { c with out := d } else { c with inp := d })
      (showCg f x i, x)
    else (f, x)
  | _ => (f, x)

/-- The media PLLs named lose lock (R359). -/
def portsFault (f : Fabric) (x : PortState) (pll48 pll44 : Bool) : Fabric × PortState :=
  (upto 16).foldl (fun (acc : Fabric × PortState) i =>
    let f := acc.1
    if cgSt f i = 2 ∧ !cgSlave f i ∧ (if cgPll44 f i then pll44 else pll48) then
      let c := cgOf acc.2 i
      let x := setCg acc.2 i { c with inp := { c.inp with ph := phFade c.inp.ph }, out := { c.out with ph := phFade c.out.ph } }
      let f := raise (cgEnter f i 4) (pCG i) 10
      (showCg f x i, x)
    else acc) (f, x)

/-- FAULT ends (R359): the clock generators return to RUN. -/
def portsFaultEnd (f : Fabric) (x : PortState) : Fabric × PortState :=
  (upto 16).foldl (fun (acc : Fabric × PortState) i =>
    if cgSt acc.1 i = 4 then (cgEnter acc.1 i 2, acc.2) else acc) (f, x)

/-- Engine stop (R351): a start group armed with an MSC target fails. The outputs' fade is the one that R508 gives every egress
endpoint; after it they are muted (R359, frameOutput). -/
def portsStop (f : Fabric) : Fabric :=
  (upto 4).foldl (fun f g =>
    if sgArmed f g && !getB f (sgAt g 0) 16 then
      raise (putB (putB f (sgAt g 0xC) 8 false) (sgAt g 0xC) 12 true) (pCG 0) 11
    else f) f

-- Pin faults (R360)

/-- A back-off of a pin starts (R360). -/
def pinBackoff (f : Fabric) (x : PortState) (p : Pin) : Fabric × PortState :=
  if x.backoff.contains p then (f, x)
  else
    let x := { x with backoff := x.backoff ++ [p] }
    match p with
    | .sd n =>
      let f := putB (putB f (sapAt n 0x50) 1 true) (sapAt n 0x50) 2 true
      let f := putB (putB (bump f (sapAt n 0x54)) (sapAt n 0x50) 0 false) (sapAt n 0x0C) 3 true
      (raise f (pSAP n) 0, { x with drive := mclear (32 * n) (32 * n + 32) x.drive })
    | .sck i => (raise (bump (putB f (cgAt i 0x50) 11 true) (cgAt i 0x8C)) (pCG i) 8, x)
    | .fs i => (raise (bump (putB f (cgAt i 0x50) 12 true) (cgAt i 0x8C)) (pCG i) 8, x)
    | .mclk i => (raise (bump (putB f (cgAt i 0x50) 13 true) (cgAt i 0x8C)) (pCG i) 8, x)

/-- A back-off ends after 1 ms (R360). -/
def pinBackoffEnd (f : Fabric) (x : PortState) (p : Pin) : Fabric × PortState :=
  if !x.backoff.contains p then (f, x)
  else
    let x := { x with backoff := x.backoff.filter (· ≠ p) }
    match p with
    | .sd n => (putB (putB f (sapAt n 0x50) 1 false) (sapAt n 0x0C) 3 false, x)
    | _ => (f, x)

/-- A CG soft reset (R363): OFF at once; on CG[0] every start group disarms. -/
def cgSoft (f : Fabric) (x : PortState) (i : Nat) : Fabric × PortState :=
  let (f, x) := cgOff f x i
  let f := softClear f (pCG i) (fun o => decide (o < 0x40))
  let f := if i = 0 then (upto 4).foldl (fun f g => putB f (sgAt g 0xC) 8 false) f else f
  (f, x)

/-- A SAP soft reset (R364): the pin goes high-Z at once. -/
def sapSoft (f : Fabric) (x : PortState) (p : Nat) : Fabric × PortState :=
  let f := softClear f (pSAP p) (fun o => decide (o < 0x40))
  let f := clearBanks f (sapAt p 0x40) (sapAt (p + 1) 0)
  (putB (putF f (sapAt p 0x50) 1 0 0) (sapAt p 0x0C) 3 false, { x with drive := mclear (32 * p) (32 * p + 32) x.drive, backoff := x.backoff.filter (· ≠ .sd p) })

end Sys2Proof.Machine
end

