-- ==== Sys2Proof/Machine/Uhlyen.lean ====
section
/-! DEFINITION. Uhlyen links (13): lanes, training, link state, and the codes of cycle frames and messages, as functions of the
fabric and the stack state. -/
namespace Sys2Proof.Machine

def linkOf (k : StkState) (s : Nat) : UhlLink := if s = 0 then k.ue else k.uw
def setLink (k : StkState) (s : Nat) (v : UhlLink) : StkState := if s = 0 then { k with ue := v } else { k with uw := v }
/-- The offset of a UHL register: port 0 UE, 1 UW. -/
def uhlAt (s off : Nat) : Nat := ra (pUHL s) off
/-- The offset of an STK register. -/
def stkAt (off : Nat) : Nat := ra pSTK off
def uhlUp (f : Fabric) (s : Nat) : Bool := getB f (uhlAt s 0x44) 0

-- Codes (R404, R405, R427)

/-- One step of CRC-32C on a byte (R182, R404). -/
def crcCByte (c : Nat) (b : Byte) : Nat :=
  (upto 8).foldl (fun c _ => if c % 2 = 1 then Nat.xor (c / 2) 0x82F63B78 else c / 2) (Nat.xor c b.toNat)
/-- CRC-32C (R182, R404). -/
def crc32c (l : List Byte) : Nat := Nat.xor (l.foldl crcCByte 0xFFFF_FFFF) 0xFFFF_FFFF
/-- The CRC-16 of a message over its bits [127:16] (R427). -/
def crc16 (m : BitVec 128) : Nat :=
  (beBytes 14 (m.toNat / 2 ^ 16)).foldl (fun c b =>
    (upto 8).foldl (fun c _ => if c / 2 ^ 15 % 2 = 1 then Nat.xor (2 * c % 2 ^ 16) 0x1021 else 2 * c % 2 ^ 16)
      (Nat.xor c (b.toNat * 2 ^ 8))) 0xFFFF
/-- A message's CRC is right (R427). -/
def msgOk (m : BitVec 128) : Bool := crc16 m == m.toNat % 2 ^ 16
/-- A message (R427). -/
def mkMsg (ty src dst : Nat) (bcast : Bool) (sub pay : Nat) : BitVec 128 :=
  let body := BitVec.ofNat 128 ((ty % 256) * 2 ^ 120 + (src % 64) * 2 ^ 114 + (dst % 64) * 2 ^ 108 + bcast.toNat * 2 ^ 107 +
    (sub % 32) * 2 ^ 96 + (pay % 2 ^ 80) * 2 ^ 16)
  body ||| BitVec.ofNat 128 (crc16 body)
def msgType (m : BitVec 128) : Nat := nfld m.toNat 127 120
def msgSrc (m : BitVec 128) : Nat := nfld m.toNat 119 114
def msgDst (m : BitVec 128) : Nat := nfld m.toNat 113 108
def msgBcast (m : BitVec 128) : Bool := m.toNat.testBit 107
def msgSub (m : BitVec 128) : Nat := nfld m.toNat 100 96
def msgPay (m : BitVec 128) : Nat := nfld m.toNat 95 16

/-- Header word i. -/
def hw (fr : CycFrame) (i : Nat) : Nat := (fr.hdr[i]?.getD 0).toNat
/-- HCRC over the header words, HCRC taken as 0 (R405). -/
def hcrcOf (h : List (BitVec 64)) : Nat :=
  crc32c (h.zipIdx.flatMap (fun (e : BitVec 64 × Nat) => leBytes 8 (if e.2 = 3 then e.1.toNat % 2 ^ 32 else e.1.toNat)))
/-- A header that passes its CRC (R407). -/
def hdrOk (fr : CycFrame) : Bool := fr.hdr.length == 12 && hcrcOf fr.hdr == hw fr 3 / 2 ^ 32
/-- A header with its CRC in place. -/
def sealHdr (h : List (BitVec 64)) : List (BitVec 64) :=
  h.set 3 (BitVec.ofNat 64 ((h[3]?.getD 0).toNat % 2 ^ 32 + hcrcOf h * 2 ^ 32))
def grpCrc (l : List Word) : Nat := crc32c (bytesOf l)
def sumCrc (l : List (BitVec 40)) : Nat := crc32c (l.flatMap (fun v => leBytes 5 v.toNat))
def hDir (fr : CycFrame) : Nat := nfld (hw fr 0) 34 34
def hMasterValid (fr : CycFrame) : Bool := (hw fr 0).testBit 35
def hMasterId (fr : CycFrame) : Nat := nfld (hw fr 0) 41 36
def hCorr (fr : CycFrame) : Nat := hw fr 3 % 2 ^ 32
def hValid (fr : CycFrame) (g : Nat) : Bool := (hw fr 4 + hw fr 5 * 2 ^ 64).testBit g
def hPresent (fr : CycFrame) : Nat := hw fr 6 + hw fr 7 * 2 ^ 64 + hw fr 8 % 2 ^ 32 * 2 ^ 128

-- Role and identity (R411, R412)

def stkRole (f : Fabric) : Nat := getF f (stkAt 0x40) 1 0
def stkId (f : Fabric) : Nat := getF f (stkAt 0x40) 13 8
def idValid (f : Fabric) : Bool := getB f (stkAt 0x40) 14
/-- ROLE_STAT.STATE: 0 OFF, 1 ENUM, 2 MEMBER, 3 MASTER, 4 ACTING, 5 YIELDED, 6 DUAL_MASTER, 7 UNASSIGNED, 8 DEPUTY (R430). -/
def stkSt (f : Fabric) : Nat := getF f (stkAt 0x40) 19 16
/-- Enters a state of ROLE_STAT (R430). -/
def stkEnter (f : Fabric) (st : Nat) : Fabric :=
  let was := stkSt f
  raiseIf (was != st) (putF f (stkAt 0x40) 19 16 st) pSTK 0
/-- This device is the timing master: MASTER or ACTING. -/
def isTimer (f : Fabric) : Bool := stkSt f == 3 || stkSt f == 4
/-- MSC_OFS (R415). -/
def mscOfs (f : Fabric) : Nat := rdN f (stkAt 0x64) + rdN f (stkAt 0x68) * 2 ^ 32
/-- The stack MSC (R415). -/
def stackMsc (f : Fabric) : Nat := (f.msc.toNat + mscOfs f) % 2 ^ 64
/-- The link at a port, named by the member whose UE port faces it (R405). -/
def linkIndex (f : Fabric) (k : StkState) (s : Nat) : Nat :=
  if s = 0 then stkId f else if stkId f = 0 then k.count - 1 else stkId f - 1
/-- A port faces a line end: the open link or a failed one (R420). -/
def atEnd (f : Fabric) (k : StkState) (s : Nat) : Bool :=
  linkIndex f k s == k.openLink || k.failed.contains (linkIndex f k s)

/-- RING_STAT, LINK_STAT.OPEN and SETTLING from the ring's state (R420, R429, R430). -/
def ringShow (f : Fabric) (k : StkState) : Fabric :=
  let normal := k.count - 1
  let moved := k.failed.filter (· != normal)
  let st := if k.count = 0 then 0 else if 1 < k.failed.length then 3 else if !moved.isEmpty || k.openLink != normal then 2 else 1
  let was := getF f (stkAt 0x4C) 1 0
  let f := putF (putF f (stkAt 0x4C) 1 0 st) (stkAt 0x4C) 22 16 k.count
  let f := putF (putB f (stkAt 0x4C) 5 (decide (0 < k.count) && k.failed == [normal])) (stkAt 0x4C) 29 24 k.openLink
  let f := putB (putB f (uhlAt 0 0x44) 17 (idValid f && linkIndex f k 0 == k.openLink)) (uhlAt 1 0x44) 17
    (idValid f && linkIndex f k 1 == k.openLink)
  let f := putB f (stkAt 0x0C) 3 (stkSt f == 1 || st == 2 || st == 3 || k.change.isSome)
  raiseIf (was != st) f pSTK 1

/-- Sends an express message on a port (R427). -/
def sendX (k : StkState) (s : Nat) (m : BitVec 128) : StkState := { k with out := k.out ++ [(s, m)] }

/-- A member's place on the line, from the member after the open link eastward (R404). -/
def linePos (k : StkState) (i : Nat) : Nat := if k.openLink < i then i - k.openLink - 1 else i + 64 - k.openLink

/-- The port of the shorter working path to a member (R427): a path works while its own link is up and no link of it has failed. -/
def portTo (f : Fabric) (k : StkState) (dst : Nat) : Nat :=
  let n := max 1 k.count
  let east := (dst + n - stkId f % n) % n
  let goes (s first len : Nat) : Bool := uhlUp f s && (upto len).all (fun i => !k.failed.contains ((first + i) % n))
  let eastOk := goes 0 (stkId f) east
  let westOk := goes 1 dst (n - east)
  if eastOk && (!westOk || decide (2 * east ≤ n)) then 0 else if westOk || uhlUp f 1 then 1 else 0

/-- A failed CRC of a part (R407): 0 header, 1 group, 2 control slot or express message. -/
def crcFail (f : Fabric) (s kind : Nat) : Fabric := raise (bump f (uhlAt s (0x50 + 4 * kind))) (pUHL s) 2

/-- Whether an express message that arrives at a port is taken here: its CRC holds, it has the type, and it is for this device.
One for another member, or a broadcast, is passed on (R403, R407, R427). -/
def takeX (f : Fabric) (k : StkState) (s ty : Nat) (m : BitVec 128) : Fabric × StkState × Bool :=
  if !uhlUp f s || msgType m != ty then (f, k, false)
  else if !msgOk m then (crcFail f s 2, k, false)
  else
    let mine := idValid f && msgDst m == stkId f
    let pass := (msgBcast m && !(idValid f && msgSrc m == stkId f)) || (!msgBcast m && !mine)
    let k := if pass && uhlUp f (1 - s) then sendX k (1 - s) m else k
    (f, k, (msgBcast m || mine) && enabled f pSTK)

-- Lanes and links (R399 to R402, R420)

/-- The lowest lanes a link uses. -/
def laneGood (f : Fabric) (s : Nat) : Nat := popcount 4 (getF f (uhlAt s 0x44) 11 8)

/-- The lane rate a link that was up trains at: what LINK_CFG fixes, else the rate it had (R399, R401). -/
def trainRate (f : Fabric) (k : StkState) (s : Nat) : Nat :=
  if getF f (uhlAt s 0x40) 1 0 = 0 then (linkOf k s).rate else getF f (uhlAt s 0x40) 1 0

/-- A link starts to train (R399, R401). -/
def uhlTrain (f : Fabric) (k : StkState) (s rate : Nat) : Fabric × StkState :=
  (putB f (uhlAt s 0x0C) 3 true, setLink k s { linkOf k s with training := true, trained := false, rate := rate })

/-- A LINK_FAIL broadcast reports a failed link (R420, R427). -/
def linkFailMsg (f : Fabric) (s : Nat) : BitVec 128 := mkMsg 0x06 (stkId f) 0 true 0 (stkId f + s * 2 ^ 6)

/-- A link of the ring has failed: the line ends move (R420). -/
def ringFail (f : Fabric) (k : StkState) (link : Nat) : Fabric × StkState :=
  if k.count = 0 ∨ k.failed.contains link then (f, k)
  else
    let first := k.failed.isEmpty
    let moved := link != k.openLink
    let k := { k with failed := k.failed ++ [link], openLink := if first && moved then link else k.openLink }
    let f := if moved then bump f (stkAt 0x94) else f
    (ringShow f k, k)

/-- A link goes down (R401, R402, R420). -/
def uhlDown (f : Fabric) (k : StkState) (s : Nat) : Fabric × StkState :=
  if !uhlUp f s then (f, k)
  else
    let w := setFld (setBit (setBit (rdR f (uhlAt s 0x44)) 0 false) 24 false) 6 2 0
    let f := raise (bump (wrR f (uhlAt s 0x44) w) (uhlAt s 0x5C)) (pUHL s) 0
    let k := setLink k s { linkOf k s with trained := false, reqAt := none }
    if idValid f && enabled f pSTK then
      let k := if uhlUp f (1 - s) then sendX k (1 - s) (linkFailMsg f s) else k
      ringFail f k (linkIndex f k s)
    else (f, k)

/-- Loss of block lock or alignment (R402): the link goes down and trains again. -/
def uhlLinkDown (f : Fabric) (k : StkState) (s : Nat) : Fabric × StkState :=
  if !uhlUp f s then (f, k)
  else
    let r := uhlDown f k s
    uhlTrain r.1 r.2 s (trainRate f k s)

/-- A good lane fails (R401): the link goes down at once and retrains. -/
def laneFail (f : Fabric) (k : StkState) (s lane : Nat) : Fabric × StkState :=
  if !(enabled f (pUHL s) && getB f (uhlAt s 0x44) (8 + lane % 4)) then (f, k)
  else
    let r := uhlDown f k s
    uhlTrain (putB r.1 (uhlAt s 0x44) (8 + lane % 4) false) r.2 s (trainRate f k s)

/-- Lanes that do not lock at the higher rate fall back (R399). -/
def uhlFallback (f : Fabric) (k : StkState) (s : Nat) : Fabric × StkState :=
  if enabled f (pUHL s) && (linkOf k s).training && (linkOf k s).rate == 1 && getF f (uhlAt s 0x40) 1 0 == 0 && laneGood f s != 4 then
    uhlTrain f k s 2
  else (f, k)

/-- A lane marker (R400): physical lane, lane number, inverted. -/
def laneMarker (f : Fabric) (s phys lane : Nat) (inverted : Bool) : Fabric :=
  if !enabled f (pUHL s) then f
  else
    let f := putB f (uhlAt s 0x44) (8 + phys % 4) true
    let turn := inverted && !getB f (uhlAt s 0x44) (12 + phys % 4)
    let f := putB f (uhlAt s 0x44) (12 + phys % 4) inverted
    let l := lane % 4
    let was := getF f (uhlAt s 0x48) (2 * l + 1) (2 * l)
    let f := putF f (uhlAt s 0x48) (2 * l + 1) (2 * l) (phys % 4)
    let move := was != phys % 4 && l != phys % 4
    let f := putB f (uhlAt s 0x44) 16 (getF f (uhlAt s 0x48) 7 0 == 0x1B)
    if turn || move then raise (bump f (uhlAt s 0x60) (turn.toNat + move.toNat)) (pUHL s) 3 else f

/-- A training ends (R399, R401): on 4 lanes, on 2, or with the link staying down. -/
def retrainEnd (f : Fabric) (k : StkState) (s : Nat) : Fabric × StkState :=
  let l := linkOf k s
  if !(enabled f (pUHL s) && l.training) then (f, k)
  else
    let n := laneGood f s
    if n < 2 then (f, k)
    else
      let deg := n != 4
      let was := getB f (uhlAt s 0x44) 1
      let f := putF (putF (putB f (uhlAt s 0x44) 1 deg) (uhlAt s 0x44) 6 4 (if deg then 2 else 4)) (uhlAt s 0x44) 3 2 l.rate
      (raiseIf (deg && !was) f (pUHL s) 1, setLink k s { l with training := false, trained := true })

/-- A degraded link whose four lanes have held for 1 s retrains (R401). -/
def laneRestore (f : Fabric) (k : StkState) (s : Nat) : Fabric × StkState :=
  if uhlUp f s && getB f (uhlAt s 0x44) 1 && laneGood f s == 4 then
    let r := uhlDown f k s
    uhlTrain r.1 r.2 s (trainRate f k s)
  else (f, k)

/-- A write of UHL ENABLE (R429). -/
def uhlEnable (f : Fabric) (k : StkState) (s : Nat) (on : Bool) : Fabric × StkState :=
  let was := enabled f (pUHL s)
  if on == was then (f, k)
  else if on then
    let f := putB f (uhlAt s 0x08) 0 true
    uhlTrain f k s (if getF f (uhlAt s 0x40) 1 0 = 2 then 2 else 1)
  else
    let r := uhlDown f k s
    let f := wrN (putB (putB r.1 (uhlAt s 0x08) 0 false) (uhlAt s 0x0C) 3 false) (uhlAt s 0x44) 0
    (f, setLink r.2 s UhlLink.reset)

/-- A UHL soft reset: the link retrains (R429). -/
def uhlSoft (f : Fabric) (k : StkState) (s : Nat) : Fabric × StkState :=
  let r := uhlDown f k s
  let f := softClear r.1 (pUHL s) (fun o => decide (o < 0x40))
  if enabled f (pUHL s) then uhlTrain f r.2 s 1 else (f, r.2)

/-- A write of LINK_CFG (R399, R429). -/
def uhlCfg (f : Fabric) (s : Nat) (v : Word) : Fabric :=
  if fld v 1 0 = 3 then fail f (pUHL s) 0x0100 0x40 else wrN f (uhlAt s 0x40) (fld v 1 0)

/-- The payload rate of a link in Gb/s (R399). -/
def payRate (f : Fabric) (s : Nat) : Nat :=
  getF f (uhlAt s 0x44) 6 4 * (if getF f (uhlAt s 0x44) 3 2 = 2 then 10 else 25)

end Sys2Proof.Machine
end

