-- ==== Sys2Proof/Machine/Stack.lean ====
section
/-! DEFINITION. The stack (13): cycle frames, concealment, sums, roles, roll call, breaks, announced changes, tables, messages and
remote accesses, as functions of the fabric, the timebase, the stack state and the sample store. -/
namespace Sys2Proof.Machine

-- Tables and budget (R410, R422, R425)

/-- Entry i of table t in the active bank. -/
def stkAct (f : Fabric) (t i : Nat) : Word := rdAct f pSTK (stkKey t i)
/-- Entry i of table t in the shadow bank. -/
def stkShd (f : Fabric) (t i : Nat) : Word := rdShd f pSTK (stkKey t i)
/-- The enabled entries of table t in a bank: index and word. -/
def stkRows (f : Fabric) (b : Bool) (t : Nat) : List (Nat × Word) :=
  ((mfilter (fun k => decide (stkKey t 0 ≤ k) && decide (k < stkKey (t + 1) 0)) (bankMap f b)).filter (fun e => bit e.2 15)).map
    (fun e => (e.1 - stkKey t 0, e.2))

/-- Channel groups, and sum groups (R404). -/
def chGroups (f : Fabric) : Nat := if rate96 f then 64 else 128
def sumGroups (f : Fabric) : Nat := if rate96 f then 16 else 32
/-- The groups a table enables (R422). -/
def tablePresent (f : Fabric) (b : Bool) : Nat :=
  (stkRows f b 3).foldl (fun s e =>
    if e.1 < chGroups f ∨ (128 ≤ e.1 ∧ e.1 < 128 + sumGroups f) then s ||| 2 ^ e.1 else s) 0

/-- The frame length of R404, bits. -/
def frameBits (present : Nat) : Nat :=
  768 + 2048 + 2080 * popcount 128 present + 2592 * popcount 32 (present / 2 ^ 128)

/-- The lowest payload rate of a link that carries cycles, Gb/s, with the open link as given (R410): this device's links, and
two lanes where a member reports a degraded link. -/
def rMin (f : Fabric) (k : StkState) (openLink : Nat) : Nat :=
  let own := ((upto 2).filter (fun s => uhlUp f s && linkIndex f k s != openLink)).map (payRate f)
  let deg := (k.rolls.filter (fun e => e.2.degraded && openLink != e.1 && openLink + 1 != e.1)).map (fun _ =>
    if getF f (uhlAt 0 0x44) 3 2 = 2 then 20 else 50)
  (own ++ deg).foldl min 100

/-- D_MAX, 1/256 ns (R410). -/
def lineDelayMax (f : Fabric) (k : StkState) : Nat :=
  let d := (upto k.count).map (fun i => getF f (stkAt (0x100 + 4 * i)) 23 0)
  match d with
  | [] => 0
  | x :: r => d.foldl (· + ·) 0 - r.foldl min x

/-- T·256·R_MIN: the time of R410 in 1/256 ns times the rate. -/
def budgetT (f : Fabric) (k : StkState) (openLink present : Nat) : Nat :=
  (lineDelayMax f k + 300 * 256) * rMin f k openLink + 256 * frameBits present
/-- The limit of R410, ns. -/
def budgetMax (f : Fabric) : Nat := if rate96 f then 10416 else 20833
/-- A set of groups fits (R410). -/
def fits (f : Fabric) (k : StkState) (openLink present : Nat) : Bool :=
  decide (budgetT f k openLink present ≤ budgetMax f * 256 * rMin f k openLink)

/-- The groups of a set in the order of R425: ascending PRIO, channel before sum, descending index. -/
def shedOrder (f : Fabric) (present : Nat) : List Nat :=
  (upto 8).flatMap (fun prio =>
    let at_ (g : Nat) : Bool := present.testBit g && fld (stkAct f 3 g) 10 8 == prio
    ((upto 128).reverse.filter at_) ++ (((upto 32).map (· + 128)).reverse.filter at_))

/-- The set that remains after shedding (R425). -/
def afterShed (f : Fabric) (k : StkState) (openLink present : Nat) : Nat :=
  ((shedOrder f present).foldl (fun (acc : Nat) g =>
    if fits f k openLink acc then acc else acc - 2 ^ g) present)

/-- Ticks of one millisecond. -/
def msTicks (f : Fabric) : Nat := if rate96 f then 96 else 48

/-- The timing master announces a change (R421, R422, R425). -/
def announce (f : Fabric) (k : StkState) (c : Change) : Fabric × StkState :=
  let k := { k with change := some c }
  (ringShow f k, k)

/-- The timing master evaluates the budget (R410, R425). -/
def budgetEval (f : Fabric) (k : StkState) : Fabric × StkState :=
  if !isTimer f then (f, k)
  else
    let t := budgetT f k k.openLink k.present
    let r := max 1 (rMin f k k.openLink)
    let f := wrN f (stkAt 0x6C) (lineDelayMax f k)
    let f := wrN f (stkAt 0x70) (min 65535 (rne t (256 * r)).toNat + budgetMax f * 2 ^ 16)
    let want := afterShed f k k.openLink (tablePresent f (actB f pSTK))
    if want = k.present ∨ k.change.isSome then (f, k)
    else announce f k ⟨stackMsc f + 64, want, k.openLink, true, false⟩

/-- SHED and SHED_SUM (R425). -/
def showShed (f : Fabric) (k : StkState) : Fabric :=
  if !isTimer f then f
  else
    let full := tablePresent f (actB f pSTK)
    let shed := full - (full &&& k.present)
    let was := (upto 5).map (fun i => rdN f (stkAt (0x74 + 4 * i)))
    let now := (upto 5).map (fun i => shed / 2 ^ (32 * i) % 2 ^ 32)
    let f := now.zipIdx.foldl (fun f (e : Nat × Nat) => wrN f (stkAt (0x74 + 4 * e.2)) e.1) f
    raiseIf (was != now) f pSTK 5

/-- The commit point of a swap of the STK unit on the timing master, for boundary b (R422). -/
def stkCommit (f : Fabric) (k : StkState) (b : Nat) : Fabric × StkState :=
  if !isTimer f then (f, k)
  else announce f k ⟨(b + mscOfs f) % 2 ^ 64, afterShed f k k.openLink (tablePresent f (!actB f pSTK)), k.openLink, false, false⟩

/-- A stack MSC has been reached, on its low 32 bits. -/
def mscPast (f : Fabric) (m : Nat) : Bool := decide (0 ≤ sx 32 ((stackMsc f + 2 ^ 32 - m % 2 ^ 32) % 2 ^ 32))

/-- A new set of groups present: the ones that the announced change sheds have faded, and recover by R408 when they come back
(R425). -/
def takePresent (k : StkState) (p : Nat) : StkState :=
  let shed := k.change.any (fun c => c.fades && c.present == p)
  let gone := if shed then (upto 160).filter (fun g => k.present.testBit g && !p.testBit g) else []
  { k with present := p, grps := gone.foldl (fun l g => mset (fun _ => GrpRx.reset) l g ⟨0, .mute 0⟩) k.grps }

/-- An announced CHG_AT is reached (R419, R421, R422, R425). -/
def chgApply (f : Fabric) (k : StkState) : Fabric × StkState :=
  match k.change with
  | none => (f, k)
  | some c =>
    if !mscPast f c.at_ then (f, k)
    else
      let moved := c.openLink != k.openLink
      let k := { takePresent k c.present with openLink := c.openLink, failed := if moved then [] else k.failed, change := none }
      let f := if !c.handback then f else if stkSt f = 4 then stkEnter f 8 else if stkSt f = 5 then stkEnter f 3 else f
      let f := showShed f k
      (ringShow f k, k)

/-- The normal open link: from the last member to the master (R404). -/
def normalOpen (k : StkState) : Nat := k.count - 1

/-- At most one link has failed, and not one of this device's own, of which it would see that it is up again (R420, R421). -/
def lineWhole (f : Fabric) (k : StkState) : Bool :=
  decide (k.failed.length ≤ 1) && k.failed.all (fun i => i != linkIndex f k 0 && i != linkIndex f k 1)

/-- The timing master announces the normal open link (R421). -/
def restore (f : Fabric) (k : StkState) : Fabric × StkState :=
  if !(isTimer f && k.openLink != normalOpen k && lineWhole f k && k.change.isNone) then (f, k)
  else
    let p := afterShed f k (normalOpen k) (tablePresent f (actB f pSTK))
    announce f k ⟨stackMsc f + msTicks f, p, normalOpen k, true, false⟩

/-- A failed link has been up for 100 ms without a CRC failure (R421). -/
def restoreAuto (f : Fabric) (k : StkState) : Fabric × StkState :=
  if getB f (stkAt 0x44) 2 then restore f k else (f, k)

/-- HANDBACK on the acting deputy (R419). -/
def handback (f : Fabric) (k : StkState) : Fabric × StkState :=
  if stkSt f = 4 ∧ k.change.isNone then announce f k ⟨stackMsc f + msTicks f, k.present, k.openLink, false, true⟩ else (f, k)

-- Enumeration (R412)

/-- The master sends ENUM eastward (R412). -/
def enumSend (f : Fabric) (k : StkState) : Fabric × StkState :=
  let f := putB (putF (stkEnter f 1) (stkAt 0x40) 13 8 0) (stkAt 0x40) 14 true
  (f, sendX { k with enumSent := true } 0 (mkMsg 0x03 0 0 false 0 1))

/-- CMD.ENUM (R412, R430). -/
def cmdEnum (f : Fabric) (k : StkState) : Fabric × StkState := if isTimer f then enumSend f k else (f, k)

/-- The members of the ring are present (R417). -/
def allPresent (f : Fabric) (n : Nat) : Fabric :=
  wrN (wrN f (stkAt 0x50) ((2 ^ n - 1) % 2 ^ 32)) (stkAt 0x54) ((2 ^ n - 1) / 2 ^ 32)

/-- An ENUM message arrives at UW (R412): at its sender the ring is closed; elsewhere the next ID is taken. A timing master that did
not send it discards it, since IDs stay as they are until it enumerates (R412, R418). -/
def enumMsg (f : Fabric) (k : StkState) (s : Nat) (m : BitVec 128) : Fabric × StkState :=
  if !uhlUp f s || msgType m != 3 || s != 1 then (f, k)
  else if !msgOk m then (crcFail f s 2, k)
  else if !enabled f pSTK then (f, sendX k 0 m)
  else if isTimer f || stkSt f == 6 then (f, k)
  else
    let n := msgPay m % 64
    let ovr := msgSub m != 0
    if stkSt f = 1 && idValid f && msgSrc m == stkId f && k.enumSent then
      let count := if ovr || n == 0 then 64 else n
      let k := { k with count := count, openLink := count - 1, failed := [], rolls := [], enumSent := true }
      let f := allPresent (putF (stkEnter f (if stkRole f = 3 then 3 else 4)) (stkAt 0x40) 29 24 (stkId f)) count
      let f := if ovr then raise (putB f (stkAt 0x4C) 6 true) pSTK 7 else f
      (ringShow f k, k)
    else if ovr || n == 0 then
      let f := stkEnter (putB f (stkAt 0x40) 14 false) 7
      (f, sendX k 0 (mkMsg 0x03 (msgSrc m) 0 false 1 0))
    else
      let f := putB (putF f (stkAt 0x40) 13 8 n) (stkAt 0x40) 14 true
      let f := stkEnter f (if stkRole f = 2 then 8 else if stkRole f = 3 then stkSt f else 2)
      (f, sendX { k with count := 0, failed := [] } 0 (mkMsg 0x03 (msgSrc m) 0 false 0 ((n + 1) % 64)))

/-- A link comes up (R402, R412, R420): the partner's ID, where it has one. -/
def uhlLinkUp (f : Fabric) (k : StkState) (s : Nat) (partner : Option Nat) : Fabric × StkState :=
  if !(enabled f (pUHL s) && (linkOf k s).trained) || uhlUp f s then (f, k)
  else
    let w := setBit (setFld (rdR f (uhlAt s 0x44)) 23 18 (partner.getD 0)) 24 partner.isSome
    let f := raise (putB (wrR f (uhlAt s 0x44) (setBit w 0 true)) (uhlAt s 0x0C) 3 false) (pUHL s) 0
    let k := setLink k s { linkOf k s with trained := false }
    let i := linkIndex f k s
    let rest := k.failed.filter (· != i)
    let k := if idValid f && k.failed.contains i then
        { k with failed := rest, openLink := if k.openLink = i then rest.head?.getD i else k.openLink }
      else k
    let f := if idValid f then ringShow f k else f
    if enabled f pSTK && stkRole f == 3 && uhlUp f 0 && uhlUp f 1 && !k.enumSent then enumSend f k else budgetEval f k

/-- A LINK_FAIL broadcast arrives (R420). -/
def linkFail (f : Fabric) (k : StkState) (s : Nat) (m : BitVec 128) : Fabric × StkState :=
  let (f, k, mine) := takeX f k s 6 m
  if !(mine && idValid f) then (f, k)
  else
    let i := msgPay m % 64
    ringFail f k (if (msgPay m).testBit 6 then (if i = 0 then k.count - 1 else i - 1) else i)

-- Contributions (R416, R423, R424, R426)

/-- A member of this device's trifle (14). -/
def inTrifle (f : Fabric) (i : Nat) : Bool :=
  enabled f pTRI && (upto 3).any (fun p => getF f (ra pTRI 0x44) (8 * p + 5) (8 * p) == i)
/-- This device's session agrees with the timing master's (R416). -/
def sessAgrees (f : Fabric) (k : StkState) : Bool :=
  running f && (isTimer f || match k.master with
    | none => false
    | some h =>
      let w := (h[0]?.getD 0).toNat
      (w.testBit 25 == rate96 f) && nfld w 28 26 == blockCode f && mscOfs f % blockLen f == 0)
/-- This device contributes to the ring (R416, R430). -/
def contributes (f : Fabric) (k : StkState) : Bool := enabled f pSTK && idValid f && sessAgrees f k
/-- This device writes group g (R422, R423). -/
def writesGroup (f : Fabric) (g : Nat) : Bool :=
  let w := stkAct f 3 g
  if bit w 6 then inTrifle f (fld w 5 0) && getB f (ra pTRI 0x48) 16 else fld w 5 0 == stkId f

/-- The slots of channel group g at egress MSC t (R409, R424). -/
def groupSlots (f : Fabric) (a : Audio) (g t : Nat) : List Word :=
  let rows := stkRows f (actB f pSTK) 1
  (upto 64).map (fun s => match rows.find? (fun e => fld e.2 12 0 == 64 * g + s) with
    | some e => wordOf (egress31 (sample a (t : Int) (0xC000 + e.1)))
    | none => 0)

/-- What this device adds to sum slot l in the cycle of tick t (R426). -/
def sumAdd (f : Fabric) (a : Audio) (l t : Nat) : Int :=
  let w := stkAct f 2 l
  if bit w 15 then sample a ((t : Int) - (blockLen f : Int)) (0x5000 + fld w 9 0) else 0

/-- A sum group with this device's contribution (R426). -/
def addSums (f : Fabric) (a : Audio) (g t : Nat) (l : List (BitVec 40)) : List (BitVec 40) :=
  l.zipIdx.map (fun (e : BitVec 40 × Nat) => e.1 + BitVec.ofInt 40 (sumAdd f a (64 * g + e.2) t))

/-- The frame with this device's groups and sums (R424, R426). -/
def contribute (f : Fabric) (k : StkState) (a : Audio) (t : Nat) (fr : CycFrame) : CycFrame :=
  if !contributes f k then fr
  else
    let mine := (upto 128).filter (fun g => k.present.testBit g && writesGroup f g)
    let valid := mine.foldl (fun v g => v ||| 2 ^ g) (hw fr 4 + hw fr 5 * 2 ^ 64)
    let grps := fr.grps.filter (fun e => !mine.contains e.1) ++ mine.map (fun g =>
      let s := groupSlots f a g t
      (g, s, BitVec.ofNat 32 (grpCrc s)))
    let sums := fr.sums.map (fun e =>
      if sumCrc e.2.1 = e.2.2.toNat ∧ (e.2.1.zipIdx.any (fun (v : BitVec 40 × Nat) => bit (stkAct f 2 (64 * e.1 + v.2)) 15)) then
        let l := addSums f a e.1 t e.2.1
        (e.1, l, BitVec.ofNat 32 (sumCrc l))
      else e)
    { fr with hdr := (fr.hdr.set 4 (BitVec.ofNat 64 valid)).set 5 (BitVec.ofNat 64 (valid / 2 ^ 64)), grps := grps, sums := sums }

/-- Free control slots take the synchronous messages that wait for this direction (R427). -/
def fillCtrl (f : Fabric) (k : StkState) (dir : Nat) (fr : CycFrame) : Fabric × StkState × CycFrame :=
  let goes (e : Nat × BitVec 128) : Bool :=
    if e.1 < 2 then e.1 == dir else decide (linePos k (stkId f) < linePos k (msgDst e.2)) == (dir == 0)
  let r := k.syncQ.foldl (fun (acc : List (BitVec 128) × List (Nat × BitVec 128)) e =>
    if !goes e then (acc.1, acc.2 ++ [e])
    else match acc.1.findIdx? (fun c => msgType c == 0) with
      | some i => (acc.1.set i e.2, acc.2)
      | none => (acc.1, acc.2 ++ [e])) (fr.ctrl, [])
  let late := (r.2.filter goes).length
  (if late = 0 then f else bump f (stkAt 0x9C) late, { k with syncQ := r.2 }, { fr with ctrl := r.1 })

/-- The header fields the timing master stamps (R405, R413). -/
def stampHdr (f : Fabric) (k : StkState) (h : List (BitVec 64)) (corr : Nat) : List (BitVec 64) :=
  let w0 := (h[0]?.getD 0).toNat
  let w0 := w0 - nfld w0 41 36 * 2 ^ 36 - nfld w0 28 24 * 2 ^ 24 - nfld w0 21 16 * 2 ^ 16 - nfld w0 35 35 * 2 ^ 35
  let sess := (running f).toNat + 2 * (rate96 f).toNat + 4 * blockCode f
  let w0 := w0 + stkId f * 2 ^ 36 + 2 ^ 35 + sess * 2 ^ 24 + k.openLink * 2 ^ 16
  let c := k.change.getD ⟨0, 0, 0, false, false⟩
  let h := h.set 0 (BitVec.ofNat 64 w0)
  let h := h.set 1 (BitVec.ofNat 64 (stackMsc f))
  let h := h.set 2 (BitVec.ofNat 64 (time40 f * 2 ^ 16 + timeFrac f / 2 ^ 24 * 2 ^ 8))
  let h := h.set 3 (BitVec.ofNat 64 (corr % 2 ^ 32))
  let h := h.set 6 (BitVec.ofNat 64 (k.present % 2 ^ 64))
  let h := h.set 7 (BitVec.ofNat 64 (k.present / 2 ^ 64 % 2 ^ 64))
  let h := h.set 8 (BitVec.ofNat 64 (k.present / 2 ^ 128 + c.at_ % 2 ^ 32 * 2 ^ 32))
  let h := h.set 9 (BitVec.ofNat 64 (c.present % 2 ^ 64))
  let h := h.set 10 (BitVec.ofNat 64 (c.present / 2 ^ 64 % 2 ^ 64))
  h.set 11 (BitVec.ofNat 64 (c.present / 2 ^ 128 + c.openLink * 2 ^ 32 + k.change.isSome.toNat * 2 ^ 38))

/-- A frame as its origin starts it (R405, R406). -/
def originFrame (f : Fabric) (k : StkState) (dir : Nat) : CycFrame :=
  let w0 := 0xC1CA * 2 ^ 48 + stkId f * 2 ^ 42 + getF f (stkAt 0x40) 29 24 * 2 ^ 36 + dir * 2 ^ 34 + k.openLink * 2 ^ 16 + k.seq % 2 ^ 16
  let h : List (BitVec 64) := [BitVec.ofNat 64 w0, BitVec.ofNat 64 (stackMsc f), 0, 0, 0, 0, BitVec.ofNat 64 (k.present % 2 ^ 64),
    BitVec.ofNat 64 (k.present / 2 ^ 64 % 2 ^ 64), BitVec.ofNat 64 (k.present / 2 ^ 128), 0, 0, 0]
  let zeros := List.replicate 64 (0 : BitVec 40)
  let sums := ((upto 32).filter (fun g => k.present.testBit (128 + g))).map (fun g => (g, zeros, BitVec.ofNat 32 (sumCrc zeros)))
  let slots := List.replicate 64 (0 : Word)
  let grps := ((upto 128).filter (fun g => k.present.testBit g)).map (fun g => (g, slots, BitVec.ofNat 32 (grpCrc slots)))
  { hdr := h, ctrl := List.replicate 16 0, grps := grps, sums := sums }

/-- This device takes part in cycles: it has an ID and is neither yielded nor in doubt. -/
def stkTakes (f : Fabric) : Bool := enabled f pSTK && idValid f && (isTimer f || stkSt f == 2 || stkSt f == 8)

/-- The sample tick's share of the line ends (R404, R406, R420): the frames this device originates at its MSC t. -/
def originate (f : Fabric) (k : StkState) (a : Audio) (t : Nat) : Fabric × StkState :=
  if !stkTakes f then (f, k)
  else
    let k := { k with seq := k.seq + 1 }
    (upto 2).foldl (fun (acc : Fabric × StkState) dir =>
      let f := acc.1
      let k := acc.2
      -- east frames (0) start at the member whose UW port faces an end, west frames at the one whose UE port does
      if !atEnd f k (1 - dir) || atEnd f k dir || !uhlUp f dir then acc
      else
        let fr := originFrame f k dir
        let fr := { fr with hdr := if isTimer f then stampHdr f k fr.hdr 0 else fr.hdr }
        let (f, k, fr) := fillCtrl f k dir (contribute f k a t fr)
        let fr := { fr with hdr := sealHdr fr.hdr }
        (f, if dir = 0 then { k with sentE := some fr } else { k with sentW := some fr })) (f, k)

-- Reception (R407, R408, R413 to R416)

/-- The part of a frame that this device may use: what passed its CRC (R407). -/
def goodParts (fr : CycFrame) : CycFrame :=
  { fr with ctrl := fr.ctrl.filter msgOk, grps := fr.grps.filter (fun e => grpCrc e.2.1 == e.2.2.toNat),
            sums := fr.sums.filter (fun e => sumCrc e.2.1 == e.2.2.toNat) }

/-- A frame as it is forwarded (R403, R405, R407): failed parts with inverted CRC, this device's messages taken out, and the
residence and arrival delay in CORR. -/
def forwardFrame (f : Fabric) (k : StkState) (a : Audio) (t dir res dly : Nat) (fr : CycFrame) : Fabric × StkState × CycFrame :=
  let ctrl := fr.ctrl.map (fun c =>
    if msgType c = 0 then c
    else if !msgOk c then BitVec.ofNat 128 (c.toNat / 2 ^ 16 * 2 ^ 16 + (2 ^ 16 - 1 - crc16 c))
    else if !msgBcast c && idValid f && msgDst c == stkId f then 0 else c)
  let grps := fr.grps.map (fun e => if grpCrc e.2.1 = e.2.2.toNat then e else (e.1, e.2.1, ~~~(BitVec.ofNat 32 (grpCrc e.2.1))))
  let sums := fr.sums.map (fun e => if sumCrc e.2.1 = e.2.2.toNat then e else (e.1, e.2.1, ~~~(BitVec.ofNat 32 (sumCrc e.2.1))))
  let corr := if hMasterValid fr then (hCorr fr + dly + res) % 2 ^ 32 else 0
  let fr := { fr with ctrl := ctrl, grps := grps, sums := sums, hdr := fr.hdr.set 3 (BitVec.ofNat 64 corr) }
  let fr := { fr with hdr := if isTimer f then stampHdr f k fr.hdr res else fr.hdr }
  let (f, k, fr) := fillCtrl f k dir (contribute f k a t fr)
  (f, k, { fr with hdr := sealHdr fr.hdr })

/-- A header that the timing master has passed (R413 to R419): role, session, time, presence and announcements. -/
def masterMark (f : Fabric) (t : TbState) (k : StkState) (fr : CycFrame) (dly : Nat) : Fabric × TbState × StkState :=
  if isTimer f && hMasterId fr == stkId f && !(stkSt f == 3 && hMasterId fr == 0) then (f, t, k)
  else
    -- another master: a strapped one that came up later yields, two strapped ones are in doubt, a deputy gives way
    let f :=
      if stkSt f = 3 then
        if hMasterId fr = 0 then raiseIf (stkSt f != 6) (stkEnter f 6) pSTK 8 else stkEnter f 5
      else if stkSt f = 4 then stkEnter f 8
      else if stkSt f = 1 && stkRole f == 3 && hMasterId fr != 0 then stkEnter f 5
      else f
    let f := putF f (stkAt 0x40) 29 24 (hMasterId fr)
    let opened := nfld (hw fr 0) 21 16
    let back := opened != k.openLink && k.change.any (fun c => c.openLink == opened)
    let k := takePresent k (hPresent fr)
    let k := { k with master := some (fr.hdr.take 3), heard := true,
                      openLink := opened, failed := if back then [] else k.failed, count := if k.count = 0 then nfld (hw fr 0) 21 16 + 1 else k.count }
    let c : Change := ⟨hw fr 8 / 2 ^ 32, hw fr 9 + hw fr 10 * 2 ^ 64 + hw fr 11 % 2 ^ 32 * 2 ^ 128, nfld (hw fr 11) 37 32,
      !locked f pSTK, stkSt f == 5 && nfld (hw fr 11) 37 32 == k.openLink &&
        hw fr 9 + hw fr 10 * 2 ^ 64 + hw fr 11 % 2 ^ 32 * 2 ^ 128 == k.present⟩
    let k := if (hw fr 11).testBit 38 then { k with change := some c } else { k with change := none }
    let bad := !sessAgrees f k
    let f := if bad then raiseIf (!k.mismatch) (putB f (stkAt 0x60) 0 true) pSTK 4 else f
    let k := { k with mismatch := bad }
    let f := if tablePresent f (actB f pSTK) != k.present then putB f (stkAt 0x60) 1 true else f
    let f := ringShow f k
    if getB f (stkAt 0x44) 1 then
      let ns := hw fr 2 / 2 ^ 16 % 2 ^ 40 * 2 ^ 8 + nfld (hw fr 2) 15 8
      let r := tbFollow f t ((ns + hCorr fr + dly) * 2 ^ 24 % 2 ^ 72)
        (min 0x4_7FFF_FFFF (max 0x3_8000_0000 (Config.masterIncr f.time.toNat)))
      (r.1, r.2, k)
    else (tbUnfollow f t, t, k)

/-- A part that ends at elapsed time now comes later than 100 ns before the next tick (R409). -/
def cycleLate (f : Fabric) (k : StkState) (now : Nat) : Bool :=
  running f && decide (1000000000 < (now - k.tickAt + 100) * fsHz f)

/-- A cycle frame is received at a port (R404 to R407, R409, R413, R416, R426): its parts, and this device's residence in 1/256 ns; its
last part ends at elapsed time now. -/
def cycleFrame (f : Fabric) (t : TbState) (k : StkState) (a : Audio) (now s res : Nat) (fr : CycFrame) : Fabric × TbState × StkState :=
  let dir := 1 - s
  if !uhlUp f s then (f, t, k)
  else if !hdrOk fr then
    let bad := { fr with hdr := fr.hdr.set 3 (BitVec.ofNat 64 (hw fr 3 % 2 ^ 32 + (2 ^ 32 - 1 - hcrcOf fr.hdr) * 2 ^ 32)) }
    let k := if uhlUp f dir && !atEnd f k dir then
        (if dir = 0 then { k with sentE := some bad } else { k with sentW := some bad }) else k
    (crcFail f s 0, t, k)
  else if hDir fr ≠ dir then (f, t, k)
  else
    let f := fr.ctrl.foldl (fun f c => if msgType c != 0 && !msgOk c then crcFail f s 2 else f) f
    let rd (g : Nat) : Bool := (stkRows f (actB f pSTK) 0).any (fun r => fld r.2 12 0 / 64 == g)
    let lost := (fr.grps.filter (fun e => grpCrc e.2.1 != e.2.2.toNat && rd e.1)).length +
      (fr.sums.filter (fun e => sumCrc e.2.1 != e.2.2.toNat)).length
    let k := { k with readCrc := k.readCrc + lost }
    let f := fr.grps.foldl (fun f e => if grpCrc e.2.1 = e.2.2.toNat then f else crcFail f s 1) f
    let f := fr.sums.foldl (fun f e => if sumCrc e.2.1 = e.2.2.toNat then f else crcFail f s 1) f
    let dly := getF f (uhlAt s 0x4C) 23 0
    let (f, t, k) := if hMasterValid fr && enabled f pSTK && stkRole f != 0 then masterMark f t k fr dly else (f, t, k)
    let good := goodParts fr
    let k := if cycleLate f k now then k else if dir = 0 then { k with recE := some good } else { k with recW := some good }
    if uhlUp f dir && !(idValid f && atEnd f k dir) then
      let r := forwardFrame f k a ((stackMsc f + 2 ^ 64 - mscOfs f) % 2 ^ 64) dir res dly fr
      (r.1, t, if dir = 0 then { r.2.1 with sentE := some r.2.2 } else { r.2.1 with sentW := some r.2.2 })
    else (f, t, k)

/-- The frames a member expects, by direction: none from a line end. -/
def expected (f : Fabric) (k : StkState) : List (Option CycFrame) :=
  (if atEnd f k 1 then [] else [k.recE]) ++ (if atEnd f k 0 then [] else [k.recW])

/-- The slots of channel group g as received: none where the group is missing (R408, R424). -/
def chanRx (f : Fabric) (k : StkState) (g : Nat) : Option (List Word) :=
  let rec' := expected f k
  match rec'.findSome? (fun o => o.bind (fun fr => if hValid fr g then (fr.grps.find? (fun e => e.1 == g)).map (·.2.1) else none)) with
  | some l => some l
  | none =>
    if rec'.any (fun o => match o with
      | none => true
      | some fr => !(fr.grps.any (fun e => e.1 == g))) then none
    else some (List.replicate 64 0)

/-- The slots of sum group g as received from both directions, added (R426). -/
def sumRx (f : Fabric) (k : StkState) (g : Nat) : Option (List Int) :=
  let parts := (expected f k).map (fun o => o.bind (fun fr => (fr.sums.find? (fun e => e.1 == g)).map (·.2.1)))
  if parts.any (·.isNone) then none
  else some (parts.foldl (fun acc o => acc.zipWith (fun x (v : BitVec 40) => sx 40 (ux 40 (x + v.toInt))) (o.getD []))
    (List.replicate 64 (0 : Int)))

/-- One cycle of a group (R408): the next reception state, the weight of its samples, whether they are held ones, and what is
counted: 1 a concealment, 2 a fade. -/
def grpCycle (v : GrpRx) (good : Bool) : GrpRx × Int × Bool × Nat :=
  if good then
    match v.ph with
    | .fade i w0 => if 32 ≤ i then (⟨0, .mute 1⟩, 0, true, 0) else (⟨0, .fade (i + 1) w0⟩, rshr (w0 * fadeOut i) 30, true, 0)
    | p =>
      let n := phNext p true true
      (⟨0, n.2⟩, n.1, false, 0)
  else
    let m := v.miss + 1
    match v.ph with
    | .fade i w0 => if 32 ≤ i then (⟨m, .mute 0⟩, 0, true, 0) else (⟨m, .fade (i + 1) w0⟩, rshr (w0 * fadeOut i) 30, true, 0)
    | .mute _ => (⟨m, .mute 0⟩, 0, true, 0)
    | p =>
      if m = 1 then (⟨m, p⟩, phWeight p, true, 1)
      else
        let w0 := phWeight p
        (⟨m, .fade 1 w0⟩, rshr (w0 * fadeOut 0) 30, true, 2)

/-- The weight under which a shed group's readers fade before CHG_AT (R425): own MSC t. -/
def shedWeight (f : Fabric) (k : StkState) (g t : Nat) : Int :=
  match k.change with
  | none => 2 ^ 30
  | some c =>
    let left := sx 32 ((c.at_ + 2 ^ 32 - (t + mscOfs f) % 2 ^ 32) % 2 ^ 32)
    if c.fades && k.present.testBit g && !c.present.testBit g && decide (0 < left) && decide (left ≤ 32) then fadeOut (32 - left.toNat)
    else 2 ^ 30

/-- Under two weights. -/
def weigh2 (w s v : Int) : Int := weigh s (weigh w v)

/-- The end of the cycle of own MSC t (R408, R409, R424, R426): ring inputs and sums of that tick. -/
def closeCycle (f : Fabric) (k : StkState) (a : Audio) (t : Nat) : Fabric × StkState × Audio :=
  if !(idValid f && decide (0 < k.count)) then (f, { k with recE := none, recW := none, heard := false }, a)
  else
    let on := contributes f k
    let rows := stkRows f (actB f pSTK) 0
    let need := (rows.map (fun e => fld e.2 12 0 / 64)).eraseDups.filter (fun g => k.present.testBit g)
    let r := need.foldl (fun (acc : Fabric × StkState) g =>
      let rx := chanRx f k g
      let c := grpCycle (mget (fun _ => GrpRx.reset) acc.2.grps g) rx.isSome
      let f := if c.2.2.2 = 0 then acc.1 else raise (bump acc.1 (stkAt (0x88 + 4 * c.2.2.2))) pSTK 9
      let held := match rx with
        | some l => if c.2.2.1 then acc.2.held
          else l.zipIdx.foldl (fun h (e : Word × Nat) => mset zeroI h (64 * g + e.2) (ingress31 (intOf e.1))) acc.2.held
        | none => acc.2.held
      (f, { acc.2 with grps := mset (fun _ => GrpRx.reset) acc.2.grps g c.1, held := held })) (f, k)
    let wOf (g : Nat) (ok : Bool) : Int := (grpCycle (mget (fun _ => GrpRx.reset) k.grps g) ok).2.1
    let a := rows.foldl (fun a e =>
      let s := fld e.2 12 0
      let g := s / 64
      let v := if on && k.present.testBit g then
          weigh2 (wOf g (chanRx f k g).isSome) (shedWeight f k g t) (mget zeroI r.2.held s) else 0
      putSource a t (0x3000 + e.1) v) a
    let sumNeed := (upto (sumGroups f)).filter (fun g => k.present.testBit (128 + g))
    let r2 := sumNeed.foldl (fun (acc : Fabric × StkState × Audio) g =>
      let rx := sumRx f k g
      let c := grpCycle (mget (fun _ => GrpRx.reset) acc.2.1.grps (128 + g)) rx.isSome
      let f := if c.2.2.2 = 0 then acc.1 else raise (bump acc.1 (stkAt (0x88 + 4 * c.2.2.2))) pSTK 9
      let held := match rx with
        | some l => if c.2.2.1 then acc.2.1.held
          else l.zipIdx.foldl (fun h (e : Int × Nat) => mset zeroI h (2 ^ 16 + 64 * g + e.2) e.1) acc.2.1.held
        | none => acc.2.1.held
      let sw := shedWeight f k (128 + g) t
      let a := (upto 64).foldl (fun a i =>
        let v := mget zeroI held (2 ^ 16 + 64 * g + i)
        let v := if c.2.1 = 2 ^ 30 then v else rshr (v * c.2.1) 30
        let v := if sw = 2 ^ 30 then v else rshr (v * sw) 30
        putSample a t (idSum (64 * g + i)) (if on then sx 40 (ux 40 (v + sumAdd f a (64 * g + i) t)) else 0)) acc.2.2
      (f, { acc.2.1 with grps := mset (fun _ => GrpRx.reset) acc.2.1.grps (128 + g) c.1, held := held }, a)) (r.1, r.2, a)
    (r2.1, { r2.2.1 with recE := none, recW := none, heard := false }, r2.2.2)

/-- The sample tick of a member whose master was silent in the last cycle (R298, R414): FOLLOWING ends. -/
def stkSilent (f : Fabric) (t : TbState) (k : StkState) : Fabric := if k.heard then f else tbUnfollow f t

-- Roll call and takeover (R417, R418)

def rollOf (k : StkState) (i : Nat) : RollSt := mget (fun _ => RollSt.reset) k.rolls i
def setRoll (k : StkState) (i : Nat) (v : RollSt) : StkState := { k with rolls := mset (fun _ => RollSt.reset) k.rolls i v }

/-- The timing master sends ROLL to every assigned ID and evaluates the budget (R410, R417). -/
def rollCall (f : Fabric) (k : StkState) : Fabric × StkState :=
  if !(isTimer f && enabled f pSTK) then (f, k)
  else
    let n := (k.rollNo + 1) % 2 ^ 16
    let k := ((upto k.count).filter (· != stkId f)).foldl (fun k i =>
      let k := setRoll k i { rollOf k i with wait := some n }
      sendX k (portTo f k i) (mkMsg 0x01 (stkId f) i false 0 n)) { k with rollNo := n }
    budgetEval f k

/-- A ROLL arrives and is answered (R417, R427). -/
def rollMsg (f : Fabric) (k : StkState) (s : Nat) (m : BitVec 128) : Fabric × StkState :=
  let (f, k, mine) := takeX f k s 1 m
  if !mine then (f, k)
  else
    let crc := (upto 2).foldl (fun n s => n + rdN f (uhlAt s 0x50) + rdN f (uhlAt s 0x54) + rdN f (uhlAt s 0x58)) 0
    let deg := getB f (uhlAt 0 0x44) 1 || getB f (uhlAt 1 0x44) 1
    let pay := msgPay m % 2 ^ 16 + stkSt f * 2 ^ 16 + (running f).toNat * 2 ^ 20 + (rate96 f).toNat * 2 ^ 21 +
      blockCode f * 2 ^ 22 + k.mismatch.toNat * 2 ^ 25 + deg.toNat * 2 ^ 26 +
      (decide (k.ueLast < ueCount f)).toNat * 2 ^ 27 + (decide (k.crcLast < crc)).toNat * 2 ^ 28
    let k := { k with ueLast := ueCount f, crcLast := crc }
    (f, sendX k s (mkMsg 0x02 (stkId f) (msgSrc m) false 0 pay))

/-- Bit i of a 64-bit status pair. -/
def memberBit (f : Fabric) (off i : Nat) : Bool := getB f (stkAt (off + 4 * (i / 32))) (i % 32)

/-- A ROLL_ANS arrives at the master (R416, R417). -/
def rollAns (f : Fabric) (k : StkState) (s : Nat) (m : BitVec 128) : Fabric × StkState :=
  let (f, k, mine) := takeX f k s 2 m
  if !(mine && isTimer f) then (f, k)
  else
    let i := msgSrc m
    let v := rollOf k i
    if v.wait ≠ some (msgPay m % 2 ^ 16) then (f, k)
    else
      let a := min 3 (v.answers + 1)
      let deg := (msgPay m).testBit 26
      let mis := (msgPay m).testBit 25
      let f := if a = 3 ∧ !memberBit f 0x50 i then raise (putB f (stkAt (0x50 + 4 * (i / 32))) (i % 32) true) pSTK 3 else f
      let was := memberBit f 0x58 i
      let f := raiseIf (mis && !was) (putB f (stkAt (0x58 + 4 * (i / 32))) (i % 32) mis) pSTK 4
      (f, setRoll k i ⟨0, a, none, deg⟩)

/-- A ROLL_ANS has not come in time (R417). -/
def rollMiss (f : Fabric) (k : StkState) (i : Nat) : Fabric × StkState :=
  let v := rollOf k i
  if !(isTimer f && v.wait.isSome) then (f, k)
  else
    let n := v.misses + 1
    let k := setRoll k i { v with misses := n, answers := 0, wait := none }
    if n = 3 ∧ memberBit f 0x50 i then (raise (bump (putB f (stkAt (0x50 + 4 * (i / 32))) (i % 32) false) (stkAt 0x88)) pSTK 2, k)
    else (f, k)

/-- A deputy takes over timing (R418). -/
def takeover (f : Fabric) (k : StkState) : Fabric × StkState :=
  if !(stkSt f == 8 && getB f (stkAt 0x44) 3 && enabled f pSTK && !k.heard) then (f, k)
  else
    let f := putF (stkEnter f 4) (stkAt 0x40) 29 24 (stkId f)
    let f := allPresent f k.count
    (raise (bump f (stkAt 0x98)) pSTK 6, k)

-- Link delay (R413, R427)

/-- {WRAP_COUNT, TIME_NS, TIME_FRAC[31:16]}. -/
def time56 (f : Fabric) : Nat := f.time.toNat / 2 ^ 16

/-- A delay measurement starts (R413); the master takes the other members' hop delays as reported to it. -/
def delayMeasure (f : Fabric) (k : StkState) (s : Nat) (hops : List (Nat × Nat)) : Fabric × StkState :=
  if !uhlUp f s then (f, k)
  else
    let k := sendX (setLink k s { linkOf k s with reqAt := some (time56 f) }) s (mkMsg 0x04 (stkId f) 0 false 0 (time56 f))
    let f := if isTimer f then hops.foldl (fun f e =>
        if 0 < e.1 ∧ e.1 < k.count then wrN f (stkAt (0x100 + 4 * e.1)) (e.2 % 2 ^ 24) else f) f else f
    (f, k)

/-- A DLY_REQ is answered with its own stamp advanced by this end's residence, in units of 2^-16 ns (R413). -/
def dlyReq (f : Fabric) (k : StkState) (s : Nat) (m : BitVec 128) (res : Nat) : Fabric × StkState :=
  if !uhlUp f s || msgType m != 4 then (f, k)
  else if !msgOk m then (crcFail f s 2, k)
  else (f, sendX k s (mkMsg 0x05 (stkId f) 0 false 0 ((msgPay m % 2 ^ 56 + res) % 2 ^ 56)))

/-- A DLY_RSP completes the exchange (R413): half the time since the advanced stamp is the delay; the master adds the upstream
residence to hop 0. -/
def dlyRsp (f : Fabric) (k : StkState) (s : Nat) (m : BitVec 128) (res : Nat) : Fabric × StkState :=
  if !uhlUp f s || msgType m != 5 then (f, k)
  else if !msgOk m then (crcFail f s 2, k)
  else match (linkOf k s).reqAt with
    | none => (f, k)
    | some _ =>
      let d : Nat := (time56 f + 2 ^ 56 - msgPay m % 2 ^ 56) % 2 ^ 56
      let v : Nat := (rne (d : Int) 512).toNat % 2 ^ 24
      let f := wrN f (uhlAt s 0x4C) v
      let f := if isTimer f && s == 1 then wrN f (stkAt 0x100) ((v + res) % 2 ^ 24) else f
      (f, setLink k s { linkOf k s with reqAt := none })

-- Table writes (R423)

/-- The groups that exist at the session's rate (R404). -/
def groupExists (f : Fabric) (g : Nat) : Bool := decide (g < chGroups f) || (decide (128 ≤ g) && decide (g < 128 + sumGroups f))

/-- The number of entries of a table. -/
def tableLen (f : Fabric) (t : Nat) : Nat := if t < 2 then 4096 else if t = 2 then (if rate96 f then 1024 else 2048) else 160

/-- The first check of R423 that a write fails: its code, or 0. -/
def mapCheck (f : Fabric) (k : StkState) (t i : Nat) (v : Word) : Nat :=
  let slot := fld v 12 0
  let sb := !actB f pSTK
  let owner := stkShd f 3 (slot / 64)
  if tableLen f t ≤ i ∨ (t < 2 ∧ rate96 f ∧ 4096 ≤ slot) then 0x0101
  else if t = 1 ∧ bit v 15 ∧ fld owner 5 0 ≠ stkId f ∧ !bit owner 6 then 0x0102
  else if t = 1 ∧ bit v 15 ∧ (stkRows f sb 1).any (fun e => e.1 != i && fld e.2 12 0 == slot) then 0x0103
  else if t = 3 ∧ isTimer f ∧ bit v 15 ∧
      !fits f k k.openLink (tablePresent f sb ||| (if groupExists f i then 2 ^ i else 0)) then 0x0104
  else 0

/-- A write of MAP_DATA by requester q (R422, R423). -/
def stkMapWrite (f : Fabric) (k : StkState) (q : Nat) (v : Word) : Fabric :=
  if !ready f pSTK then fail f pSTK 1 0xB4
  else
    let sel := rdO f q (stkAt 0xB0)
    let i := fld sel 12 0
    let t := fld sel 17 16
    let gate := shadowGate f pSTK
    let c := if gate ≠ 0 then gate else mapCheck f k t i v
    let f := wrO f q (stkAt 0xB8) (if c = 0 then 1 else if c = 0x01F0 then 3 else if c = 5 then 4 else 2)
    let f := if bit sel 20 then wrO f q (stkAt 0xB0) (setFld sel 12 0 (i + 1)) else f
    if c = 0 then wrShd f pSTK (stkKey t i) (v &&& 0xFFFF) else raise (fail f pSTK c i) pSTK 10

/-- A read of MAP_DATA by requester q (R422). -/
def stkMapRead (f : Fabric) (q : Nat) : Fabric :=
  let sel := rdO f q (stkAt 0xB0)
  let i := fld sel 12 0
  let t := fld sel 17 16
  let f := if bit sel 20 then wrO f q (stkAt 0xB0) (setFld sel 12 0 (i + 1)) else f
  answer f q (if i < tableLen f t then (stkShd f t i).toNat else 0)

-- Remote accesses (R427, R428)

/-- A member the timing master can reach. -/
def reachable (f : Fabric) (k : StkState) (i : Nat) : Bool := decide (i < k.count) && memberBit f 0x50 i

/-- A remote access fails: it reads 0 and is recorded (R428). -/
def remoteFail (f : Fabric) (q addr : Nat) (write : Bool) : Fabric :=
  accErr (if write then f else answer f q 0) q 1 .unmapped addr write

/-- An access through the stack window to another member (R428): it becomes REG_RD or REG_WR. -/
def remoteAccess (f : Fabric) (k : StkState) (q addr : Nat) (wdata : Option Word) : Fabric × StkState :=
  let i := addr / 2 ^ 24
  if !(isTimer f && enabled f pSTK && reachable f k i) then (remoteFail f q addr wdata.isSome, k)
  else
    let tag := k.nextTag
    let base := addr % 2 ^ 24 + tag * 2 ^ 24
    let m := match wdata with
      | none => mkMsg 0x10 (stkId f) i false 0 base
      | some w => mkMsg 0x11 (stkId f) i false 0 (base + w.toNat * 2 ^ 32)
    let k := { k with remote := k.remote ++ [⟨tag, i, q, addr, wdata.isSome⟩], nextTag := (tag + 1) % 256 }
    (f, sendX k (portTo f k i) m)

/-- The REG_RSP a target sends (R427). -/
def regRspMsg (f : Fabric) (m : BitVec 128) (data : Nat) (err : Bool) : BitVec 128 :=
  mkMsg 0x12 (stkId f) (msgSrc m) false 0 (nfld (msgPay m) 31 24 * 2 ^ 24 + data % 2 ^ 32 * 2 ^ 32 + err.toNat * 2 ^ 64)

/-- A REG_RSP completes a remote access (R428). -/
def regRsp (f : Fabric) (k : StkState) (s : Nat) (m : BitVec 128) : Fabric × StkState :=
  let (f, k, mine) := takeX f k s 0x12 m
  if !mine then (f, k)
  else match k.remote.find? (fun r => r.tag == nfld (msgPay m) 31 24 && r.member == msgSrc m) with
    | none => (f, k)
    | some r =>
      let k := { k with remote := k.remote.filter (· != r) }
      (if r.write then f else answer f r.req (nfld (msgPay m) 63 32), k)

/-- A remote access has had no response within 20 µs (R428): the oldest, since each waits as long. -/
def remoteTimeout (f : Fabric) (k : StkState) : Fabric × StkState :=
  match k.remote with
  | [] => (f, k)
  | r :: l => (remoteFail f r.req r.addr r.write, { k with remote := l })

-- Follow words (R237, R427)

/-- The update interval's index of an MSC (R231, R427). -/
def updIndex (f : Fabric) (u : Nat) : Nat := u / updLen f

/-- A synchronous broadcast goes both ways (R427). -/
def castSync (k : StkState) (m : BitVec 128) : StkState := { k with syncQ := k.syncQ ++ [(0, m), (1, m)] }

/-- The words a leader has published become synchronous broadcasts (R237, R427). -/
def sendFollow (f : Fabric) (x : IncState) (k : StkState) : IncState × StkState :=
  if !contributes f k then ({ x with pub := [] }, k)
  else
    let q := x.pub.flatMap (fun w =>
      let i := updIndex f w.at_
      [mkMsg 0x30 (stkId f) 0 true w.grp (ux 64 w.rho + i % 2 ^ 16 * 2 ^ 64),
       mkMsg 0x31 (stkId f) 0 true w.grp (ux 48 (w.pos / 2 ^ 48) + (w.pos % 2 ^ 48 / 2 ^ 32).toNat * 2 ^ 48 + w.slip * 2 ^ 64 +
         w.slipIdx * 2 ^ 66 + i % 2 ^ 8 * 2 ^ 72)])
    ({ x with pub := [] }, q.foldl castSync k)

/-- The MSC of an update whose index is known modulo n: the nearest to the present (R427). -/
def updMsc (f : Fabric) (i n : Nat) : Nat :=
  let cur := updIndex f f.msc.toNat
  let d := (i + n - cur % n) % n
  (if 2 * d ≤ n then cur + d else cur + d - n) * updLen f

/-- A synchronous message for this device arrived in a control slot of a port (R427). -/
def takeSync (f : Fabric) (s ty : Nat) (m : BitVec 128) : Fabric × Bool :=
  if !uhlUp f s || msgType m != ty then (f, false)
  else if !msgOk m then (crcFail f s 2, false)
  else (f, enabled f pSTK && idValid f && (msgBcast m || msgDst m == stkId f))

/-- A FOLLOW_RATIO word (R237, R427); leader is the group's leader. -/
def followRatioMsg (f : Fabric) (x : IncState) (s leader : Nat) (m : BitVec 128) (st : GrpSt) (p : Nat)
    (rho0 : Int) : Fabric × IncState :=
  let (f, mine) := takeSync f s 0x30 m
  let g := msgSub m
  if mine && leader == msgSrc m then
    followRatio f x g (updMsc f (msgPay m / 2 ^ 64) (2 ^ 16)) (sx 64 (msgPay m % 2 ^ 64)) st p rho0
  else (f, x)

/-- A FOLLOW_POS word (R237, R427). -/
def followPosMsg (f : Fabric) (x : IncState) (s leader : Nat) (m : BitVec 128) : Fabric × IncState :=
  let (f, mine) := takeSync f s 0x31 m
  let g := msgSub m
  let w := msgPay m
  if mine && leader == msgSrc m then
    followPos f x g (updMsc f (nfld w 79 72) (2 ^ 8)) (sx 48 (w % 2 ^ 48) * 2 ^ 48 + ((nfld w 63 48 * 2 ^ 32 : Nat) : Int)) (nfld w 65 64)
      (nfld w 70 66)
  else (f, x)

-- Roles at reset, enable, soft reset (R411, R415, R429, R430)

/-- The STK_ROLE strap as sampled (R411, R429, R430): a strapped member's links train and it takes part in enumeration. -/
def stkStrap (f : Fabric) (k : StkState) (role : Nat) : Fabric × StkState :=
  let f := wrN f (stkAt 0x40) (role % 4)
  if role % 4 = 0 then (f, k)
  else
    let f := putF (putB f (stkAt 0x08) 0 true) (stkAt 0x40) 19 16 1
    let r := uhlTrain (putB f (uhlAt 0 0x08) 0 true) k 0 1
    uhlTrain (putB r.1 (uhlAt 1 0x08) 0 true) r.2 1 1

/-- The engine's start at own MSC m fixes MSC_OFS (R415): 0 where the start is joined; otherwise the tick is the one after that of
the last header heard. -/
def stkStart (f : Fabric) (k : StkState) (m : Nat) (joined : Bool) : Fabric :=
  match k.master with
  | some h =>
    if isTimer f || !enabled f pSTK || joined then wrN (wrN f (stkAt 0x64) 0) (stkAt 0x68) 0
    else
      let d := ((h[1]?.getD 0).toNat + 1 + 2 ^ 64 - m % 2 ^ 64) % 2 ^ 64
      wrN (wrN f (stkAt 0x64) (d % 2 ^ 32)) (stkAt 0x68) (d / 2 ^ 32)
  | none => wrN (wrN f (stkAt 0x64) 0) (stkAt 0x68) 0

/-- An STK soft reset (R430): both banks of the four tables to 0. -/
def stkSoft (f : Fabric) : Fabric :=
  clearBanks (softClearOwn (softClear f pSTK (fun o => decide (o < 0x40))) pSTK) (stkKey 0 0) (stkKey 4 0)

end Sys2Proof.Machine
end

