-- ==== Sys2Proof/Machine/Stream.lean ====
section
/-! DEFINITION. The stream engine (12): the stream table, admission, reception with merging, loss and recovery, and transmission,
as functions of the fabric, the stream state, the ports' queues and the sample store. -/
namespace Sys2Proof.Machine

-- Entries (R385)

/-- A stream entry: its 16 words. -/
abbrev Entry := List Word

def ew (e : Entry) (i : Nat) : Word := e[i]?.getD 0
def stEn (e : Entry) : Bool := bit (ew e 0) 0
def stPort (e : Entry) (p : Nat) : Bool := bit (ew e 0) (1 + p)
def stFmt (e : Entry) : Nat := fld (ew e 0) 5 4
def stFifo (e : Entry) : Bool := bit (ew e 0) 6
def stForeign (e : Entry) : Bool := bit (ew e 0) 7
def stOwnGate (e : Entry) : Bool := bit (ew e 0) 7
def stTag (e : Entry) : Bool := bit (ew e 0) 6
def stRate (e : Entry) : Nat := fld (ew e 0) 10 8
def stSpp (e : Entry) : Nat := fld (ew e 0) 23 16
def stBase (e : Entry) : Nat := fld (ew e 1) 10 0
def stNch (e : Entry) : Nat := fld (ew e 1) 21 16 + 1
def stBytes (e : Entry) : Nat := fld (ew e 1) 25 24 + 2
def stOfs (e : Entry) : Nat := fld (ew e 2) 12 0
/-- The rate of a RATE code, hertz. -/
def rateHz (c : Nat) : Nat := [44100, 48000, 88200, 96000, 176400, 192000][c]?.getD 48000

/-- The words of an entry in a bank. -/
def entryOf (f : Fabric) (b tx : Bool) (n : Nat) : Entry := (upto 16).map (fun i => rdB f b (strKey tx n + i))

/-- The indices of the entries of a bank that are not all 0, ascending. -/
def entriesOf (f : Fabric) (b tx : Bool) : List Nat :=
  let lo := strKey tx 0
  ((mfilter (fun k => decide (lo ≤ k) && decide (k < lo + 8192)) (bankMap f b)).map (fun e => (e.1 - lo) / 16)).eraseDups

/-- The frame length of a TX stream (R395). -/
def txLen (e : Entry) : Nat :=
  (if stFmt e = 0 then 54 else if stFmt e = 1 then 74 else 38) + stNch e * stSpp e * stBytes e + 4 + (if stTag e then 4 else 0)

/-- Check 1 of R385. -/
def fieldsOk (tx : Bool) (e : Entry) : Bool :=
  decide (stFmt e < 3) && decide (stBytes e < 5) && !(stBytes e == 4 && stFmt e < 2) && decide (1 ≤ stSpp e) && decide (stSpp e ≤ 192) &&
    (if tx then !(stFmt e == 2 && bit (ew e 14) 31)
     else decide (stRate e < 6) && (if stFifo e then decide (1 ≤ stOfs e) && decide (stOfs e ≤ 512) else decide (stOfs e < 4096)))
/-- Check 2 of R385. -/
def chansOk (f : Fabric) (e : Entry) : Bool := decide (stBase e + stNch e ≤ if rate96 f then 1024 else 2048)
/-- Check 5 of R385: the frame fits MAX_FRAME of every port it is sent on. -/
def lenOk (f : Fabric) (e : Entry) : Bool :=
  (upto 2).all (fun p => !stPort e p || decide (txLen e ≤ getF f (netAt p 0x50) 13 0))
/-- Two entries' port matches are equal (R385). -/
def sameMatch (a b : Entry) (p : Nat) : Bool :=
  let words := if stFmt a = 0 then [3] else if stFmt a = 1 then [3, 4, 5, 6] else [3, 4]
  let half (w : Word) : Nat := if p = 0 then fld w 15 0 else fld w 31 16
  let vid (e : Entry) : Nat := if bit (ew e 0) 13 then (if p = 0 then fld (ew e 14) 11 0 else fld (ew e 14) 27 16) + 1 else 0
  stPort a p && stPort b p && stFmt a == stFmt b && words.all (fun i => ew a (i + 4 * p) == ew b (i + 4 * p)) &&
    (stFmt a == 2 || half (ew a 11) == half (ew b 11)) && vid a == vid b
/-- Two entries' channels overlap. -/
def overlaps (a b : Entry) : Bool := decide (stBase a < stBase b + stNch b) && decide (stBase b < stBase a + stNch a)

/-- The first check of R385 that a WRITE fails: its code, or 0. -/
def strVerdict (f : Fabric) (tx : Bool) (n : Nat) (e : Entry) : Nat :=
  let sb := !actB f pSTRM
  let others := ((entriesOf f sb false).filter (· != n)).map (entryOf f sb false) |>.filter stEn
  if !fieldsOk tx e then 0x0100
  else if !chansOk f e then 0x0101
  else if !tx && stEn e && others.any (overlaps e) then 0x0102
  else if !tx && stEn e && others.any (fun o => sameMatch e o 0 || sameMatch e o 1) then 0x0103
  else if tx && stEn e && !lenOk f e then 0x0104
  else 0

/-- STR_ACCESS.WRITE by requester q (R385). -/
def streamWrite (f : Fabric) (q : Nat) : Fabric :=
  if !ready f pSTRM then fail f pSTRM 1 0x44
  else
    let sel := rdO f q (ra pSTRM 0x40)
    let n := fld sel 8 0
    let tx := bit sel 16
    let e := (upto 16).map (fun i => rdO f q (ra pSTRM (0x80 + 4 * i)))
    let gate := shadowGate f pSTRM
    let c := if gate ≠ 0 then gate else strVerdict f tx n e
    let f := wrO f q (ra pSTRM 0x48) (if c = 0 then 1 else if c = 0x01F0 then 3 else if c = 5 then 4 else 2)
    if c = 0 then e.zipIdx.foldl (fun f (w : Word × Nat) => wrShd f pSTRM (strKey tx n + w.2) w.1) f
    else raise (fail f pSTRM c (n + tx.toNat * 2 ^ 16)) pSTRM 6

/-- STR_ACCESS.READ by requester q (R385). -/
def streamRead (f : Fabric) (q : Nat) : Fabric :=
  let sel := rdO f q (ra pSTRM 0x40)
  let e := entryOf f (!actB f pSTRM) (bit sel 16) (fld sel 8 0)
  wrO (e.zipIdx.foldl (fun f (w : Word × Nat) => wrO f q (ra pSTRM (0x80 + 4 * w.2)) w.1) f) q (ra pSTRM 0x48) 1

-- Status (R398)

def rxAt (n off : Nat) : Nat := ra (18 + n / 128) (0x40 + 0x18 * (n % 128) + off)
def txAt (n off : Nat) : Nat := ra (22 + n / 256) (0x40 + 0xC * (n % 256) + off)
def rxOf (x : StrmState) (n : Nat) : RxStream := mget (fun _ => RxStream.reset) x.rx n
def setRx (x : StrmState) (n : Nat) (v : RxStream) : StrmState := { x with rx := mset (fun _ => RxStream.reset) x.rx n v }

/-- The RX entries whose channels carry something: the admitted ones, and those that only fade. -/
def rxShown (x : StrmState) : List (Nat × Entry) := x.act.filter (fun e => decide (e.1 < 512)) ++ x.gone

/-- The admitted RX entries. -/
def rxActs (x : StrmState) : List (Nat × Entry) := x.act.filter (fun e => decide (e.1 < 512))
/-- Reception and transmission run: STRM[0].ENABLE is 1 during a session. -/
def strmOn (f : Fabric) : Bool := enabled f pSTRM && running f

/-- MUTE of a stream, and SETTLING (R398). -/
def strmShow (f : Fabric) (x : StrmState) (n : Nat) : Fabric :=
  let f := putB f (rxAt n 0) 3 (phMuted (rxOf x n).ph)
  putB f (ra pSTRM 0x0C) 3 ((rxActs x).any (fun e => phMuted (rxOf x e.1).ph))

/-- A valid packet of an entry's port arrived within the last 3 packet times, of elapsed time now in ns (R391, R398). -/
def portHeard (e : Entry) (v : RxStream) (now p : Nat) : Bool :=
  (if p = 0 then v.atA else v.atB).any (fun t => decide ((now - t) * rateHz (stRate e) < 3 * stSpp e * 1000000000))

/-- ACTIVE (R398): a valid packet within the last 3 packet times. -/
def strmActive (x : StrmState) (now n : Nat) : Bool :=
  (rxActs x).any (fun e => e.1 == n && (portHeard e.2 (rxOf x n) now 0 || portHeard e.2 (rxOf x n) now 1))

-- Admission (R386, R387)

/-- Whether R386 admits an enabled entry. -/
def strmFits (f : Fabric) (tx : Bool) (e : Entry) : Bool :=
  let spp := if rate96 f then [12, 24, 32, 96] else [6, 12, 16, 48]
  let atFs := spp.contains (stSpp e) && (tx || rateHz (stRate e) == fsHz f)
  chansOk f e && (if tx then atFs && lenOk f e else stFifo e || atFs)

/-- A stream starts from nothing: its buffer is cleared, and what its channels last carried fades out (R387, R391, R392). -/
def rxRestart (f : Fabric) (x : StrmState) (n : Nat) : Fabric × StrmState :=
  let v := rxOf x n
  let x := setRx x n { RxStream.reset with ph := phFade v.ph, last := v.last }
  (strmShow (putF f (rxAt n 0) 2 1 0) x n, x)

/-- Admission at engine start, and at a swap with boundary b (R386, R387). -/
def strmAdmit (f : Fabric) (x : StrmState) (b : Nat) : Fabric × StrmState :=
  let bank := actB f pSTRM
  let dir (tx : Bool) : List (Nat × Entry) := ((entriesOf f bank tx).map (fun n => (n, entryOf f bank tx n))).filter (fun e => stEn e.2)
  let rx := dir false
  let tx := dir true
  let act := (rx.filter (fun e => strmFits f false e.2)) ++
    ((tx.filter (fun e => strmFits f true e.2)).map (fun e => (e.1 + 512, e.2)))
  let prev := x.act
  let left : List Nat := (rx.filter (fun e => !strmFits f false e.2)).map (·.1) ++
    (tx.filter (fun e => !strmFits f true e.2)).map (fun e => e.1 + 512)
  let keys (l : List (Nat × Entry)) (p : Nat → Bool) : List Nat := (l.map (·.1)).filter p
  let ks : List Nat := (keys prev (fun _ => true) ++ keys rx (fun _ => true) ++ tx.map (fun (e : Nat × Entry) => e.1 + 512) ++ x.out).eraseDups
  let f : Fabric := ks.foldl (fun f k =>
    if k < 512 then putB f (rxAt k 0) 4 (left.contains k)
    else
      let n := k - 512
      let f := putB f (txAt n 0) 4 (left.contains k)
      let e := act.find? (fun e => e.1 == k)
      let f := putB f (txAt n 0) 0 e.isSome
      wrN f (txAt n 8) (e.elim 0 (fun (e : Nat × Entry) => stSpp e.2 + fld (ew e.2 15) 31 16 * 2 ^ 16))) f
  let f := raiseIf (!left.isEmpty) (putB f (ra pSTRM 0x54) 0 (!left.isEmpty)) pSTRM 7
  let x := { x with act := act, old := ((x.swapAt, prev) :: x.old).take 32, swapAt := b, out := left, gone := [] }
  let changed := (keys (prev ++ act) (fun k => decide (k < 512))).eraseDups.filter (fun k =>
    prev.find? (fun e => e.1 == k) != act.find? (fun e => e.1 == k))
  changed.foldl (fun (acc : Fabric × StrmState) n => rxRestart acc.1 acc.2 n) (f, x)

/-- The longest frame of a port's enabled TX streams (R370). -/
def txMax (f : Fabric) (p : Nat) : Nat :=
  let b := actB f pSTRM
  ((entriesOf f b true).map (entryOf f b true)).foldl (fun m e => if stEn e && stPort e p then max m (txLen e) else m) 0

-- Reception (R388 to R392)

/-- A frame matches an entry on a port (R374, R385). -/
def rxMatch (e : Entry) (p : Nat) (eth : Eth) (ip : Option Ip) : Bool :=
  let w (i : Nat) : Nat := (ew e (3 + 4 * p + i)).toNat
  let port := if p = 0 then fld (ew e 11) 15 0 else fld (ew e 11) 31 16
  let vid := if p = 0 then fld (ew e 14) 11 0 else fld (ew e 14) 27 16
  stPort e p && (!bit (ew e 0) 13 || (eth.tagged && eth.vid == vid)) &&
    (if stFmt e = 2 then eth.etype == 0x22F0 && be eth.pay 4 8 == w 0 * 2 ^ 32 + w 1
     else match ip with
       | none => false
       | some i =>
         i.proto == 17 && !i.odd && i.dport == port && i.v6 == (stFmt e == 1) &&
           beNat i.dst == (if i.v6 then ((w 0 * 2 ^ 32 + w 1) * 2 ^ 32 + w 2) * 2 ^ 32 + w 3 else w 0))

/-- The admitted entry that a frame on a port matches (R374). -/
def matchOf (x : StrmState) (p : Nat) (eth : Eth) (ip : Option Ip) : Option (Nat × Entry) :=
  (rxActs x).find? (fun e => rxMatch e.2 p eth ip)

/-- A packet's time-stamp, sequence value and payload where it passes the header checks (R389). -/
def parsePacket (e : Entry) (eth : Eth) (ip : Option Ip) : Option (Nat × Nat × List Byte) :=
  let size := stNch e * stSpp e * stBytes e
  if stFmt e = 2 then
    let l := eth.pay
    let fmt := if stBytes e = 2 then 4 else if stBytes e = 3 then 3 else 2
    let b1 := be l 1 1
    if be l 0 1 = 2 ∧ b1 / 128 = 1 ∧ b1 / 16 % 8 = 0 ∧ (stFifo e = true ∨ b1 % 2 = 1) ∧ be l 16 1 = fmt ∧ be l 17 1 / 16 = stRate e + 4 ∧
        be l 17 2 % 1024 = stNch e ∧ be l 19 1 ≤ 8 * stBytes e ∧ be l 20 2 = size ∧ size ≤ (l.drop 24).length then
      some (be l 12 4, be l 2 1, (l.drop 24).take size)
    else none
  else match ip with
    | none => none
    | some i =>
      let l := i.pay
      let b0 := be l 0 1
      let hdr := 12 + 4 * (b0 % 16)
      let hdr := if b0 / 16 % 2 = 1 then hdr + 4 + 4 * be l (hdr + 2) 2 else hdr
      let pad := if b0 / 32 % 2 = 1 then be l (l.length - 1) 1 else 0
      if i.ok = true ∧ b0 / 64 = 2 ∧ 12 ≤ l.length ∧ l.length = hdr + size + pad ∧
          (!bit (ew e 0) 11 || be l 8 4 == (ew e 12).toNat) = true ∧ (!bit (ew e 0) 12 || be l 1 1 % 128 == fld (ew e 13) 6 0) = true then
        some (be l 4 4, be l 2 2, (l.drop hdr).take size)
      else none

/-- The samples of a packet, in order, by network RX channel (R389, R8). -/
def packetFrames (e : Entry) (pay : List Byte) : List PFrame :=
  (upto (stSpp e)).map (fun i => (upto (stNch e)).map (fun c =>
    (stBase e + c, ingressW (8 * stBytes e) (be pay ((i * stNch e + c) * stBytes e) (stBytes e)))))

/-- A loss is counted (R392). -/
def countLoss (f : Fabric) (n k : Nat) : Fabric :=
  if k = 0 then f else raise (putB (bumpF f (rxAt n 0x10) 15 0 k) (rxAt n 0) 11 true) pSTRM 2

/-- The phase after a clean packet (R392): 8 of them end the mute once the buffer is read. -/
def phPacket (ph : Phase) (full : Bool) : Phase :=
  match ph with
  | .mute n => if !full then .mute 0 else if 7 ≤ n then .ramp 0 else .mute (n + 1)
  | p => p

/-- A packet that is not clean: the count of clean packets starts again (R392). -/
def phUnclean (ph : Phase) : Phase :=
  match ph with
  | .mute _ => .mute 0
  | p => p

/-- One sample leaves the stream: what its channels carry, the next phase, and the last sample received (R392). -/
def strmEmit (ph : Phase) (last fr : PFrame) : PFrame × Phase × PFrame :=
  let r := match ph with
    | .live => ((2 ^ 30 : Int), Phase.live)
    | .fade i w0 => if 32 ≤ i then (0, .fade i w0) else (rshr (w0 * fadeOut i) 30, .fade (i + 1) w0)
    | .mute n => (0, .mute n)
    | .ramp i => if 256 ≤ i then (2 ^ 30, .ramp i) else (((i + 1 : Nat) : Int) * 2 ^ 22, .ramp (i + 1))
  let out := match ph with
    | .fade _ _ => last
    | _ => fr
  let keep := match ph with
    | .fade _ _ => last
    | _ => if fr.isEmpty then last else fr
  (out.map (fun e => (e.1, weigh r.1 e.2)), r.2, keep)

/-- A stream's channels carry a sample in ingress period m: as matrix sources, or as raw samples (R225, R388). -/
def strmPut (a : Audio) (raw : Bool) (m : Nat) (fr : PFrame) : Audio :=
  fr.foldl (fun a e =>
    if raw then putRaw a m (0x1000 + e.1) e.2
    else putSource a m (0x1000 + e.1) e.2) a

/-- A FIFO stream read at the media clock: the samples per sample period; 0 where conditioning takes them as they arrive
(R388). -/
def fifoRatio (f : Fabric) (e : Entry) : Nat :=
  if stForeign e ∨ rateHz (stRate e) % fsHz f ≠ 0 then 0 else rateHz (stRate e) / fsHz f

/-- The first ingress MSC of a TIMED packet (R388). -/
def timedFirst (f : Fabric) (t : TbState) (e : Entry) (ts : Nat) : Int :=
  let cur := f.msc.toNat
  (if stFmt e = 2 then mscOfTime f ts
   else (cur : Int) + sx 32 ((ts + 2 ^ 32 - mediaCount f t cur % 2 ^ 32) % 2 ^ 32)) + stOfs e

/-- A packet whose last byte passed at time ns is in time for ingress period m (R390). -/
def inTime (f : Fabric) (ns : Nat) (m : Int) : Bool :=
  let b : Int := blockLen f
  let tick := (m / b + 1) * b - (latchMsc f : Int)
  let d := sx 32 ((ns + 2 ^ 32 - latchNs f) % 2 ^ 32)
  decide ((blockStart f : Int) ≤ m) && decide ((d + 2000) * (fsHz f : Int) ≤ tick * 1000000000)

/-- A TIMED packet places its samples (R388, R390). -/
def placeTimed (f : Fabric) (x : StrmState) (n : Nat) (first : Int) (ns : Nat) (frs : List PFrame) : Fabric × StrmState :=
  let v := rxOf x n
  let r := frs.zipIdx.foldl (fun (acc : List (Nat × PFrame) × Bool) (fr : PFrame × Nat) =>
    let m := first + (fr.2 : Int)
    if inTime f ns m then (mset (fun _ => []) acc.1 m.toNat fr.1, acc.2) else (acc.1, true)) (v.buf, false)
  let f := if r.2 then raise (putB (bumpF f (rxAt n 0x10) 31 16) (rxAt n 0) 8 true) pSTRM 0 else f
  (f, setRx x n { v with buf := r.1, ph := if r.2 then phUnclean v.ph else phPacket v.ph true })

/-- A frame enters a FIFO stream's buffer of 1024 samples (R388). -/
def fifoPush (v : RxStream) (fr : PFrame) : RxStream :=
  let v := { v with seq := v.seq + 1, slip := v.slip.map (fun (s : BufSlip) => { s with win := (s.win ++ [fr]).take 32 }) }
  if 1024 ≤ v.buf.length then v else { v with buf := v.buf ++ [(v.seq - 1, fr)] }

/-- The slip check of a FIFO stream every 64 packets (R388). -/
def fifoCheck (e : Entry) (v : RxStream) : RxStream :=
  if v.pkts < 64 then v
  else
    let slip := if v.slip.isSome then v.slip
      else if stOfs e + 2 * stSpp e < v.minFill then some ⟨true, v.seq, []⟩
      else if 2 * v.minFill < stOfs e then some ⟨false, v.seq, []⟩
      else none
    { v with slip := slip, pkts := 0, minFill := 1024 }

/-- The buffer that conditioning reads is handed over as it fills; one read at the media clock refills to LINK_OFS first (R388, R392). -/
def fifoReads (f : Fabric) (e : Entry) (v : RxStream) : Bool := v.reading || fifoRatio f e == 0 || decide (stOfs e ≤ v.buf.length)

/-- A packet of a FIFO stream (R388, R391, R392): sequence values of the given width. -/
def placeFifo (f : Fabric) (x : StrmState) (n : Nat) (e : Entry) (seq : Nat) (frs : List PFrame) : Fabric × StrmState :=
  let k := if stFmt e = 2 then 2 ^ 8 else 2 ^ 16
  let v := rxOf x n
  let d := match v.used with
    | [] => 1
    | u :: _ => (seq + k - u) % k
  let v := { v with used := (seq :: v.used).take 64 }
  if d = 0 ∨ 9 < d then
    -- a larger gap or a backward jump starts over
    let v := { RxStream.reset with ph := phFade v.ph, last := v.last, used := v.used, atA := v.atA, atB := v.atB }
    let v := frs.foldl fifoPush v
    let v := { v with reading := fifoReads f e v }
    (strmShow f (setRx x n v) n, setRx x n v)
  else
    let f := countLoss f n (d - 1)
    let v := if 1 < d then { v with ph := phFade v.ph } else v
    let fill := (upto ((d - 1) * stSpp e)).map (fun _ => v.last)
    let v := { v with minFill := min v.minFill v.buf.length, pkts := v.pkts + 1 }
    let v := (fill ++ frs).foldl fifoPush v
    let v := { v with reading := fifoReads f e v }
    let v := if d = 1 then { v with ph := phPacket v.ph v.reading } else v
    let v := if fifoRatio f e = 1 then fifoCheck e v else v
    (strmShow f (setRx x n v) n, setRx x n v)

/-- A packet that is dropped or discarded whole breaks the run of clean packets (R392). -/
def rxUnclean (x : StrmState) (i : Nat) : StrmState := setRx x i { rxOf x i with ph := phUnclean (rxOf x i).ph }

/-- A matched frame (R388 to R392): its last byte passed the time-stamp point at time ns. Without a session there is no sample period to
place a sample in. -/
def strmRx (f : Fabric) (t : TbState) (x : StrmState) (n : NetState) (p i : Nat) (e : Entry) (eth : Eth) (ip : Option Ip) (ns : Nat) :
    Fabric × StrmState × NetState :=
  let n := stat n p 12
  if !enabled f pSTRM then (f, x, n)
  else match parsePacket e eth ip with
  | none => (raise (putB (bumpF f (rxAt i 0x14) 15 0) (rxAt i 0) 10 true) pSTRM 1, rxUnclean x i, stat n p 13)
  | some (ts, seq, pay) =>
    let first := timedFirst f t e ts
    if !stFifo e && running f && decide ((blockStart f : Int) + (if rate96 f then 8192 else 4096) ≤ first) then
      (raise (putB (bumpF f (rxAt i 0x14) 15 0) (rxAt i 0) 9 true) pSTRM 1, rxUnclean x i, n)
    else
      let f := putB (bump f (rxAt i (4 + 4 * p))) (rxAt i 0) (1 + p) true
      let v := rxOf x i
      let x := setRx x i (if p = 0 then { v with atA := some n.now } else { v with atB := some n.now })
      let merged := stPort e 0 && stPort e 1
      if merged && v.used.contains seq then (bump f (rxAt i 0xC), x, n)
      else
        let frs := packetFrames e pay
        if !running f then (f, setRx x i { rxOf x i with used := (seq :: v.used).take 64 }, n)
        else if stFifo e then
          let r := placeFifo f x i e seq frs
          (r.1, r.2, n)
        else
          let x := setRx x i { rxOf x i with used := (seq :: v.used).take 64 }
          let r := placeTimed f x i first ns frs
          (strmShow r.1 r.2 i, r.2, n)

/-- The gather of the ingress block that starts at w (R388, R392): TIMED streams. -/
def strmGather (f : Fabric) (x : StrmState) (a : Audio) (w : Nat) : Fabric × StrmState × Audio :=
  ((rxShown x).filter (fun e => !stFifo e.2)).foldl (fun (acc : Fabric × StrmState × Audio) en =>
    let r := (upto (blockLen f)).foldl (fun (acc : Fabric × RxStream × Audio) i =>
      let v := acc.2.1
      match v.buf.find? (fun e => e.1 == w + i) with
      | some fr =>
        let o := strmEmit v.ph v.last fr.2
        (acc.1, { v with ph := o.2.1, last := o.2.2, gap := 0, buf := v.buf.filter (fun e => decide (w + i < e.1)) },
          strmPut acc.2.2 false (w + i) o.1)
      | none =>
        let on := enabled f pSTRM && !x.gone.contains en
        let f := if on && v.gap % max 1 (stSpp en.2) == 0 then countLoss acc.1 en.1 1 else acc.1
        let ph := phFade v.ph
        let o := strmEmit ph v.last []
        (f, { v with ph := o.2.1, gap := if on then v.gap + 1 else 0 }, strmPut acc.2.2 false (w + i) o.1)) (acc.1, rxOf acc.2.1 en.1, acc.2.2)
    let x := setRx acc.2.1 en.1 r.2.1
    (strmShow r.1 x en.1, x, r.2.2)) (f, x, a)

/-- A FIFO stream whose buffer a conditioning channel's ASRC loop consumes hands over what it holds, and while it fades out with
nothing held one more sample of the fade (R388, R392; log 86). -/
def fifoDrain (a : Audio) (v : RxStream) (m : Nat) : RxStream × Audio :=
  let fades := match v.ph with
    | .fade i _ => decide (i < 32)
    | _ => false
  let v := if v.buf.isEmpty && fades then { v with buf := [(v.seq, [])] } else v
  let r := v.buf.foldl (fun (acc : RxStream × Audio) fr =>
    let o := strmEmit acc.1.ph acc.1.last fr.2
    ({ acc.1 with ph := o.2.1, last := o.2.2 }, strmPut acc.2 true m o.1)) (v, a)
  ({ r.1 with buf := [] }, r.2)

/-- A FIFO stream read at the media clock, k samples a sample period: one read of its buffer (R388, R392). -/
def fifoRead (f : Fabric) (a : Audio) (v : RxStream) (n k m : Nat) : Fabric × RxStream × Audio :=
  if !v.reading then
    let o := strmEmit v.ph v.last []
    (f, { v with ph := o.2.1 }, strmPut a (k != 1) m o.1)
  else match v.buf with
    | [] =>
      let f := if enabled f pSTRM then countLoss f n 1 else f
      let o := strmEmit (phFade v.ph) v.last []
      (f, { v with ph := o.2.1, reading := false }, strmPut a (k != 1) m o.1)
    | fr :: rest =>
      let o := strmEmit v.ph v.last fr.2
      (f, { v with ph := o.2.1, last := o.2.2, buf := rest }, strmPut a (k != 1) m o.1)

/-- The sample tick's share of the FIFO streams (R388, R392). -/
def strmTick (f : Fabric) (x : StrmState) (a : Audio) (m : Nat) : Fabric × StrmState × Audio :=
  ((rxShown x).filter (fun e => stFifo e.2)).foldl (fun (acc : Fabric × StrmState × Audio) en =>
    let k := fifoRatio f en.2
    let v := rxOf acc.2.1 en.1
    let r : Fabric × RxStream × Audio :=
      if k = 0 then (acc.1, fifoDrain acc.2.2 v m)
      else (upto k).foldl (fun (acc : Fabric × RxStream × Audio) _ => fifoRead acc.1 acc.2.2 acc.2.1 en.1 k m) (acc.1, v, acc.2.2)
    let x := setRx acc.2.1 en.1 r.2.1
    (strmShow r.1 x en.1, x, r.2.2)) (f, x, a)

-- Steered clock generators (R354)

/-- The stream a STEER master follows (R354): the one that carries the first RX channel of its lowest pin. -/
def steerStream (f : Fabric) (x : StrmState) (i : Nat) : Option Entry :=
  match (cgPins f i).find? (fun p => pinDir f p != 0) with
  | none => none
  | some p =>
    let c := getF f (sapAt p 0x4C) 10 0
    ((rxActs x).find? (fun e => decide (stBase e.2 ≤ c) && decide (c < stBase e.2 + stNch e.2))).map (·.2)

/-- The frames that the channels of a stream carry at a sample tick (R354): those of a source that delivers its own samples, else the
newest sample that the engine has gathered; a channel of another stream reads 0. -/
def steerFrames (f : Fabric) (a : Audio) (e : Entry) (m : Nat) : List (Nat → Int) :=
  let mine (c : Nat) : Bool := decide (stBase e ≤ c) && decide (c < stBase e + stNch e)
  if stFifo e && fifoRatio f e != 1 then
    (upto (arrivals a m (0x1000 + stBase e)).length).map (fun j c => if mine c then (arrivals a m (0x1000 + c))[j]?.getD 0 else 0)
  else
    let at_ : Int := if stFifo e then m else (m : Int) - (blockLen f + 1 : Nat)
    [fun c => if mine c then sample a at_ (0x1000 + c) else 0]

/-- The sample tick's share of the STEER masters (R354). -/
def steerTick (f : Fabric) (x : StrmState) (o : PortState) (a : Audio) (m : Nat) : Fabric × PortState :=
  ((upto 16).filter (fun i => cgSteer f i && steerRuns f i)).foldl (fun (acc : Fabric × PortState) i =>
    match steerStream acc.1 x i with
    | none => acc
    | some e => (steerFrames acc.1 a e m).foldl (fun (acc : Fabric × PortState) ch => steerFeed acc.1 acc.2 i ch) acc) (f, o)

/-- A FIFO stream's slip is placed once its window is complete (R235, R236, R388). -/
def strmSlip (f : Fabric) (x : StrmState) (n : Nat) : Fabric × StrmState :=
  let v := rxOf x n
  match v.slip with
  | none => (f, x)
  | some s =>
    if s.win.length < 32 then (f, x)
    else
      let i := slipIndex [s.win.map (fun fr => ((fr.foldl (fun m e => max m e.2.natAbs) 0 : Nat) : Int))]
      let x := setRx x n { v with slip := none, buf := bufSlip s.drop (s.start + i) v.buf }
      (raise (putB (bumpF f (rxAt n 0x14) 31 16) (rxAt n 0) 12 true) pSTRM 3, x)

/-- A stream's fade has ended (R392). -/
def strmFadeEnd (f : Fabric) (x : StrmState) (n : Nat) : Fabric × StrmState :=
  let v := rxOf x n
  match v.ph with
  | .fade k _ =>
    if 32 ≤ k ∨ !strmOn f then
      let x := setRx x n { v with ph := .mute 0 }
      (strmShow f x n, x)
    else (f, x)
  | _ => (f, x)

/-- A stream's recovery ramp has ended (R392). -/
def strmRecoveryEnd (f : Fabric) (x : StrmState) (n : Nat) : Fabric × StrmState :=
  let v := rxOf x n
  match v.ph with
  | .ramp k =>
    if 256 ≤ k then
      let x := setRx x n { v with ph := .live }
      (strmShow f x n, x)
    else (f, x)
  | _ => (f, x)

/-- A port has delivered nothing for 3 packet times while the other delivers (R391). -/
def strmPortDown (f : Fabric) (x : StrmState) (now n p : Nat) : Fabric :=
  match (rxActs x).find? (fun e => e.1 == n) with
  | some e =>
    if stPort e.2 0 && stPort e.2 1 && getB f (rxAt n 0) (1 + p) &&
        !portHeard e.2 (rxOf x n) now p && portHeard e.2 (rxOf x n) now (1 - p) then
      raise (putB f (rxAt n 0) (1 + p) false) pSTRM 4
    else f
  | none => f

/-- A write of STRM[0].ENABLE (R392, R398). -/
def strmEnable (f : Fabric) (x : StrmState) (on : Bool) : Fabric × StrmState :=
  let was := enabled f pSTRM
  let f := putB f (ra pSTRM 0x08) 0 on
  if on == was then (f, x)
  else (rxActs x).foldl (fun (acc : Fabric × StrmState) e =>
    let v := rxOf acc.2 e.1
    if on then rxRestart acc.1 acc.2 e.1
    else
      let x := setRx acc.2 e.1 { v with ph := phFade v.ph }
      (strmShow acc.1 x e.1, x)) (f, x)

/-- A STRM[0] soft reset (R398). -/
def strmSoft (f : Fabric) (x : StrmState) : Fabric × StrmState :=
  let f := softClearOwn (softClear f pSTRM (fun o => decide (o < 0x40))) pSTRM
  let f := clearBanks f (strKey false 0) (strKey true 512)
  let f := putB (putB f (ra pSTRM 0x54) 0 false) (ra pSTRM 0x0C) 3 false
  let f := x.act.foldl (fun f e =>
    if e.1 < 512 then putF f (rxAt e.1 0) 4 0 0 else wrN (putF f (txAt (e.1 - 512) 0) 4 0 0) (txAt (e.1 - 512) 8) 0) f
  let gone := (rxActs x).filter (fun e => !phMuted (rxOf x e.1).ph)
  let rx := gone.foldl (fun l e => mset (fun _ => RxStream.reset) l e.1
    { RxStream.reset with ph := phFade (rxOf x e.1).ph, last := (rxOf x e.1).last }) []
  (f, { StrmState.reset with rx := rx, gone := gone })

-- Transmission (R393 to R396)

/-- The entries in force at egress MSC m (R387). -/
def entriesAt (x : StrmState) (m : Nat) : List (Nat × Entry) :=
  if x.swapAt ≤ m then x.act
  else match x.old.find? (fun g => decide (g.1 ≤ m)) with
    | some g => g.2
    | none => []

/-- The TX entry of a packet whose first sample has egress MSC m (R387). -/
def txEntry (x : StrmState) (n m : Nat) : Option Entry := ((entriesAt x m).find? (fun e => e.1 == n + 512)).map (·.2)

/-- The packet sizes of a TX stream's entries of late (R387). -/
def txSpps (x : StrmState) (n : Nat) : List Nat :=
  ((x.act :: x.old.map (·.2)).filterMap (fun l => (l.find? (fun e => e.1 == n + 512)).map (fun e => stSpp e.2))).eraseDups

/-- The header values and payload of a packet (R393). -/
def packetOf (f : Fabric) (t : TbState) (a : Audio) (n m : Nat) (e : Entry) : Packet :=
  let c := mediaCount f t m
  let pres := (latchNs f : Int) + rne (((m : Int) - (latchMsc f : Int)) * 1000000000) (fsHz f) + ((ew e 14).toNat : Int)
  let pay := (upto (stSpp e)).flatMap (fun i => (upto (stNch e)).flatMap (fun ch =>
    beBytes (stBytes e) (egressW (8 * stBytes e) (sample a ((m + i : Nat) : Int) (0xA000 + stBase e + ch)))))
  if stFmt e = 2 then ⟨n, m, ux 32 pres, c / stSpp e % 2 ^ 8, pay⟩
  else ⟨n, m, c % 2 ^ 32, c / stSpp e % 2 ^ 16, pay⟩

/-- The RTP header and payload of a packet (R393). -/
def rtpBytes (e : Entry) (k : Packet) : List Byte :=
  [0x80, BitVec.ofNat 8 (fld (ew e 15) 6 0)] ++ beBytes 2 k.seq ++ beBytes 4 k.ts ++ beBytes 4 (ew e 14).toNat ++ k.payload
/-- The AVTP header and payload of a packet (R389, R393): tv 1, mr and tu 0. -/
def aafBytes (f : Fabric) (e : Entry) (k : Packet) : List Byte :=
  [0x02, 0x81, BitVec.ofNat 8 k.seq, 0] ++ beBytes 4 (ew e 5).toNat ++ beBytes 4 (ew e 6).toNat ++ beBytes 4 k.ts ++
    [if stBytes e = 2 then 4 else if stBytes e = 3 then 3 else 2] ++
    beBytes 2 ((if rate96 f then 7 else 5) * 2 ^ 12 + stNch e) ++ [BitVec.ofNat 8 (8 * stBytes e)] ++
    beBytes 2 k.payload.length ++ [Config.aafEvt k.stream k.seq, 0] ++ k.payload

/-- An IPv4 packet with a UDP datagram (R393): the header checksum is computed, the UDP checksum is 0. -/
def udp4Bytes (e : Entry) (k : Packet) (pay : List Byte) : List Byte :=
  let ttl := if fld (ew e 2) 23 16 = 0 then 64 else fld (ew e 2) 23 16
  let id := Config.ipIdent k.stream k.seq
  let hdr (ck : Nat) : List Byte := [0x45, BitVec.ofNat 8 (4 * fld (ew e 2) 29 24)] ++ beBytes 2 (28 + pay.length) ++
    beBytes 2 (fld id 15 0) ++ beBytes 2 ((bit id 16).toNat * 2 ^ 14) ++ [BitVec.ofNat 8 ttl, 17] ++ beBytes 2 ck ++
    beBytes 4 (ew e 9).toNat ++ beBytes 4 (ew e 5).toNat
  hdr (0xFFFF - onesSum (hdr 0)) ++ beBytes 2 (fld (ew e 13) 31 16) ++ beBytes 2 (fld (ew e 13) 15 0) ++
    beBytes 2 (8 + pay.length) ++ [0, 0] ++ pay
/-- An IPv6 packet with a UDP datagram (R393): the UDP checksum is computed. -/
def udp6Bytes (e : Entry) (k : Packet) (pay : List Byte) : List Byte :=
  let ttl := if fld (ew e 2) 23 16 = 0 then 64 else fld (ew e 2) 23 16
  let addrs := (([9, 10, 11, 12, 5, 6, 7, 8] : List Nat).map (fun i => beBytes 4 (ew e i).toNat)).flatten
  let udp (ck : Nat) : List Byte := beBytes 2 (fld (ew e 13) 31 16) ++ beBytes 2 (fld (ew e 13) 15 0) ++
    beBytes 2 (8 + pay.length) ++ beBytes 2 ck ++ pay
  let sum := 0xFFFF - onesSum (addrs ++ beBytes 4 (8 + pay.length) ++ [0, 0, 0, 17] ++ udp 0)
  beBytes 4 (6 * 2 ^ 28 + fld (ew e 2) 29 24 * 2 ^ 22 + fld (Config.ipIdent k.stream k.seq) 19 0) ++ beBytes 2 (8 + pay.length) ++
    [17, BitVec.ofNat 8 ttl] ++ addrs ++ udp (if sum = 0 then 0xFFFF else sum)

/-- The frame of a packet on a port, before padding and FCS (R393, R395; log 79). -/
def streamBytes (f : Fabric) (p : Nat) (e : Entry) (k : Packet) : List Byte :=
  let mac (hi lo : Word) : List Byte := beBytes 4 hi.toNat ++ beBytes 2 (fld lo 15 0)
  let tag := if stTag e then [0x81, 0x00] ++ beBytes 2 (fld (ew e 0) 14 12 * 2 ^ 13 + fld (ew e 2) 11 0) else []
  mac (ew e 3) (ew e 4) ++ mac (rdR f (netAt p 0x48)) (rdR f (netAt p 0x4C)) ++ tag ++
    (if stFmt e = 0 then [0x08, 0x00] ++ udp4Bytes e k (rtpBytes e k)
     else if stFmt e = 1 then [0x86, 0xDD] ++ udp6Bytes e k (rtpBytes e k)
     else [0x22, 0xF0] ++ aafBytes f e k)

/-- A TX stream's packet is built and queued at egress MSC m + SPP (R393, R396); owned says whether this device owned its
trifle's outputs at m. -/
def packetQueue (f : Fabric) (t : TbState) (x : StrmState) (a : Audio) (n : NetState) (s m : Nat) (owned : Bool) : Fabric × NetState :=
  match txEntry x s m with
  | none => (f, n)
  | some e =>
    if !(strmOn f && f.msc.toNat == m + stSpp e && mediaCount f t m % max 1 (stSpp e) == 0) then (f, n)
    else
      let gated := stOwnGate e && !owned
      let f := putB f (txAt s 0) 1 gated
      if gated then (f, n)
      else
        let pk := packetOf f t a s m e
        let len := max 64 (txLen e)
        let dst := beBytes 4 (ew e 3).toNat ++ beBytes 2 (fld (ew e 4) 15 0)
        let n := ((upto 2).filter (stPort e)).foldl (fun n p =>
          if linkUp f p then
            let n := creditsNow f n p
            let fr : TxFrame := ⟨fld (ew e 0) 10 8, len, castOf dst, decide (txLen e < 64), f.msc.toNat,
              .stream pk (wireBytes (streamBytes f p e pk))⟩
            setPort n p { portOf n p with queue := (portOf n p).queue ++ [fr] }
          else stat n p 42) n
        (f, n)

/-- Stream frames not started within SPP samples of being queued are discarded (R394). -/
def streamTxLate (f : Fabric) (x : StrmState) (n : NetState) (p : Nat) : Fabric × NetState :=
  (portOf n p).queue.foldl (fun (acc : Fabric × NetState) t =>
    match t.body with
    | .mgmt _ _ _ _ _ => acc
    | .stream pk _ =>
      let spp := (txEntry x pk.stream pk.first).elim 0 stSpp
      if f.msc.toNat < t.at_ + spp then acc
      else
        let n := creditsNow acc.1 acc.2 p
        let n := stat (setPort n p (dropFrame (portOf n p) t)) p 40
        (raise (putB (bumpF acc.1 (txAt pk.stream 0) 31 16) (txAt pk.stream 0) 8 true) pSTRM 5, n)) (f, n)

-- A received frame as a whole (R369 to R375)

/-- A frame is received on a port. -/
def rxFrame (f : Fabric) (t : TbState) (m : MemState) (n : NetState) (x : StrmState) (p : Nat) (r : RxIn) :
    Fabric × MemState × NetState × StrmState :=
  if !linkUp f p then (f, m, n, x)
  else
    let n := stat (stat n p 23 r.fecCorr) p 24 r.fecBad
    match frameFault f p r.bytes r.pcsErr with
    | some (c, cause) =>
      (match cause with
        | some k => raise f (pNET p) k
        | none => f, m, stat n p c, x)
    | none =>
      if r.overflow then (f, m, stat n p 22, x)
      else
        let e := ethOf r.bytes
        let n := countOk n p e r.bytes.length
        let ip := ipOf e
        let st := rxStamp f t p r.phase
        match matchOf x p e ip with
        | some (i, en) =>
          let ns := (st / 256 + r.bytes.length * (if netMode f p = 0 then 80 else 32) / 100) % 2 ^ 32
          let q := strmRx f t x n p i en e ip ns
          (q.1, m, q.2.2, q.2.1)
        | none =>
          let d := mqDeliver f m n p (queueOf e ip) e.bytes e.tagged e.vid e.pcp st
          (d.1, d.2.1, d.2.2, x)

end Sys2Proof.Machine
end

