-- ==== Sys2Proof/Machine/Banks.lean ====
section
/-! DEFINITION. Bank units: swap groups, swaps, copies, the LD and LOAD operations and the scene store (R158, R159, R171 to
R184, R203, R204). Arguments that an operation samples at its start are kept at offsets of its page that hold no register:
SYS 0x500 + 4g and 0x540, MTX 0x8F4, CNV 0x080. -/
namespace Sys2Proof.Machine

/-- The controller pages with JOIN = 1 in group g (R171, R175). -/
def groupUnits (f : Fabric) (g : Nat) : List Nat :=
  ctrlPages.filter (fun p => getB f (ra p 0x28) 12 && getF f (ra p 0x28) 11 8 == g)
/-- The members of an armed swap: those whose PENDING is set (R172, R175). -/
def armedUnits (f : Fabric) (g : Nat) : List Nat := (groupUnits f g).filter (fun p => getB f (ra p 0x2C) 0)
/-- A unit is LOCKED or COPYING (R171). -/
def unitHeld (f : Fabric) (p : Nat) : Bool := getB f (ra p 0x2C) 1 || getB f (ra p 0x2C) 2
/-- Sets one bit of BANK_STAT in every unit of a list. -/
def markUnits (f : Fabric) (ps : List Nat) (n : Nat) (b : Bool) : Fabric := ps.foldl (fun f p => putB f (ra p 0x2C) n b) f

/-- A write of BANK_CTRL (R172). -/
def bankCtrlWrite (f : Fabric) (p : Nat) (v : Word) : Fabric :=
  if !isCtrlPage p then f
  else if getB f (ra p 0x2C) 0 || unitHeld f p then fail f p 0x0006 0x28
  else wrR f (ra p 0x28) ((rdR f (ra p 0x28) &&& 1) ||| (v &&& 0x1F00))

-- Swaps

/-- SWAP_AT of a group (R174). -/
def swapAt (f : Fabric) (g : Nat) : Nat := rdN f (0x214 + 0x20 * g) + rdN f (0x218 + 0x20 * g) * 2 ^ 32
/-- Where the sampled ARG0 of a group is kept; bit 8: the banks have been exchanged and the copy runs. -/
def swapArg (g : Nat) : Nat := 0x500 + 4 * g
/-- The operation of a group. -/
def swapOp (g : Nat) : OpId := .swap ⟨g % 16, Nat.mod_lt _ (by decide)⟩

/-- The boundary that an ARM resolves to (R175). -/
def swapBoundary (f : Fabric) (g : Nat) : Int :=
  let b : Int := blockLen f
  let up (m : Int) : Int := -((-m) / b) * b
  let mode := getF f (0x208 + 0x20 * g) 1 0
  if mode = 0 then ((f.msc.toNat / blockLen f + 3) * blockLen f : Nat)
  else if mode = 1 then up (mscOfTime f (rdN f (0x20C + 0x20 * g)))
  else up ((rdN f (0x210 + 0x20 * g) * 2 ^ 32 + rdN f (0x20C + 0x20 * g) : Nat) : Int)

/-- An armed swap ends without effect (R175, R176, R179): with its lock where it had taken one. -/
def swapDrop (f : Fabric) (g : Nat) : Fabric :=
  let us := armedUnits f g
  let f := if opCommitted f (swapOp g) then markUnits f us 1 false else f
  markUnits f us 0 false
/-- A swap operation ends FAILED (R175, R176, R179). -/
def swapFail (f : Fabric) (g detail : Nat) : Fabric := opEnd (swapDrop f g) (swapOp g) 5 detail

/-- What the exchange does to one unit's registers (R177). -/
def unitSwap (b : Nat) (f : Fabric) (p : Nat) : Fabric :=
  let f := putB f (ra p 0x28) 0 (!actB f p)
  let f := putF f (ra p 0x2C) 31 16 (getF f (ra p 0x2C) 31 16 + 1)
  let f := putF f (ra p 0x2C) 3 3 0
  let f := putF f (ra p 0x2C) 1 0 0
  observe f p 0x20 (instOf p) b

/-- What a unit's engine does at a swap (R122, R131, R137, R157, R160 to R167, R200, R316, R386). -/
def unitEffect (wasOn : Nat → Bool) (b : Nat) (s : State) (p : Nat) : State :=
  if p = 160 then
    let mesh := getB s.fab (ra pREN 0x74) 0
    onRen (onF s (fun f => putB f (ra pREN 0x74) 0 false)) (fun f r => renSwap f r wasOn mesh)
  else if p = 144 then onMtx s (fun f m => mtxSwap f m b)
  else if p = 192 ∨ p = 256 then onF s tailAdmit
  else if p = 128 then
    let s := onF s incAdmit
    { s with inc := { s.inc with swapAt := b } }
  else if 272 ≤ p ∧ p < 288 then
    -- the core goes on with the parameters it has until its block tick at or after b (R285)
    let c := p - 272
    let k := coreOf s.cores c
    if k.params.isSome ∨ (running s.fab ∧ b ≤ k.blkMsc) then s
    else { s with cores := setCore s.cores c { k with params := some (paramsOf s.fab c (!actB s.fab p)) } }
  else if p = 17 then onStrm s (fun f x => strmAdmit f x b)
  else if p = 8 then onTb s (fun f t => (f, if running f then anchorSwap f t b else { t with anch := [] }))
  else s

/-- The exchange of a group's units at boundary b (R177, R178). -/
def swapNow (s : State) (g b : Nat) : State :=
  let us := armedUnits s.fab g
  let on := (enabledObjs s.fab (actB s.fab pREN)).map (·.1)
  let s := onF s (fun f => us.foldl (unitSwap b) f)
  let s := us.foldl (unitEffect (fun o => on.contains o) b) s
  if getB s.fab (swapArg g) 4 then
    onF s (fun f => putB (markUnits f us 2 true) (swapArg g) 8 true)
  else onF s (fun f => opEnd f (swapOp g) 2 0)

/-- The commit point of a swap (R176): BUSY where a member is locked or copying. -/
def swapCommitNow (s : State) (g b : Nat) : State :=
  let us := armedUnits s.fab g
  if us.any (unitHeld s.fab) then onF s (fun f => swapFail f g 0x0004)
  else
    let s := onF s (fun f => opCommit (markUnits f us 1 true) (swapOp g))
    if us.contains 12 then onStk s (fun f k => stkCommit f k b) else s

/-- ARM is accepted (R175, R179). -/
def swapArm (s : State) (g : Nat) : State :=
  let f := opStart s.fab (swapOp g) 1
  let f := wrN f (swapArg g) (rdN f (0x208 + 0x20 * g) % 2 ^ 5)
  let s := { s with fab := f }
  if !running f then
    if getF f (swapArg g) 1 0 = 0 then
      let s := onF s (fun f => markUnits f (groupUnits f g) 0 true)
      let s := swapCommitNow s g f.msc.toNat
      if opCommitted s.fab (swapOp g) then swapNow s g f.msc.toNat else s
    else onF s (fun f => opEnd f (swapOp g) 5 0x0002)
  else
    let b := swapBoundary f g
    let s := onF s (fun f => wrR (wrR f (0x214 + 0x20 * g) (wordOf b)) (0x218 + 0x20 * g) (wordOf (b / 2 ^ 32)))
    if b - 2 * (blockLen f : Int) ≤ f.msc.toNat then onF s (fun f => opEnd f (swapOp g) 5 0x0001)
    else onF s (fun f => markUnits f (groupUnits f g) 0 true)

/-- The block tick at b - 2B of an armed group (R176). -/
def swapCommit (s : State) (g : Nat) : State :=
  let f := s.fab
  let b := swapAt f g
  if running f && opRunning f (swapOp g) && !opCommitted f (swapOp g) && decide (b ≤ f.msc.toNat + 2 * blockLen f) &&
    decide (f.msc.toNat < b) then swapCommitNow s g b else s

/-- A group's swap is due at the boundary in progress (R177). -/
def swapDue (f : Fabric) (g : Nat) : Bool :=
  opRunning f (swapOp g) && opCommitted f (swapOp g) && !getB f (swapArg g) 8 &&
    decide (swapAt f g ≤ f.msc.toNat) && decide (f.msc.toNat < swapAt f g + blockLen f)

/-- Boundary b: every group armed for it exchanges its banks (R177). -/
def bankSwap (s : State) : State :=
  if !running s.fab then s
  else (upto 16).foldl (fun s g => if swapDue s.fab g then swapNow s g (swapAt s.fab g) else s) s

/-- The copies of a group end (R178). -/
def swapCopyDone (f : Fabric) (g : Nat) : Fabric :=
  if opRunning f (swapOp g) && getB f (swapArg g) 8 then
    let us := (groupUnits f g).filter (fun p => getB f (ra p 0x2C) 2)
    let f := us.foldl (fun f p => putB (copyUnit f p) (ra p 0x2C) 2 false) f
    opEnd (putB f (swapArg g) 8 false) (swapOp g) 2 0
  else f

/-- Engine stop: swaps that have not taken place fail (R179). -/
def swapsStop (f : Fabric) : Fabric :=
  (upto 16).foldl (fun f g => if opRunning f (swapOp g) && !getB f (swapArg g) 8 then swapFail f g 0x0003 else f) f

-- LD (R158, R159)

/-- LD is accepted: the MTX unit is locked and the arguments sampled. -/
def ldStart (f : Fabric) (m : MtxState) (op : Nat) : Fabric × MtxState :=
  let f := opStart f .ld op
  let f := wrR (wrR f (ra pMTX 0x8F4) (rdR f (ra pMTX 0x8E8))) (ra pMTX 0x8F8) (rdR f (ra pMTX 0x8EC))
  (putB f (ra pMTX 0x2C) 1 true, { m with ldBusy := true })
/-- The unit is released. -/
def ldRelease (f : Fabric) (m : MtxState) : Fabric × MtxState := (putB f (ra pMTX 0x2C) 1 false, { m with ldBusy := false })
/-- LD ends with a result. -/
def ldFinish (f : Fabric) (m : MtxState) (result detail : Nat) : Fabric × MtxState :=
  let r := ldRelease f m
  (opEnd r.1 .ld result detail, r.2)

/-- Every node of the shadow bank removed. -/
def clearNodes (f : Fabric) : Fabric :=
  let f := if actB f pMTX then { f with bank0 := mclear (2 ^ 28) (2 ^ 29) f.bank0 }
    else { f with bank1 := mclear (2 ^ 28) (2 ^ 29) f.bank1 }
  putB f (ra pMTX 0x2C) 3 true

/-- The words of a record list, four to a record. -/
def recordsOf : List Word → List (Word × Word × Word)
  | a :: g :: c :: _ :: r => (a, g, c) :: recordsOf r
  | _ => []

/-- A record's fields lie in range (R159). -/
def recordOk (f : Fabric) (e : Word × Word × Word) : Bool :=
  decide (fld e.1 10 0 < capLogical f) && decide (fld e.1 26 16 < capLogical f) && decide (fld e.2.2 12 0 ≤ 4096)

/-- The records written one after the other, each as a NODE_DATA write (R158). -/
def writeRecords (f : Fabric) (l : List (Word × Word × Word)) : Fabric :=
  l.foldl (fun f e => storeNode f (fld e.1 10 0) (fld e.1 26 16) e.2.1 (e.2.2 &&& 0x1_1FFF)) f

/-- LD reads its list, checks it, writes it and ends (R159). -/
def ldEnd (f : Fabric) (mem : MemState) (m : MtxState) : Fabric × MemState × MtxState :=
  let put (mem : MemState) (r : Fabric × MtxState) : Fabric × MemState × MtxState := (r.1, mem, r.2)
  if !opRunning f .ld then (f, mem, m)
  else
    let op := opLast f .ld
    let a := rdN f (ra pMTX 0x8F4)
    let n := rdN f (ra pMTX 0x8F8)
    if op = 3 then put mem (ldFinish (clearNodes (opCommit f .ld)) m 2 0)
    else if dramTop < a + 16 * n then put mem (ldFinish f m 5 0x0004)
    else if !dramReadyRange f a (16 * n) then put mem (ldFinish f m 5 0x0003)
    else
      let r := dramRead f mem 7 a (16 * n)
      if !readOk r.2.2 then put r.2.1 (ldFinish r.1 m 5 0x0003)
      else
        let recs := recordsOf (wordsOf (4 * n) (rawBytes r.2.2))
        let bad := recs.zipIdx.find? (fun (e : (Word × Word × Word) × Nat) => !recordOk f e.1)
        match bad with
        | some e => put r.2.1 (ldFinish (wrN r.1 (ra pMTX 0x8F0) e.2) m 5 0x0001)
        | none =>
          let f' := writeRecords (if op = 2 then clearNodes r.1 else r.1) recs
          if capNode f < nodesShd f' then put r.2.1 (ldFinish r.1 m 5 0x0002)
          else put r.2.1 (ldFinish (opCommit f' .ld) m 2 0)

-- LOAD (R203, R204)

/-- LOAD is accepted: the convolution unit is locked and the arguments sampled. -/
def loadStart (f : Fabric) : Fabric :=
  let f := opStart f .cnvLoad 1
  let f := (upto 4).foldl (fun f i => wrR f (ra pCNV (0x80 + 4 * i)) (rdR f (ra pCNV (0x68 + 4 * i)))) f
  putB f (ra pCNV 0x2C) 1 true

/-- LOAD reads its list, checks it, writes the response and ends. -/
def loadEnd (f : Fabric) (mem : MemState) : Fabric × MemState :=
  let fin (f : Fabric) (result detail : Nat) : Fabric := opEnd (putB f (ra pCNV 0x2C) 1 false) .cnvLoad result detail
  if !opRunning f .cnvLoad then (f, mem)
  else
    let a := rdN f (ra pCNV 0x80)
    let n := getF f (ra pCNV 0x88) 15 0
    let d := loadDetail f true
    if d = 1 then (fin f 5 1, mem)
    else if d = 2 then (fin (poolReject f pCNV (getF f (ra pCNV 0x84) 9 0)) 5 2, mem)
    else if !dramReadyRange f a (4 * n) then (fin f 5 3, mem)
    else
      let r := dramRead f mem 7 a (4 * n)
      if !readOk r.2.2 then (fin r.1 5 3, r.2.1)
      else (fin (loadCommit (opCommit r.1 .cnvLoad) (wordsOf n (rawBytes r.2.2))) 2 0, r.2.1)

-- Scene store (R180 to R183)

/-- The DRAM address of the scene slot of the running operation. -/
def slotAt (f : Fabric) : Nat := rdN f 0x410 + getF f 0x540 5 0 * getF f 0x414 5 0 * 2 ^ 20
/-- A slot's size in bytes. -/
def slotLen (f : Fabric) : Nat := getF f 0x414 5 0 * 2 ^ 20
/-- A store is configured and lies below the last DRAM byte (R183). -/
def storeOk (f : Fabric) : Bool := decide (0 < slotLen f) && decide (rdN f 0x410 + 64 * slotLen f ≤ dramTop)
/-- The units that SAVE takes (R181). -/
def saveUnits (f : Fabric) : List Nat :=
  ctrlPages.filter (fun p => getB f (ra p 0x28) 12 && (getF f 0x544 15 0).testBit (getF f (ra p 0x28) 11 8))

/-- The words of a unit's shadow bank that differ from reset, with their keys. -/
def shadowWords (f : Fabric) (p : Nat) : List (Nat × Word) :=
  let b := if actB f p then f.bank0 else f.bank1
  (unitRanges p).flatMap (fun r => mfilter (fun k => decide (r.1 ≤ k) && decide (k < r.2)) b)

/-- A unit's image content: its words in the device's own form (R182). -/
def imageWords (f : Fabric) (p : Nat) : List Word :=
  let l := (shadowWords f p).flatMap (fun e => [BitVec.ofNat 32 e.1, e.2])
  let pad := (16 - (l.length + 1) % 16) % 16
  ((BitVec.ofNat 32 l.length :: l) ++ List.replicate pad (0 : Word)).zipIdx.map
    (fun (e : Word × Nat) => e.1 ^^^ Config.sceneMask p e.2)

/-- A unit's image: the 16-byte header and the content (R182). -/
def imageBytes (f : Fabric) (p : Nat) : List Byte :=
  let c := bytesOf (imageWords f p)
  bytesOf [BitVec.ofNat 32 p, BitVec.ofNat 32 c.length, 0, 0] ++ c

/-- A whole scene of the given units (R182). -/
def sceneBytes (f : Fabric) (us : List Nat) : List Byte :=
  let body := us.flatMap (imageBytes f)
  bytesOf [0x5343_4E01, 0x200, BitVec.ofNat 32 us.length, BitVec.ofNat 32 (32 + body.length), BitVec.ofNat 32 (crc32c body),
    BitVec.ofNat 32 (getF f 0x544 15 0), 0, 0] ++ body

/-- The images of a scene body: page number and content words (R182); at most n. -/
def imagesOf : Nat → List Byte → List (Nat × List Word)
  | 0, _ => []
  | n + 1, l =>
    let h := wordsOf 4 l
    let len := (h.getD 1 0).toNat
    (fld (h.getD 0 0) 9 0, wordsOf (len / 4) ((l.drop 16).take len)) :: imagesOf n (l.drop (16 + len))

/-- The words of a scene header are those of a scene that fits its slot (R182). -/
def headerOk (f : Fabric) (h : List Word) : Bool :=
  h.getD 0 0 == 0x5343_4E01 && fld (h.getD 1 0) 11 8 == 2 && decide (32 ≤ (h.getD 3 0).toNat) &&
    decide ((h.getD 3 0).toNat ≤ slotLen f)

/-- The body of a scene as read: its images, where CHECK matches and no error was met (R181). -/
def sceneBody (f : Fabric) (m : MemState) (h : List Word) : Fabric × MemState × Option (List (Nat × List Word)) :=
  let a := slotAt f + 32
  let n := (h.getD 3 0).toNat - 32
  let b := dramRead f m 7 a n
  let ok := readOk b.2.2 && dramReadyRange f a n && decide (crc32c (rawBytes b.2.2) = (h.getD 4 0).toNat)
  (b.1, b.2.1, if ok then some (imagesOf (h.getD 2 0).toNat (rawBytes b.2.2)) else none)

/-- The slot as the operation finds it: LENGTH, and the images where MAGIC, MAJOR and CHECK match and no error was met. -/
def sceneRead (f : Fabric) (m : MemState) : Fabric × MemState × Nat × Option (List (Nat × List Word)) :=
  let r := dramRead f m 7 (slotAt f) 32
  let h := wordsOf 8 (rawBytes r.2.2)
  if readOk r.2.2 && dramReadyRange f (slotAt f) 32 && headerOk f h then
    let b := sceneBody r.1 r.2.1 h
    (b.1, b.2.1, (h.getD 3 0).toNat, b.2.2)
  else (r.1, r.2.1, (h.getD 3 0).toNat, none)

/-- The key and word pairs of an image's content. -/
def pairsOf : List Word → List (Nat × Word)
  | k :: v :: r => (k.toNat, v) :: pairsOf r
  | _ => []

/-- An image written into the shadow bank of its unit (R181): the words it names, every other word at reset. -/
def imagePut (f : Fabric) (e : Nat × List Word) : Fabric :=
  let p := e.1
  let l := e.2.zipIdx.map (fun (w : Word × Nat) => w.1 ^^^ Config.sceneMask p w.2)
  let ps := pairsOf ((l.drop 1).take (l.headD 0).toNat)
  let inUnit (k : Nat) : Bool := (unitRanges p).any (fun r => decide (r.1 ≤ k) && decide (k < r.2))
  let b := !actB f p
  let f := (unitRanges p).foldl (fun (f : Fabric) (r : Nat × Nat) =>
    if b then { f with bank1 := mclear r.1 r.2 f.bank1 } else { f with bank0 := mclear r.1 r.2 f.bank0 }) f
  let f := (ps.filter (fun k => inUnit k.1)).foldl (fun f k => wrB f b k.1 k.2) f
  putB f (ra p 0x2C) 3 true

/-- A unit concerned by a scene operation is PENDING, LOCKED or COPYING (R183). -/
def unitTaken (f : Fabric) (p : Nat) : Bool := getB f (ra p 0x2C) 0 || unitHeld f p

/-- A scene operation ends FAILED at its start. -/
def sceneFail (s : State) (d : Nat) : State := onF s (fun f => opEnd f .scene 5 d)
/-- A scene operation locks its units. -/
def sceneLock (s : State) (us : List Nat) : State :=
  { onF s (fun f => markUnits f us 1 true) with pwr := { s.pwr with sceneUnits := us } }
/-- What a slot's reading leaves: SCN_INFO, and the images. -/
def sceneSeen {γ : Type} (s : State) (r : Fabric × MemState × Nat × γ) : State :=
  { s with fab := wrN r.1 0x418 r.2.2.1, mem := r.2.1 }

/-- RECALL with the images that its slot holds: the checks before its commit point (R181, R183). -/
def recallStart (s : State) (images : Option (List (Nat × List Word))) : State :=
  match images with
  | none => sceneFail s 3
  | some l =>
    let us := (l.map (·.1)).eraseDups
    if us.any (fun p => !isCtrlPage p) then sceneFail s 5
    else if us.any (unitTaken s.fab) then sceneFail s 4
    else sceneLock s us

/-- A scene operation is accepted: the checks before its commit point, and the lock of its units (R181, R183). -/
def sceneStart (s : State) (op : Nat) : State :=
  let f := opStart s.fab .scene op
  let f := wrR (wrR f 0x540 (rdR f 0x408)) 0x544 (rdR f 0x40C)
  let s := { s with fab := f }
  if !storeOk f then sceneFail s 1
  else if op = 1 then
    let us := saveUnits f
    if us.any (unitTaken f) then sceneFail s 4
    else if slotLen f < (sceneBytes f us).length then sceneFail s 2
    else sceneLock s us
  else if op = 2 then
    let r := sceneRead f s.mem
    recallStart (sceneSeen s r) r.2.2.2
  else s

/-- A scene operation's units are released. -/
def sceneRelease (s : State) : State :=
  { onF s (fun f => markUnits f s.pwr.sceneUnits 1 false) with pwr := { s.pwr with sceneUnits := [] } }

/-- A scene operation releases its units and ends. -/
def sceneFin (s : State) (result d : Nat) : State := onF (sceneRelease s) (fun f => opEnd f .scene result d)

/-- CHECK with the images that its slot holds (R181, R183). -/
def sceneCheck (s : State) (images : Option (List (Nat × List Word))) : State :=
  match images with
  | none => sceneFin s 5 3
  | some l => if l.any (fun e => !isCtrlPage e.1) then sceneFin s 5 5 else sceneFin s 2 0

/-- The bytes that are read before the first uncorrectable error. -/
def goodPrefix (l : List (Byte × Bool)) : List Byte := rawBytes (l.takeWhile (fun e => !e.2))

/-- The images of a scene's body that are read whole before the first uncorrectable error, at most n (R183). -/
def wholeImages : Nat → List Byte → List (Nat × List Word)
  | 0, _ => []
  | n + 1, l =>
    let h := wordsOf 4 l
    let len := (h.getD 1 0).toNat
    if l.length < 16 + len then []
    else (fld (h.getD 0 0) 9 0, wordsOf (len / 4) ((l.drop 16).take len)) :: wholeImages n (l.drop (16 + len))

/-- The body of a scene whose header is h, as RECALL reads it: the images read whole before the first uncorrectable error, and
whether all were. -/
def recallBody (f : Fabric) (m : MemState) (h : List Word) : Fabric × MemState × List (Nat × List Word) × Bool :=
  let a := slotAt f + 32
  let n := (h.getD 3 0).toNat - 32
  let b := dramRead f m 7 a n
  let there := dramReadyRange f a n
  (b.1, b.2.1, if there then wholeImages (h.getD 2 0).toNat (goodPrefix b.2.2) else [], there && readOk b.2.2)

/-- The slot as RECALL reads it to write its images: LENGTH, the images and whether all were read; none without a header. -/
def recallRead (f : Fabric) (m : MemState) : Fabric × MemState × Nat × List (Nat × List Word) × Bool :=
  let r := dramRead f m 7 (slotAt f) 32
  let h := wordsOf 8 (rawBytes r.2.2)
  if readOk r.2.2 && dramReadyRange f (slotAt f) 32 && headerOk f h then
    let b := recallBody r.1 r.2.1 h
    (b.1, b.2.1, (h.getD 3 0).toNat, b.2.2)
  else (r.1, r.2.1, (h.getD 3 0).toNat, [], false)

/-- RECALL writes the images of its locked units, one after the other (R181): its commit point is the first. An uncorrectable
error ends it FAILED, with the images before it written (R183). -/
def recallWrite (s : State) (l : List (Nat × List Word)) (ok : Bool) : State :=
  let l := l.filter (fun e => s.pwr.sceneUnits.contains e.1)
  let t := if ok || !l.isEmpty then onF s (fun f => l.foldl imagePut (opCommit f .scene)) else s
  if ok then sceneFin t 2 0 else sceneFin t 5 3

/-- SAVE writes its scene (R181, R182). -/
def scenePost (s : State) (bs : List Byte) : State :=
  onMem s (fun f m =>
    let r := dramWrite (opCommit f .scene) m 7 (slotAt f) bs
    (wrN r.1 0x418 bs.length, r.2))

/-- A scene operation does its work and ends (R181, R183). -/
def sceneEnd (s : State) : State :=
  if !opRunning s.fab .scene then s
  else if opLast s.fab .scene = 1 then sceneFin (scenePost s (sceneBytes s.fab s.pwr.sceneUnits)) 2 0
  else if opLast s.fab .scene = 2 then
    let r := recallRead s.fab s.mem
    recallWrite (sceneSeen s r) r.2.2.2.1 r.2.2.2.2
  else
    let r := sceneRead s.fab s.mem
    sceneCheck (sceneSeen s r) r.2.2.2

end Sys2Proof.Machine
end

