-- ==== Sys2Proof/Machine/Fence.lean ====
section
/-! DEFINITION. Fencing a master that resets mid-burst (R484 to R486), and the master status registers (R487). -/
namespace Sys2Proof.Machine

/-- A fence covers a request (R484). -/
def fenceHas (c : Fence) (m i : Nat) : Bool := c.master == m && c.ids.all (fun l => l.contains i)
/-- A request meets a fence in progress: it is discarded (R485). -/
def isFenced (b : BusState) (m i : Nat) : Bool := b.fences.any (fun c => fenceHas c m i)

/-- The target of a bus address (R478); none outside the map. -/
def targetOf (a : Nat) : Option Nat :=
  if a < 0xE000_0000 then some (a / 256 % 2)
  else if a < 0xF000_0000 then none
  else if a < 0xF080_0000 then some 2
  else if a < 0xF800_0000 then none
  else if a < 0xF840_0000 then some 3
  else if a < 0xF880_0000 then some 5
  else if a < 0xF8C0_0000 then some 4
  else if a < 0xF900_0000 then some 3
  else none

/-- MASTER_STAT of every master, BUSY of every target and SETTLING of the BUS page (R487). -/
def showBus (f : Fabric) (b : BusState) : Fabric :=
  let f := (upto 6).foldl (fun f t =>
    putB f (ra pBUS (0xB0 + 4 * t)) 8 (b.outst.any (fun o => o.2.isNone && targetOf o.1.addr == some t))) f
  let f := (upto 10).foldl (fun f m =>
    let a := ra pBUS (0x44 + 8 * m)
    let f := putF f a 6 0 (min 127 (b.outst.filter (fun o => o.1.master == m)).length)
    putB (putB f a 8 (b.fences.any (fun c => c.master == m))) a 9 (b.held.any (fun r => r.master == m))) f
  putB f (ra pBUS 0x0C) 3 (!b.fences.isEmpty)

/-- The master and the IDs that a page's reset fences (R484): IDs of the DSP quads are the core's number in its quad, those of
the network DMA 8x to 8x + 7 for port x, those of the streamer the controller page, those of the scrubber the channel
(DESIGN CHOICE, log 27). -/
def fenceOf (page : Nat) : Option (Nat × Option (List Nat)) :=
  if 272 ≤ page ∧ page ≤ 287 then some (2 + (page - 272) / 4, some [(page - 272) % 4])
  else if page = 15 ∨ page = 16 then some (6, some ((upto 8).map (· + 8 * (page - 15))))
  else if page = 12 then some (1, none)
  else if page = 7 then some (8, none)
  else if page = 144 ∨ page = 256 ∨ page = 192 ∨ page = 160 ∨ page = 128 then some (7, some [page])
  else if page = 5 ∨ page = 6 then some (9, some [page - 5])
  else if page = 3 then some (0, none)
  else none

/-- The target channel of everything a fence covers is not READY, so that R472 has answered its requests (R486): the scrubber's
channel, or the channel of every accepted request. -/
def fenceAtOnce (f : Fabric) (b : BusState) (c : Fence) : Bool :=
  let dead (r : BusReq) : Bool := match targetOf r.addr with
    | some t => decide (t < 2) && !drcReady f t
    | none => false
  let mine := b.outst.filter (fun o => fenceHas c o.1.master o.1.id)
  (c.master == 9 && mine.isEmpty && !drcReady f (c.page - 5)) || (!mine.isEmpty && mine.all (fun o => dead o.1))

/-- A fence starts (R485): requests not yet accepted by a target are discarded; one already running is joined, and one whose
target channel is not READY completes at once (R486). -/
def fenceStart (f : Fabric) (b : BusState) (page : Nat) : Fabric × BusState :=
  match fenceOf page with
  | none => (f, b)
  | some (m, ids) =>
    let c : Fence := ⟨m, ids, page⟩
    if b.fences.contains c then (f, b)
    else
      let b := { b with held := b.held.filter (fun r => !fenceHas c r.master r.id) }
      let f := raise (bump f (ra pBUS 0xD4)) pBUS 2
      if fenceAtOnce f b c then
        let b := { b with outst := b.outst.filter (fun o => !fenceHas c o.1.master o.1.id) }
        (raise (showBus f b) pBUS 3, b)
      else
        let b := { b with fences := b.fences ++ [c] }
        (showBus f b, b)

/-- The fence of a page's reset. -/
def fencePage (s : State) (page : Nat) : State :=
  { s with fab := (fenceStart s.fab s.bus page).1, bus := (fenceStart s.fab s.bus page).2 }

/-- A page's reset waits for its fence. -/
def pageFenced (b : BusState) (page : Nat) : Bool := b.fences.any (fun c => c.page == page)

end Sys2Proof.Machine
end

