-- ==== Sys2Proof/Machine/Observe.lean ====
section
/-! DEFINITION. Observation: the collector and the trace ring, marks, the FLUSH operation, event counters and load meters
(R515 to R525). -/
namespace Sys2Proof.Machine

/-- WR_IDX advances by n crumbs (R516, R517). -/
def ringAdvance (f : Fabric) (n : Nat) : Fabric :=
  let w := getF f (ra pOBS 0x4C) 23 0 + n
  let f := putF f (ra pOBS 0x4C) 23 0 (w % ringN f)
  let f := bumpW f (ra pOBS 0x5C) n
  if ringN f ≤ w ∧ !getB f (ra pOBS 0x40) 1 then raise (putB f (ra pOBS 0x54) 2 true) pOBS 2 else f

/-- The crumbs of the line in hand are written to DRAM by the trace writer, each whole (R516). -/
def ringLineOut (f : Fabric) (m : MemState) : Fabric × MemState :=
  match f.ringLine with
  | [] => (f, m)
  | e :: l =>
    let r := dramWrite { f with ringLine := [] } m 8 (rdN f (ra pOBS 0x44) + 16 * e.1)
      ((e :: l).flatMap (fun c => leBytes 16 c.2.toNat))
    (ringAdvance r.1 (l.length + 1), r.2)

/-- A crumb goes from the FIFO into the ring (R516). -/
def ringPut (f : Fabric) (m : MemState) (c : BitVec 128) : Fabric × MemState :=
  if getB f (ra pOBS 0x40) 0 then
    let i := ringNext f
    let f := { f with ringLine := f.ringLine ++ [(i, c)] }
    if i % 4 = 3 then ringLineOut f m else (f, m)
  else
    let i := ringNext f
    (ringAdvance { f with ring := mset (fun _ => (0 : BitVec 128)) f.ring i c } 1, m)

/-- The FIFO's head goes into the ring where it has room and the trace writer is not shed (R517, R518). -/
def fifoOut (f : Fabric) (m : MemState) : Fabric × MemState :=
  if getB f (ra pOBS 0x54) 1 || ringFull f then (f, m)
  else match f.fifo with
    | [] => (f, m)
    | c :: l => ringPut (putB { f with fifo := l } (ra pOBS 0x54) 0 false) m c

/-- The collector takes the oldest crumb of a source page's queue (R515). -/
def collect (f : Fabric) (p : Nat) : Fabric :=
  if 256 ≤ f.fifo.length then f
  else match crumbsOf f p with
    | [] => f
    | c :: l => { f with crumbQ := mset (fun _ => []) f.crumbQ p l, fifo := f.fifo ++ [c] }

/-- CRUMB_WRITE: the collector serves a page, and the FIFO's head goes into the ring. -/
def crumbWrite (f : Fabric) (m : MemState) (p : Nat) : Fabric × MemState :=
  let r := fifoOut (collect f p) m
  (showFifo r.1, r.2)

/-- LOST_CRUMB: a source whose queue has room queues its LOST crumb (R517); none is recorded while ENABLE is 0 (R525). -/
def lostCrumb (f : Fabric) (p : Nat) : Fabric := if getB f (ra pOBS 0x54) 1 || !enabled f pOBS then f else queueLost f p

/-- A write of MARK_HI (R519): the crumb carries both words of the requester. -/
def markHi (f : Fabric) (q : Nat) (v : Word) : Fabric :=
  observe f pOBS 0x30 q (v.toNat * 2 ^ 32 + (rdO f q (ra pOBS 0x80)).toNat)

/-- A crumb waits anywhere between its source and the ring. -/
def crumbsWait (f : Fabric) : Bool := !f.fifo.isEmpty || !f.crumbQ.isEmpty || !f.ringLine.isEmpty

/-- FLUSH is accepted (R520): with nothing pending, it is committed at once; while the trace writer is shed it fails. -/
def flushStart (f : Fabric) : Fabric :=
  let f := opStart f .flush 1
  if getB f (ra pOBS 0x54) 1 then opEnd f .flush 5 0x0001
  else if crumbsWait f then f else opCommit f .flush

/-- Every crumb of the FIFO that the ring has room for. -/
def drainFifo (f : Fabric) (m : MemState) : Fabric × MemState :=
  (upto 256).foldl (fun (acc : Fabric × MemState) _ => fifoOut acc.1 acc.2) (f, m)

/-- The collector takes every queue's crumbs, and the FIFO empties into the ring as far as it has room. -/
def collectAll (f : Fabric) (m : MemState) : Fabric × MemState :=
  (f.crumbQ.map (·.1)).foldl (fun (acc : Fabric × MemState) p =>
    (upto 4).foldl (fun (acc : Fabric × MemState) _ => drainFifo (collect acc.1 p) acc.2) acc) (drainFifo f m)

/-- FLUSH writes what waits and ends once nothing does (R520). -/
def flushEnd (f : Fabric) (m : MemState) : Fabric × MemState :=
  if !opRunning f .flush then (f, m)
  else
    let r := collectAll (if crumbsWait f then opCommit f .flush else f) m
    let r := ringLineOut r.1 r.2
    let f := showFifo r.1
    (if crumbsWait f then f else opEnd f .flush 2 0, r.2)

/-- A write of CNT_CTRL (R521): SNAP copies the counters, and CLR_ON_SNAP restarts them. -/
def cntCtrl (f : Fabric) (v : Word) : Fabric :=
  let f := wrR f (ra pOBS 0xC0) (v &&& 2)
  if bit v 0 then { f with cntShadow := f.cnt, cnt := if bit v 1 then [] else f.cnt } else f

/-- Every load meter takes its busy fraction of the last millisecond (R522); the AON meter reads 0. -/
def loadUpdate (f : Fabric) (busy : List Nat) : Fabric :=
  (upto 9).foldl (fun f i =>
    let v := if i = 0 then 0 else min 65535 (busy.getD i 0)
    let a := ra pOBS (0x100 + 4 * i)
    putF (putF f a 15 0 v) a 31 16 (max v (getF f a 31 16))) f
/-- A write of LOAD_CLR (R525). -/
def loadClr (f : Fabric) (v : Word) : Fabric :=
  (upto 9).foldl (fun f i => if bit v i then putF f (ra pOBS (0x100 + 4 * i)) 31 16 0 else f) f

/-- Word i of the on-chip crumb OC_SEL selects (R516). -/
def ocWord (f : Fabric) (i : Nat) : Word :=
  BitVec.ofNat 32 ((mget (fun _ => (0 : BitVec 128)) f.ring (getF f (ra pOBS 0xA0) 11 0)).toNat / 2 ^ (32 * i))
/-- A read of OC_DATA[0] latches the others for the requester (R516). -/
def ocRead (f : Fabric) (q : Nat) : Fabric :=
  let f := latch f q ((upto 3).map (fun i => (ra pOBS (0xA8 + 4 * i), ocWord f (i + 1))))
  answer f q (ocWord f 0).toNat

/-- A write of CFG, RING_BASE or RING_SIZE (R525). -/
def obsCfg (f : Fabric) (off : Nat) (v : Word) : Fabric :=
  let base := if off = 0x44 then (v &&& 0xFFF0_0000).toNat else rdN f (ra pOBS 0x44)
  let size := if off = 0x48 then fld v 8 0 else getF f (ra pOBS 0x48) 8 0
  if enabled f pOBS then fail f pOBS 0x0101 off
  else if off ≠ 0x40 ∧ (size = 0 ∨ 256 < size ∨ 0xE000_0000 < base + size * 2 ^ 20) then fail f pOBS 0x0100 off
  else wrR f (ra pOBS off) (v &&& (if off = 0x40 then 0x1F03 else if off = 0x44 then 0xFFF0_0000 else 0x1FF))

/-- A write of RD_IDX (R517): a ring with room is no longer FULL. -/
def rdIdx (f : Fabric) (v : Word) : Fabric :=
  let f := wrR f (ra pOBS 0x50) (v &&& 0xFF_FFFF)
  if ringFull f then f else putB f (ra pOBS 0x54) 0 false

/-- Soft reset of OBS (R525): the queues and the FIFO empty, the indices return to 0, the shadow counters stay. -/
def obsSoft (f : Fabric) : Fabric :=
  let f := softClearOwn (softClear f pOBS (fun _ => false)) pOBS
  let f := putF f (ra pOBS 0x4C) 23 0 0
  let f := putB (putF f (ra pOBS 0x54) 15 8 0) (ra pOBS 0x54) 0 false
  { f with crumbQ := [], fifo := [], lost := [], ringLine := [] }

end Sys2Proof.Machine
end

