-- ==== Sys2Proof/Machine/Reference.lean ====
section
/-! DEFINITION. Reference monitors, selection, holdover and the DPLL (10), as functions of the fabric and the reference state. -/
namespace Sys2Proof.Machine

def refMon (x : RefState) (r : Nat) : RefMon := mget (fun _ => RefMon.reset) x.mons r
def setMon (x : RefState) (r : Nat) (v : RefMon) : RefState := { x with mons := mset (fun _ => RefMon.reset) x.mons r v }

/-- The offset of a reference's register. -/
def refAt (r off : Nat) : Nat := ra pREF (0x100 + 0x10 * r + off)
/-- MON of a reference (R320); XO reads QUALIFIED. -/
def monOf (f : Fabric) (r : Nat) : Nat := if r = 9 then 3 else getF f (refAt r 4) 2 0
/-- Sets MON. -/
def putMon (f : Fabric) (r m : Nat) : Fabric := putF f (refAt r 4) 2 0 m
/-- DPLL_STAT.STATE (R340). -/
def dpllSt (f : Fabric) : Nat := getF f (ra pREF 0x80) 2 0

/-- A time reference (R320). -/
def isTimeRef (r : Nat) : Bool := r == 0 || r == 1 || r == 2 || r == 7
/-- A reference with a classified rate (R327). -/
def isRateRef (r : Nat) : Bool := (decide (3 ≤ r) && decide (r ≤ 6)) || r == 8

/-- The nominal rates of REF_CFG.RATE codes 1 to 6. -/
def refRate (code : Nat) : Nat :=
  if code = 1 then 44100 else if code = 2 then 48000 else if code = 3 then 88200 else if code = 4 then 96000
  else if code = 5 then 176400 else if code = 6 then 192000 else 0

/-- One second in 1/256 ns. -/
def sec256 : Nat := 256000000000

/-- The nominal rate of a reference in hertz, 0 while unclassified (R320). -/
def nomRate (f : Fabric) (r : Nat) : Nat :=
  if r = 0 ∨ r = 7 then fsHz f else if r = 1 ∨ r = 2 then 1 else refRate (getF f (refAt r 4) 6 4)

/-- Phase folded into (-P/2, P/2], P = 1/fs, in units of 1/(256·k) ns (R321). -/
def foldAt (k : Nat) (f : Fabric) (e : Int) : Int :=
  -- times fs, where P is 256·10^9·k
  let p : Int := (sec256 * k : Nat)
  let u := e * fsHz f % p
  let v := if 2 * u > p then u - p else u
  rne v (fsHz f)
/-- Phase folded into (-P/2, P/2], in 1/256 ns (R321). -/
def foldPhase (f : Fabric) (e : Int) : Int := foldAt 1 f e
/-- 10^8: the parts of 1/256 ns in which the target phase and the loop's errors are held. -/
def fine : Nat := 100000000

/-- A field used as the nearest limit of its range (R343). -/
def limF (f : Fabric) (off hi lo mn mx : Nat) : Nat := max mn (min mx (getF f (ra pREF off) hi lo))

/-- LOCK_PHASE in 1/256 ns. -/
def lockPhase (f : Fabric) : Int := 256 * limF f 0x54 15 0 1 65535

-- y (R318)

/-- Sets y, clamped to ±250 ppm (R318). -/
def setY (f : Fabric) (x : RefState) (y : Int) : Fabric × RefState :=
  let c := max (-274877907) (min 274877907 y)
  let f := if c = y then f else raise (putB f (ra pREF 0x80) 10 true) pREF 11
  (wrR f (ra pREF 0x84) (wordOf c), { x with y := c })

/-- The bandwidth of a code in units of 0.5 mHz (R333). -/
def bwOf (c : Nat) : Nat :=
  let m := if c % 3 = 0 then 1 else if c % 3 = 1 then 2 else 4
  m * 10 ^ (c / 3)

/-- The bandwidth code in use (R333). -/
def bwAct (f : Fabric) (r cfg : Nat) : Nat :=
  let rate := if r = 0 then fsHz f / blockLen f else if isTimeRef r then nomRate f r else min 48000 (nomRate f r)
  (upto 21).foldl (fun best c => if c ≤ cfg ∧ bwOf c * 20 ≤ rate * 2000 then c else best) 0

/-- The bandwidth code of a reference under the configuration in force (R333). -/
def bwNow (f : Fabric) (r : Nat) : Nat :=
  bwAct f r (if dpllSt f = 1 then getF f (ra pREF 0x44) 12 8 else getF f (ra pREF 0x44) 4 0)

/-- Enters a DPLL state (R340, R341): CLK_LOCK and SETTLING follow. -/
def dpllEnter (f : Fabric) (st : Nat) (lock : Bool) : Fabric :=
  if dpllSt f = st then putB f (ra pREF 0x80) 3 lock
  else
    let f := putB (putF f (ra pREF 0x80) 2 0 st) (ra pREF 0x80) 3 lock
    let f := putB f (ra pREF 0x0C) 3 (st == 1 || st == 5)
    raise f pREF 0

/-- Shows the selected reference in SEL, SELECTED and BW_ACT. -/
def showSel (f : Fabric) (x : RefState) : Fabric :=
  let f := (upto 10).foldl (fun f r => putB f (refAt r 4) 9 (x.sel == some r || (r == 9 && x.sel.isNone && dpllSt f == 0))) f
  match x.sel with
  | some r =>
    let f := putF f (ra pREF 0x80) 7 4 r
    putF f (ra pREF 0x80) 20 16 (bwNow f r)
  | none => if dpllSt f = 0 ∨ dpllSt f = 7 then putF f (ra pREF 0x80) 7 4 9 else f

/-- Enters HOLDOVER (R335); keep holds y (R343). -/
def enterHoldover (f : Fabric) (x : RefState) (keep : Bool) : Fabric × RefState :=
  let valid := getB f (ra pREF 0x80) 8
  let (f, x) := if keep then (f, x)
    else if valid then setY (putB f (ra pREF 0x80) 9 false) x (intOf (rdR f (ra pREF 0x8C)))
    else setY (putB f (ra pREF 0x80) 9 true) x x.yLast
  let f := dpllEnter f 3 false
  let f := wrN (wrN f (ra pREF 0x90) 0) (ra pREF 0x88) 0
  let x := { x with sel := none, lockFor := 0, dist := 0, fresh := false }
  (raise (showSel f x) pREF 8, x)

-- Holdover records (R334)

/-- HO_MEAN, HO_VALID and HO_RECORDS from the records (R334). -/
def showRecords (f : Fabric) (x : RefState) : Fabric :=
  let w := limF f 0x48 11 0 10 3600
  let g := limF f 0x48 25 16 1 600
  let good := ((x.recs.drop g).filter (·.2)).take w
  let ok := decide (w ≤ good.length)
  let f := putB f (ra pREF 0x80) 8 ok
  let f := if ok then wrR f (ra pREF 0x8C) (wordOf (rne (isum (good.map (·.1))) w)) else f
  wrN f (ra pREF 0x94) ((x.recs.filter (·.2)).length)

/-- The end of a second of the TB counter (R334): the record, HO_TIME, and the ramp of y in FREERUN (R341). -/
def holdoverRecord (f : Fabric) (x : RefState) : Fabric × RefState :=
  let mean := if x.num = 0 then x.y else rne x.sum x.num
  let locked := dpllSt f == 2
  let good := locked && (x.allLocked || x.num == 0)
  let x := { x with recs := ((mean, good) :: x.recs).take 4200, sum := 0, num := 0, allLocked := locked }
  let f := showRecords f x
  let st := dpllSt f
  let f := if st = 3 ∨ st = 4 then bump f (ra pREF 0x90) else f
  if st = 0 then
    let ofs := intOf (rdR f (ra pREF 0x60))
    setY f x (if x.y < ofs then min ofs (x.y + 1099512) else max ofs (x.y - 1099512))
  else (f, x)

/-- The DPLL's share of a timebase tick: y enters the second's mean (R334), and the time of R331 runs. -/
def refTick (f : Fabric) (x : RefState) : RefState :=
  { x with sum := x.sum + x.y, num := x.num + 1, allLocked := (x.allLocked || x.num == 0) && dpllSt f == 2, hold60 := x.hold60 - 1 }

-- Monitors (R323 to R328)

/-- A reference is lost (R325). -/
def refLose (f : Fabric) (x : RefState) (r : Nat) : Fabric × RefState :=
  if monOf f r = 0 ∨ r = 9 then (f, x)
  else
    let m := refMon x r
    let f := putMon (putB f (refAt r 4) 8 false) r 0
    let f := putF f (refAt r 4) 6 4 0
    let f := bumpF (putB f (refAt r 4) 16 true) (refAt r 0xC) 31 16
    (raise f pREF 2, setMon x r { RefMon.reset with once := m.once })

/-- A reference is disqualified with a flag and a cause (R324, R326, R327). -/
def refDisq (f : Fabric) (r flag cause : Nat) : Fabric := raise (putB (putMon f r 4) (refAt r 4) flag true) pREF cause

/-- The five newest of the outliers up to a time lie within one second (R324). -/
def outsBad (outs : List Nat) (now : Nat) : Bool :=
  match (outs.dropWhile (fun t => decide (now < t))).drop 4 with
  | t :: _ => decide (now < t + sec256)
  | [] => false
/-- At no instant of the last second were there five outliers within a second (R324, R326). -/
def outsGone (outs : List Nat) (now : Nat) : Bool :=
  !outsBad outs (now - sec256) && (outs.filter (fun t => decide (now < t + sec256))).all (fun t => !outsBad outs t)

/-- An edge counts as an outlier (R323, R324). -/
def refOutlier (f : Fabric) (x : RefState) (r : Nat) : Fabric × RefState :=
  let m := refMon x r
  let outs := (m.clock :: m.outs).filter (fun t => decide (m.clock < t + 2 * sec256))
  let f := bumpF f (refAt r 0xC) 15 0
  let x := setMon x r { m with outs := outs }
  if outsBad outs m.clock ∧ monOf f r ≠ 4 ∧ monOf f r ≠ 0 then (refDisq f r 17 3, x) else (f, x)

/-- The rate code whose nominal period holds the mean of 64 intervals within 1 %; 0 for none (R327). -/
def classify (sum : Nat) : Nat :=
  ((upto 7).find? (fun c => c != 0 && decide (99 * 64 * sec256 ≤ 100 * sum * refRate c) &&
    decide (100 * sum * refRate c ≤ 101 * 64 * sec256))).getD 0

/-- REF_FREQ from the accepted intervals (R326), or from INCR for TBREF. -/
def refFreq (f : Fabric) (t : TbState) (r : Nat) (m : RefMon) : Int :=
  if r = 0 then rne (((t.incr : Int) - 2 ^ 34) * 2 ^ 40) (2 ^ 34)
  else
    let s := m.ivals.foldl (· + ·) 0
    let n := m.ivals.length
    let k := nomRate f r
    if s = 0 ∨ k = 0 then 0 else rne (((n * sec256 : Nat) : Int) * 2 ^ 40 - ((k * s : Nat) : Int) * 2 ^ 40) (k * s)

/-- The newest intervals that lie within 10 s. -/
def lastTen : Nat → List Nat → List Nat
  | _, [] => []
  | left, i :: r => if i ≤ left then i :: lastTen (left - i) r else []

/-- The output phase moves to the reference's in one step (R338): every error measured from now on is e less. -/
def phaseStep (f : Fabric) (x : RefState) (e : Int) : RefState :=
  { x with fresh := false, dist := 0, mons := x.mons.map (fun p => (p.1, { p.2 with
      lastE := p.2.lastE.map (fun l => foldPhase f (l - e)), offset := if p.1 = x.sel.getD 9 then none else p.2.offset.map (· - e) })) }

/-- The first accepted edge of a reference (R336 to R338): the error that remains of it, and the new state. -/
def firstEdge (f : Fabric) (x : RefState) (r : Nat) (e : Int) : Fabric × RefState × Int :=
  let m := refMon x r
  if dpllSt f = 1 ∧ !running f then (f, phaseStep f x e, 0)
  else if isTimeRef r then (f, { x with fresh := false, dist := foldPhase f e * fine }, e)
  else
    let b := wordOf (intOf (rdR f (ra pREF 0x98)) + foldPhase f e)
    (wrR f (ra pREF 0x98) b, { setMon x r { m with offset := some e } with fresh := false }, e)

/-- The target phase moves toward the reference at no more than SLOPE (R337): the distance left after a time dt. -/
def slopeDist (f : Fabric) (d : Int) (dt : Nat) : Int :=
  let move : Int := limF f 0x44 31 16 1 1000 * dt
  if d > 0 then max 0 (d - move) else min 0 (d + move)

/-- The loop's update on an accepted edge of the reference in use (R319, R321, R333, R336 to R338, R341): dt since the update
before, in 1/256 ns. The target of a switch starts to move at its first edge. -/
def dpllUpdate (f : Fabric) (x : RefState) (r : Nat) (e : Int) (dt : Nat) : Fabric × RefState :=
  let st := dpllSt f
  let was := x.fresh
  let (f, x, e) := if was then firstEdge f x r e else (f, x, e)
  let e := foldPhase f (e - (refMon x r).offset.getD 0)
  let dist := slopeDist f x.dist (if was then 0 else dt)
  let err := foldAt fine f (e * fine - dist)
  let f := putF f (ra pREF 0x80) 20 16 (bwNow f r)
  let integ := x.integ + err
  let (f, x) := setY f { x with dist := dist, integ := integ, lastErr := err } (x.y + Config.dpllStep (bwNow f r) err x.lastErr integ x.y)
  let x := { x with yLast := x.y }
  let f := wrR f (ra pREF 0x88) (wordOf e)
  let ok := decide (e.natAbs ≤ (lockPhase f).natAbs)
  let held := if !ok then 0 else if x.lockFor = 0 then 1 else x.lockFor + dt
  let x := { x with lockFor := held }
  if (st = 1 ∨ st = 5) ∧ ok = true ∧ limF f 0x54 23 16 1 255 * sec256 < held then
    let f := dpllEnter f 2 true
    (showSel f x, x)
  else (f, x)

/-- The rate a WCLK or TDMREF reference must have (R326): a classified one, the configured one where RATE is not AUTO. -/
def rateFits (f : Fabric) (r : Nat) : Bool :=
  let act := getF f (refAt r 4) 6 4
  let cfg := getF f (refAt r 0) 6 4
  !isRateRef r || (act != 0 && (cfg == 0 || cfg == act))
/-- REF_FREQ lies within FREQ_LIM (R326). -/
def freqFits (f : Fabric) (r : Nat) : Bool :=
  decide ((intOf (rdR f (refAt r 8))).natAbs * 1000000 ≤ limF f 0x5C 7 0 1 250 * 2 ^ 40)

/-- An accepted edge (R323, R326, R327): REF_FREQ, what the check looks at, and the loop where the reference is in use. -/
def refAccept (f : Fabric) (x : RefState) (t : TbState) (r : Nat) (e : Int) : Fabric × RefState :=
  let m := refMon x r
  let dt := m.sinceAcc
  let rate := nomRate f r
  let div := if rate > 96000 then 4 else if rate > 48000 then 2 else 1
  let use := decide (div ≤ m.skip + 1)
  let m' := { m with lastE := some e, sinceAcc := 0, ivals := if m.lastE.isSome then lastTen (10 * sec256) (dt :: m.ivals) else m.ivals
                     skip := if use then 0 else m.skip + 1, wait := if use then 0 else m.wait + dt }
  let f := wrR f (refAt r 8) (wordOf (refFreq f t r m'))
  let m' := { m' with farAt := if freqFits f r then m'.farAt else some m'.clock,
                      rateAt := if rateFits f r || decide (m'.raw.length < 64) then m'.rateAt else some m'.clock }
  let x := setMon x r m'
  let st := dpllSt f
  if x.sel == some r && use && (st == 1 || st == 2 || st == 5) then dpllUpdate f x r e (m.wait + dt) else (f, x)

/-- The rate classification after an edge (R327). Stray edges that R324 ignores, at most 4 and so 8 intervals, leave the rate. -/
def refClassify (f : Fabric) (r : Nat) (m : RefMon) : Fabric :=
  if !isRateRef r ∨ m.raw.length < 64 then f
  else
    let old := getF f (refAt r 4) 6 4
    let off (i : Nat) : Bool :=
      !(decide (99 * sec256 ≤ 100 * refRate old * i) && decide (100 * refRate old * i ≤ 101 * sec256))
    let c := classify (m.raw.foldl (· + ·) 0)
    let c := if c = 0 ∧ old ≠ 0 ∧ (m.raw.filter off).length ≤ 8 then old else c
    let f := putF f (refAt r 4) 6 4 c
    if old ≠ 0 ∧ c ≠ old ∧ monOf f r ≠ 0 then refDisq f r 18 4 else f

/-- The monitor enters CHECKING (R326): REF_FREQ is averaged over the check from here. -/
def toCheck (f : Fabric) (x : RefState) (r : Nat) : Fabric × RefState :=
  let m := refMon x r
  (putMon f r 1, setMon x r { m with checkAt := m.clock, ivals := [], farAt := none, rateAt := none })

/-- TDMREF has a source: its clock generator is in slave mode (R320). -/
def tdmSlave (f : Fabric) : Bool := getB f (ra (pCG (getF f (ra pREF 0x68) 3 0)) 0x40) 0
/-- TDMREF reads as ABSENT while its clock generator is not in slave mode (R320). -/
def tdmCheck (f : Fabric) (x : RefState) : Fabric × RefState :=
  if tdmSlave f ∨ monOf f 8 = 0 then (f, x)
  else (putF (putMon f 8 0) (refAt 8 4) 6 4 0, setMon x 8 { RefMon.reset with once := (refMon x 8).once })

/-- An edge of reference r (R320 to R328): its phase error e and the interval since the edge before it, in 1/256 ns, and for
a PPS the high time of its pulse in nanoseconds. -/
def refEdge (f : Fabric) (x : RefState) (t : TbState) (r : Nat) (e : Int) (interval high : Nat) : Fabric × RefState :=
  if r = 9 ∨ (r = 8 ∧ !tdmSlave f) then (f, x)
  else
    let m := refMon x r
    let m := { m with clock := m.clock + interval, sinceAcc := m.sinceAcc + interval
                      raw := if isRateRef r then (interval :: m.raw).take 64 else m.raw }
    let x := setMon x r m
    let f := refClassify f r m
    let pps := r == 1 || r == 2
    let normal := decide (100 ≤ high) && decide (high ≤ 200000000)
    let reversed := decide (800000000 ≤ high) && decide (high ≤ 999999900)
    let auto := !getB f (refAt r 0) 8
    let inv := getB f (refAt r 4) 8 && auto
    if pps && reversed && !inv && auto then
      let x := setMon x r { m with rev := m.rev + 1 }
      (if 1 ≤ m.rev then putB f (refAt r 4) 8 true else f, x)
    else if pps && (if inv then !reversed else !normal) then refOutlier f (setMon x r { m with rev := 0 }) r
    else
      let x := setMon x r { m with rev := 0 }
      let rate := nomRate f r
      let bad :=
        if r = 0 then false
        else if isRateRef r then
          m.lastE.isSome && rate != 0 &&
            !(decide (99 * sec256 ≤ 100 * rate * m.sinceAcc) && decide (100 * rate * m.sinceAcc ≤ 101 * sec256))
        else match m.lastE with
          | some l => decide (256 * limF f 0x5C 31 16 100 65535 < (foldPhase f (e - l)).natAbs)
          | none => false
      if bad then refOutlier f x r
      else
        let (f, x) := if monOf f r = 0 ∧ (r ≠ 0 ∨ getB f (refAt 0 0) 9) then toCheck f x r else (f, x)
        refAccept f x t r e

/-- The check of a reference ends (R326): every condition has held for the whole check. One that only its rate failed is checked
again. -/
def refCheckEnd (f : Fabric) (x : RefState) (r : Nat) : Fabric × RefState :=
  if monOf f r ≠ 1 ∨ r = 9 then (f, x)
  else
    let m := refMon x r
    if !freqFits f r ∨ m.farAt.isSome then (refDisq f r 19 6, x)
    else if !rateFits f r ∨ m.rateAt.isSome then (f, setMon x r { m with checkAt := m.clock, rateAt := none })
    else if r = 0 ∧ !getB f (refAt 0 0) 9 then (f, x)
    else if !m.once ∨ getF f (ra pREF 0x50) 11 0 = 0 then
      (raise (putMon f r 3) pREF 7, setMon x r { m with once := true })
    else (putMon f r 2, x)

/-- The wait-to-restore time of a reference ends (R326). -/
def refWtrEnd (f : Fabric) (x : RefState) (r : Nat) : Fabric × RefState :=
  if monOf f r = 2 ∧ r ≠ 9 then (raise (putMon f r 3) pREF 7, setMon x r { refMon x r with once := true }) else (f, x)

/-- A second without a disqualifying cause has passed (R326, R327): outliers, a frequency out of range, or a fixed rate that is
not there. -/
def refDisqEnd (f : Fabric) (x : RefState) (r : Nat) : Fabric × RefState :=
  let cfg := getF f (refAt r 0) 6 4
  let m := refMon x r
  let still := (isRateRef r && cfg != 0 && cfg != getF f (refAt r 4) 6 4) || !freqFits f r ||
    m.farAt.any (fun t => decide (m.clock < t + sec256)) || !outsGone m.outs m.clock
  if monOf f r = 4 ∧ still = false then toCheck f x r else (f, x)

-- TBREF (R322)

/-- A stamp as a number without the counter's wraps: the one nearest the counter. -/
def unwrap (f : Fabric) (stamp : Nat) : Int :=
  (f.time.toNat : Int) + sx 72 ((stamp + 2 ^ 72 - f.time.toNat) % 2 ^ 72)

/-- The TBREF error of a stamp, in 1/256 ns: the grid point nearest it, less the stamp (R321, R322). -/
def gridError (f : Fabric) (x : RefState) (stamp : Nat) : Int :=
  let p : Int := (1000000000 * 2 ^ 32 * (96000 / fsHz f) : Nat)
  let u := (x.grid - unwrap f stamp * 96000) % p
  let v := if 2 * u > p then u - p else u
  rne v (96000 * 2 ^ 24)

/-- The counter moves from one value to another (R322): the grid keeps its place across every wrap. -/
def gridWrap (x : RefState) (old new : Nat) : RefState :=
  let d := (old : Int) + sx 72 ((new + 2 ^ 72 - old) % 2 ^ 72) - new
  { x with grid := x.grid - d * 96000 }

/-- A block latch is an edge of TBREF (R320, R322). -/
def tbrefLatch (f : Fabric) (x : RefState) (t : TbState) (stamp : Nat) : Fabric × RefState :=
  if getB f (refAt 0 0) 9 then refEdge f x t 0 (gridError f x stamp) (blockLen f * sec256 / fsHz f) 0 else (f, x)

/-- TBREF is lost at once where TB_VALID is cleared or the counter has restarted (R325); by no other event. -/
def tbrefGone (f : Fabric) : Bool := !getB f (refAt 0 0) 9 || getB f (ra pTB 0x50) 3
/-- REF_LOSS (R325): an edge of r has not come within 3.03 periods; TBREF is lost by its own two events. -/
def refLoss (f : Fabric) (x : RefState) (r : Nat) : Fabric × RefState :=
  if r = 0 ∧ !tbrefGone f then (f, x) else refLose f x r

/-- A move of the grid against the latches (R322): larger than LOCK_PHASE it is realigned in SWITCHING. -/
def gridMove (f : Fabric) (x : RefState) (move : Int) : Fabric × RefState :=
  let mv := foldPhase f move
  let st := dpllSt f
  if x.sel == some 0 && (st == 2 || st == 5) && decide (lockPhase f < (mv.natAbs : Int)) then
    let lock := getB f (ra pREF 0x80) 3
    (dpllEnter f 5 lock, { x with dist := foldAt fine f (x.dist + mv * fine), lockFor := 0 })
  else (f, x)

/-- A write of TB_GRID (R322). -/
def tbGridWrite (f : Fabric) (x : RefState) (v : Word) : Fabric × RefState :=
  if !ready f pREF then (fail f pREF 1 0x64, x)
  else
    let last := rdN f (ra pTB 0x80) * 2 ^ 32 + rdN f (ra pTB 0x84) + rdN f (ra pTB 0x88) * 2 ^ 64
    let old := gridError f x last
    let d := sx 32 ((v.toNat + 2 ^ 32 - timeNs f) % 2 ^ 32)
    let x := { x with grid := ((f.time.toNat : Int) / 2 ^ 32 + d) * 2 ^ 32 * 96000 }
    gridMove (wrR f (ra pREF 0x64) v) x (gridError f x last - old)

-- Selection (R329 to R332, R338, R339, R341)

/-- RANK of a reference. -/
def rankOf (f : Fabric) (r : Nat) : Nat := getF f (refAt r 0) 3 0

/-- The candidates of MODE AUTO (R330). -/
def candidates (f : Fabric) : List Nat := (upto 9).filter (fun r => monOf f r == 3 && rankOf f r != 0)

/-- REF_FREQ of a reference. -/
def freqOf (f : Fabric) (r : Nat) : Int := intOf (rdR f (refAt r 8))

/-- Two references disagree (R331). -/
def disagree (f : Fabric) (a b : Nat) : Bool :=
  a != b && decide (limF f 0x58 15 0 10 10000 * 2 ^ 40 < (freqOf f a - freqOf f b).natAbs * 10 ^ 8)

/-- The choice among candidates of equal best rank (R330, R331): the reference, and whether R331 changed the selection. -/
def chooseEqual (f : Fabric) (x : RefState) (l : List Nat) : Option Nat × Bool :=
  let dis := l.filter (fun a => l.any (fun b => disagree f a b))
  let cur := x.sel.filter (fun r => l.contains r)
  let plain := match cur with
    | some r => some r
    | none => l.head?
  if dis.isEmpty then (plain, false)
  else
    let w :=
      if getB f (ra pREF 0x80) 8 then
        let mean := intOf (rdR f (ra pREF 0x8C))
        dis.foldl (fun best r => match best with
          | none => some r
          | some b => if (freqOf f r - mean).natAbs < (freqOf f b - mean).natAbs then some r else some b) none
      else plain
    if cur.isSome && w != cur then (if x.hold60 = 0 then (w, true) else (cur, false)) else (w, false)

/-- The reference the mode selects, none for HOLDOVER (R330, R332); a change made by R331 is marked. -/
def wanted (f : Fabric) (x : RefState) : Option Nat × Bool :=
  let ctl := rdR f (ra pREF 0x40)
  if !enabled f pREF then (none, false)
  else if fld ctl 1 0 = 2 then (none, false)
  else if fld ctl 1 0 = 1 then (if monOf f (fld ctl 7 4) = 3 then some (fld ctl 7 4) else none, false)
  else
    let c := candidates f
    match c with
    | [] => (none, false)
    | _ =>
      let best := c.foldl (fun b r => min b (rankOf f r)) 15
      let top := c.filter (fun r => rankOf f r == best)
      match x.sel.filter (fun r => c.contains r) with
      | some cur =>
        if !bit ctl 8 then (some cur, false)
        else if best < rankOf f cur then ((chooseEqual f x top).1, false)
        else chooseEqual f x top
      | none => ((chooseEqual f x top).1, false)

/-- The disagreement flags (R331). -/
def markDisagree (f : Fabric) : Fabric :=
  let c := candidates f
  let bad := c.filter (fun a => c.any (fun b => rankOf f a == rankOf f b && disagree f a b))
  if bad.isEmpty ∨ getF f (ra pREF 0x40) 1 0 ≠ 0 then f
  else
    let new := bad.any (fun r => !getB f (refAt r 4) 20)
    let f := bad.foldl (fun f r => putB f (refAt r 4) 20 true) f
    let f := putB f (ra pREF 0x80) 11 true
    raiseIf new f pREF 5

/-- Starts on a reference in a DPLL state (R336 to R339). -/
def startOn (f : Fabric) (x : RefState) (r st : Nat) (lock count : Bool) : Fabric × RefState :=
  let x := { x with sel := some r, fresh := true, dist := 0, lockFor := 0 }
  let f := dpllEnter f st lock
  let f := if count then bump f (ra pREF 0x9C) else f
  (raise (showSel f x) pREF 1, x)

/-- Selection is re-evaluated (R330 to R332, R338, R339, R341). -/
def refSelect (f : Fabric) (x : RefState) : Fabric × RefState :=
  let st := dpllSt f
  let ctl := rdR f (ra pREF 0x40)
  if st = 7 then (f, x)
  else if fld ctl 1 0 = 1 ∧ fld ctl 7 4 = 9 then
    if st = 0 then (f, x)
    else
      let x := { x with sel := none, lockFor := 0, dist := 0, fresh := false }
      let f := wrN (dpllEnter f 0 false) (ra pREF 0x88) 0
      (showSel f x, x)
  else if st = 6 then (f, x)
  else
    let f := markDisagree f
    let w := wanted f x
    let x := if w.2 then { x with hold60 := 60 * 250000000 } else x
    match w.1 with
    | none => if st = 1 ∨ st = 2 ∨ st = 5 then enterHoldover f x false else (f, x)
    | some r =>
      if st = 0 then startOn f x r 1 false false
      else if st = 1 then (if x.sel = some r then (f, x) else startOn f x r 1 false false)
      else if st = 2 then (if x.sel = some r then (f, x) else startOn f x r 5 true true)
      else if st = 5 then (if x.sel = some r then (f, x) else startOn f x r 5 (getB f (ra pREF 0x80) 3) true)
      else startOn f x r 5 false true

/-- HO_LIMIT elapses (R335). -/
def holdoverExpire (f : Fabric) : Fabric :=
  let lim := getF f (ra pREF 0x4C) 19 0
  if dpllSt f = 3 ∧ lim ≠ 0 ∧ lim ≤ rdN f (ra pREF 0x90) then raise (dpllEnter f 4 false) pREF 9 else f

/-- The system PLL locks after reset (R341). -/
def dpllInitEnd (f : Fabric) (x : RefState) : Fabric × RefState :=
  if dpllSt f = 7 then
    let (f, x) := setY f x (intOf (rdR f (ra pREF 0x60)))
    (showSel (dpllEnter f 0 false) x, x)
  else (f, x)

/-- A media PLL loses lock (R341). -/
def dpllFault (f : Fabric) (x : RefState) : Fabric × RefState :=
  if dpllSt f = 7 ∨ dpllSt f = 6 then (f, x)
  else
    let x := { x with sel := none, lockFor := 0, dist := 0, fresh := false }
    (raise (showSel (dpllEnter f 6 false) x) pREF 10, x)

/-- Both media PLLs have been in lock for 10 ms (R341). -/
def dpllFaultEnd (f : Fabric) (x : RefState) : Fabric × RefState :=
  if dpllSt f = 6 then enterHoldover f x false else (f, x)

/-- A change of REF.PAGE_CTRL.ENABLE (R343). -/
def refEnable (f : Fabric) (x : RefState) (on : Bool) : Fabric × RefState :=
  let st := dpllSt f
  if !on && (st == 1 || st == 2 || st == 5) then enterHoldover f x false else (f, x)

/-- REF soft reset (R343): every field, its counters and build-out too, and the monitors; the DPLL and its records are kept. -/
def refSoft (f : Fabric) (x : RefState) : Fabric × RefState :=
  let st := dpllSt f
  let (f, x) := if st = 1 ∨ st = 2 ∨ st = 5 then enterHoldover f x true else (f, x)
  let f := softClear f pREF (fun o => decide (o < 0x40))
  let f := (upto 9).foldl (fun f r => putMon (putF (putB f (refAt r 4) 8 false) (refAt r 4) 6 4 0) r 0) f
  let f := (upto 9).foldl (fun f r => wrN (wrN f (refAt r 8) 0) (refAt r 0xC) 0) f
  let f := putF (wrN (wrN f (ra pREF 0x98) 0) (ra pREF 0x9C) 0) (ra pREF 0x80) 20 16 0
  let x := { x with mons := [], lockFor := 0 }
  let (f, x) := if dpllSt f = 0 then setY f x 0 else (f, x)
  (showRecords f x, x)

/-- A write of a REF configuration register (R343); off is the register's offset. -/
def refWrite (f : Fabric) (x : RefState) (off : Nat) (v : Word) : Fabric × RefState :=
  let bad :=
    if off = 0x40 then fld v 1 0 = 3 ∨ 10 ≤ fld v 7 4
    else if off = 0x44 then 21 ≤ fld v 4 0 ∨ 21 ≤ fld v 12 8
    else if 0x100 ≤ off ∧ off < 0x1A0 ∧ off % 16 = 0 then isRateRef ((off - 0x100) / 16) = true ∧ fld v 6 4 = 7
    else False
  if bad then (fail f pREF 0x0100 off, x)
  else
    let a := ra pREF off
    match rowOf a with
    | none => (f, x)
    | some row =>
      let v := if 0x100 ≤ off ∧ off < 0x1A0 ∧ off % 16 = 0 then
          let r := (off - 0x100) / 16
          if r = 9 then rdR f a
          else v &&& ((if r = 0 then 0x20F else if r = 1 ∨ r = 2 then 0x10F else if isRateRef r then 0x7F else 0xF : Nat) : Word)
        else v
      let old := rdR f a
      let f := wrR f a (storeReg row old v)
      if off = 0x100 ∧ bit old 9 ∧ !bit v 9 then refLose f x 0
      else if off = 0x100 ∧ !bit old 9 ∧ bit v 9 ∧ monOf f 0 = 0 then (putMon f 0 1, x)
      else if off = 0x60 ∧ dpllSt f = 0 then setY f x (intOf v)
      else if off = 0x48 then (showRecords f x, x)
      else if off = 0x44 then (showSel f x, x)
      else if off = 0x68 then tdmCheck f x
      else (f, x)

end Sys2Proof.Machine
end

