-- ==== Sys2Proof/Machine/Tap.lean ====
section
/-! DEFINITION. The JTAG port: its instructions and what each selects and drives (R524, R542, R543). -/
namespace Sys2Proof.Machine

/-- The value of IDCODE (R524). -/
def idcodeValue : Nat := 0x1102_456F
/-- The bits of a number, least significant first, n of them. -/
def bitsOf (n v : Nat) : List Bool := (upto n).map (fun i => v.testBit i)

/-- TAP reset selects IDCODE (R524, R542). -/
def tapReset (t : TapState) : TapState := { t with instr := .idcode, dr := bitsOf 32 idcodeValue }

/-- An instruction that drives pins from the boundary register: the cells are captured and new ones shifted in and updated
(R524, R543). -/
def tapDrive (t : TapState) (i : TapInstr) (pins shift : List Bool) : TapState := { t with instr := i, boundary := shift, dr := pins }

/-- SAMPLE/PRELOAD captures the cells and preloads the update latches (R524). -/
def tapSample (t : TapState) (pins shift : List Bool) : TapState := tapDrive t .sample pins shift

/-- An instruction that selects the one-bit bypass register, which captures 0 (R524). -/
def tapBypass (t : TapState) (i : TapInstr) : TapState := { t with instr := i, dr := [false] }

/-- The instruction takes the pins from the device (R524). -/
def tapTakesPins (t : TapState) : Bool :=
  match t.instr with
  | .extest => true
  | .clamp => true
  | .highz => true
  | .extestPulse => true
  | .extestTrain => true
  | .idcode => false
  | .sample => false
  | .bypass => false

/-- The 6-bit code of an instruction (R524). -/
def TapInstr.code : TapInstr → Nat
  | .extest => 0x00
  | .idcode => 0x01
  | .sample => 0x02
  | .clamp => 0x04
  | .highz => 0x05
  | .extestPulse => 0x08
  | .extestTrain => 0x09
  | .bypass => 0x3F

/-- The instruction a code selects; every other code acts as BYPASS (R524). -/
def tapDecode (c : Nat) : TapInstr :=
  if c = 0 then .extest else if c = 1 then .idcode else if c = 2 then .sample else if c = 4 then .clamp
  else if c = 5 then .highz else if c = 8 then .extestPulse else if c = 9 then .extestTrain else .bypass

end Sys2Proof.Machine
end

