-- ==== Sys2Proof/Machine/Trifle.lean ====
section
/-! DEFINITION. Trifle redundancy and the alive-counter checker (14), as functions of the fabric, the stack and trifle state and the
sample store. -/
namespace Sys2Proof.Machine

/-- The offset of a TRI register. -/
def triAt (off : Nat) : Nat := ra pTRI off
def triRole (f : Fabric) : Nat := getF f (triAt 0x48) 2 0
def triPos (f : Fabric) : Nat := getF f (triAt 0x48) 5 4
def triHealth (f : Fabric) : Nat := getF f (triAt 0x48) 9 8
def triMacaron (f : Fabric) : Bool := getB f (triAt 0x40) 4
/-- The stack ID of position p: 1 P0, 2 P1, 3 P2 (R431). -/
def memberId (f : Fabric) (p : Nat) : Nat := getF f (triAt 0x44) (8 * (p - 1) + 5) (8 * (p - 1))
/-- V_eff (R435). -/
def vEff (f : Fabric) : Nat := max (2 ^ getF f (triAt 0x40) 10 8) (blockLen f)

-- Roles (R431 to R433, R445)

/-- Enters a role from own MSC m on (R432, R442): OWN_OUT is high exactly while the member is OWNER. -/
def triEnterAt (f : Fabric) (x : TriState) (m role : Nat) : Fabric × TriState :=
  let was := triRole f
  let f := putB (putF f (triAt 0x48) 2 0 role) (triAt 0x48) 16 (role == 1)
  let f := putB f (triAt 0x0C) 3 (role == 4 || role == 5)
  let x := if (was == 1) != (role == 1) then { x with owns := ((m, role == 1) :: x.owns).take 8 } else x
  let x := if role = 4 ∧ was ≠ 4 then { x with catchAt := m } else x
  (raiseIf (was != role) f pTRI 0, x)

/-- Enters a role at the present MSC. -/
def triEnter (f : Fabric) (x : TriState) (role : Nat) : Fabric × TriState := triEnterAt f x f.msc.toNat role

/-- The position in force (R431). -/
def posSel (f : Fabric) : Nat :=
  let s := getF f (triAt 0x40) 2 0
  if s = 0 then getF f (triAt 0x48) 21 20 else if s = 4 then 0 else s

/-- Ownership at an egress MSC (R396, R445). -/
def ownedAt (f : Fabric) (x : TriState) (m : Nat) : Bool :=
  match x.owns.find? (fun e => decide (e.1 ≤ m)) with
  | some e => e.2
  | none => if x.owns.isEmpty then triRole f == 1 else false

/-- The role a member takes with the session (R433): joint tells that it started jointly with TRI enabled. -/
def triBegin (f : Fabric) (x : TriState) (joint : Bool) : Fabric × TriState :=
  let p := posSel f
  let f := wrN (putF f (triAt 0x48) 5 4 p) (triAt 0x50) (vEff f)
  let f := putF f (triAt 0x48) 13 12 1
  if !enabled f pTRI || p == 0 || (triMacaron f && p == 3) then triEnter f x 0
  else
    let x := { TriState.reset with alv := x.alv, nextAlive := x.nextAlive }
    triEnter f x (if joint then p else 4)

/-- The first vote-block boundary strictly after a stack MSC (R438). -/
def boundaryAfter (f : Fabric) (t : Nat) : Nat := (t / vEff f + 1) * vEff f

/-- An owner that took its role by no order and sees another own is to release (R442). -/
def seeOwner (f : Fabric) (x : TriState) : TriState :=
  if (getB f (triAt 0x48) 17 || getB f (triAt 0x48) 18) && triRole f == 1 && !x.byOrder && x.due.isNone then
    { x with due := some (boundaryAfter f (stackMsc f), .release) }
  else x

/-- The session's start (R415, R433): joint where every member starts its session at MSC 0. -/
def triStart (f : Fabric) (x : TriState) : Fabric × TriState :=
  let r := triBegin f x (getB f (stkAt 0x44) 0 && mscOfs f == 0 && f.msc == 0 && enabled f pSTK)
  (r.1, seeOwner r.1 r.2)

/-- A write of TRI ENABLE (R433, R457). -/
def triEnable (f : Fabric) (x : TriState) (on : Bool) : Fabric × TriState :=
  let was := enabled f pTRI
  let f := putB f (triAt 0x08) 0 on
  if on == was then (f, x)
  else if on then (if running f then triBegin f x false else (wrN (putF f (triAt 0x48) 5 4 (posSel f)) (triAt 0x50) (vEff f), x))
  else
    let f := if opRunning f .rejoin then opEnd f .rejoin 3 0 else f
    triEnter f { x with due := none, rejoin := none } 0

-- The vote (R436 to R439)

/-- The owned set (R436): endpoint IDs, ascending, each once. -/
def ownedSet (f : Fabric) (s : StrmState) : List Nat :=
  let tx := (s.act.filter (fun e => decide (512 ≤ e.1) && stOwnGate e.2)).flatMap (fun e =>
    (upto (stNch e.2)).map (fun c => 0xA000 + stBase e.2 + c))
  let sap := ((upto 64).filter (fun p => getB f (sapAt p 0x40) 6 && enabled f (pSAP p))).flatMap (fun p =>
    let n := cgN f (getF f (sapAt p 0x40) 3 0)
    ((upto 32).filter (fun k =>
      let m := bit (rdAct f (pSAP 0) (sapAt p 0x44)) k
      decide (k < n) && m && (pinDir f p == 1 || (pinDir f p == 2 && bit (rdAct f (pSAP 0) (sapAt p 0x48)) k)))).map
        (fun k => 0xB000 + 32 * p + k))
  let ring := ((stkRows f (actB f pSTK) 1).filter (fun e => bit (stkAct f 3 (fld e.2 12 0 / 64)) 6)).map (fun e => 0xC000 + e.1)
  (tx ++ sap ++ ring).eraseDups.mergeSort (fun a b => decide (a ≤ b))

/-- The check value of vote block k (R436). -/
def checkValue (f : Fabric) (s : StrmState) (a : Audio) (k : Nat) : Nat :=
  let v := vEff f
  let set := ownedSet f s
  if set.isEmpty then 0
  else crc32c (set.flatMap (fun ch => (upto v).flatMap (fun i =>
    let own : Nat := ((k * v + i) + 2 ^ 64 - mscOfs f) % 2 ^ 64
    leBytes 4 (ux 32 (egress31 (sample a (own : Int) ch))))))

/-- The vote block whose evaluation tick D_k is a stack MSC, if one (R438). -/
def blockAt (f : Fabric) (t : Nat) : Option Nat :=
  let v := vEff f
  let x := t + blockLen f
  if x < v + 2 then none else if (x - 2 - v) % v = 0 then some ((x - 2 - v) / v) else none

/-- The error counts of R452. -/
def errCounts (f : Fabric) (k : StkState) (n : NetState) (s : StrmState) : Nat × Nat × Nat :=
  let port (p : Nat) : Nat :=
    if (rxActs s).any (fun e => stPort e.2 p) then mget zeroN (portOf n p).stats 7 + mget zeroN (portOf n p).stats 8 else 0
  (ueCount f, k.readCrc, port 0 + port 1)

/-- A synchronous message goes both ways ahead of SNAP messages (R438, R447). -/
def castVote (k : StkState) (m : BitVec 128) : StkState := { k with syncQ := [(0, m), (1, m)] ++ k.syncQ }

/-- The vote of block k (R437). -/
def voteMsg (f : Fabric) (x : TriState) (k check : Nat) (err owner : Bool) : BitVec 128 :=
  mkMsg 0x20 (stkId f) 0 true 0 (check + k % 2 ^ 16 * 2 ^ 32 + x.nextAlive % 256 * 2 ^ 48 + triRole f * 2 ^ 56 + err.toNat * 2 ^ 59 +
    triPos f * 2 ^ 60 + owner.toNat * 2 ^ 62 + memberId f 1 * 2 ^ 64)

/-- The sample tick's share (R438): at D_k - 1 the vote of block k is sent. -/
def triTick (f : Fabric) (x : TriState) (k : StkState) (n : NetState) (s : StrmState) (a : Audio) : TriState × StkState :=
  match blockAt f (stackMsc f + 1) with
  | none => (x, k)
  | some b =>
    if triRole f = 0 ∨ !running f then (x, k)
    else
      let check := checkValue f s a b
      let now := errCounts f k n s
      let err := decide (x.errBase.1 < now.1) || decide (x.errBase.2.1 < now.2.1) || decide (x.errBase.2.2 < now.2.2)
      let owner := ownedAt f x ((b * vEff f + 2 ^ 64 - mscOfs f) % 2 ^ 64)
      let m := voteMsg f x b check err owner
      let own : VoteRec := ⟨stkId f, b % 2 ^ 16, check, triRole f, err, triPos f, owner⟩
      ({ x with votes := x.votes ++ [own], nextAlive := (x.nextAlive + 1) % 256, errBase := now }, castVote k m)

-- Alive counters (R453)

/-- Entry a takes a value (R453). -/
def alvTake (f : Fabric) (x : TriState) (a v : Nat) : Fabric × TriState :=
  let cfg := rdR f (triAt (0x200 + 16 * a))
  let n := 2 ^ (fld cfg 19 16 + 1)
  let c := v / 2 ^ fld cfg 28 24 % n
  let x' := { x with alv := mset (fun _ => none) x.alv a (some c) }
  match mget (fun _ => none) x.alv a with
  | none => (f, x')
  | some p =>
    if c = (p + 1) % n then (f, x')
    else if c = p then
      (raise (putB (bumpF f (triAt (0x208 + 16 * a)) 15 0) (triAt (0x204 + 16 * a)) 0 true) pTRI 8, x')
    else (raise (putB (bumpF f (triAt (0x208 + 16 * a)) 31 16) (triAt (0x204 + 16 * a)) 1 true) pTRI 8, x')

/-- Every entry of a source and ID takes a value (R453). -/
def alvAll (f : Fabric) (x : TriState) (src ident v : Nat) : Fabric × TriState :=
  (upto 32).foldl (fun (acc : Fabric × TriState) a =>
    let cfg := rdR acc.1 (triAt (0x200 + 16 * a))
    if fld cfg 1 0 = src ∧ fld cfg 9 4 = ident then alvTake acc.1 acc.2 a v else acc) (f, x)

/-- A write of ALV_FEED (R453). -/
def alvFeed (f : Fabric) (x : TriState) (a : Nat) (v : Word) : Fabric × TriState :=
  if getF f (triAt (0x200 + 16 * a)) 1 0 = 3 then alvTake f x a v.toNat else (f, x)

/-- A write of ALV_CFG: a newly enabled or changed entry accepts its next value (R453). -/
def alvCfg (f : Fabric) (x : TriState) (a : Nat) (v : Word) : Fabric × TriState :=
  let w := v &&& 0x1F0F_03F3
  let old := rdR f (triAt (0x200 + 16 * a))
  (wrR f (triAt (0x200 + 16 * a)) w, if old = w then x else { x with alv := mset (fun _ => none) x.alv a none })

-- Reception (R437 to R439, R442)

/-- A vote for a block comes after the tick at which that block is evaluated (R438): stack MSC t. -/
def lateVote (f : Fabric) (block : Nat) : Bool :=
  let t := stackMsc f + blockLen f
  let v := vEff f
  decide (v + 3 ≤ t) && decide (0 ≤ sx 16 (((t - 3 - v) / v + 2 ^ 16 - block) % 2 ^ 16))

/-- A VOTE message with sub-field 0 arrives (R437, R439, R453): once for its sender and block. A member that is OFF learns the
sender's role from it (R446). -/
def voteRx (f : Fabric) (x : TriState) (s : Nat) (m : BitVec 128) : Fabric × TriState :=
  let (f, mine) := takeSync f s 0x20 m
  let w := msgPay m
  if !(mine && msgSub m == 0) then (f, x)
  else
    let src := msgSrc m
    let block := nfld w 47 32
    let al := nfld w 55 48
    if mget (fun _ => none) x.alive src == some (256 * block + al) then (f, x)
    else
      let r := alvAll f x 1 src al
      let x := r.2
      let rep := (mget (fun _ => none) x.alive src).any (fun p => p % 256 == al)
      let x := { x with alive := mset (fun _ => none) x.alive src (some (256 * block + al)) }
      if rep || lateVote r.1 block || nfld w 69 64 != memberId r.1 1 then (r.1, x)
      else if triRole r.1 = 0 then
        (r.1, if src = memberId r.1 (nfld w 61 60) then { x with roles := mset zeroN x.roles (nfld w 61 60) (nfld w 58 56) } else x)
      else
        let v : VoteRec := ⟨src, block, w % 2 ^ 32, nfld w 58 56, w.testBit 59, nfld w 61 60, w.testBit 62⟩
        (r.1, { x with votes := x.votes ++ [v] })

/-- The next stack MSC, from the present one on, with given low 32 bits. -/
def atMsc (f : Fabric) (lo : Nat) : Nat :=
  let t := stackMsc f
  let d := sx 32 ((lo + 2 ^ 32 - t % 2 ^ 32) % 2 ^ 32)
  ((t : Int) + d).toNat

/-- An ORDER arrives (R437, R442). -/
def orderRx (f : Fabric) (x : TriState) (s : Nat) (m : BitVec 128) : Fabric × TriState :=
  let (f, mine) := takeSync f s 0x20 m
  let w := msgPay m
  if mine && msgSub m == 1 && nfld w 69 64 == memberId f 1 && triRole f != 0 then
    (f, { x with due := some (atMsc f (w % 2 ^ 32), .order (nfld w 61 60)) })
  else (f, x)

/-- An ORDER message (R437). -/
def orderMsg (f : Fabric) (at_ block pos : Nat) : BitVec 128 :=
  mkMsg 0x20 (stkId f) 0 true 1 (at_ % 2 ^ 32 + block % 2 ^ 16 * 2 ^ 32 + pos * 2 ^ 60 + memberId f 1 * 2 ^ 64)

/-- The frame this device has originated in the cycle in progress takes a message that waits into a free control slot (R442). -/
def fillSent (f : Fabric) (k : StkState) (dir : Nat) : StkState :=
  match (if dir = 0 then k.sentE else k.sentW) with
  | none => k
  | some fr =>
    if nfld (hw fr 0) 47 42 == stkId f && hw fr 0 % 2 ^ 16 == k.seq % 2 ^ 16 then
      let r := fillCtrl f k dir fr
      if dir = 0 then { r.2.1 with sentE := some r.2.2 } else { r.2.1 with sentW := some r.2.2 }
    else k

/-- An order issued here: it goes out in the frames of this tick, and is due here too (R442, R444). -/
def sendOrder (f : Fabric) (x : TriState) (k : StkState) (at_ block pos : Nat) : TriState × StkState :=
  ({ x with due := some (at_, .order pos) }, fillSent f (fillSent f (castVote k (orderMsg f at_ block pos)) 0) 1)

-- Evaluation (R440 to R444, R449, R452)

/-- Consecutive absences of a position. -/
def goneOf (x : TriState) (p : Nat) : Nat := mget zeroN x.gone p
/-- A position's role as last voted; an absent member fills none. -/
def roleOf (x : TriState) (p : Nat) : Nat := if 2 ≤ goneOf x p then 0 else mget zeroN x.roles p

/-- A position is marked ABSENT by roll call, where this device knows it (R417, R444). -/
def rollAbsent (f : Fabric) (p : Nat) : Bool := isTimer f && memberId f p != stkId f && !memberBit f 0x50 (memberId f p)

/-- HEALTH (R444): 0 FULL, 1 NO_STANDBY, 2 DEGRADED, 3 ALONE. -/
def healthNow (f : Fabric) (x : TriState) : Nat :=
  let me := triPos f
  let role (p : Nat) : Nat := if p = me then triRole f else roleOf x p
  let others := [1, 2, 3].filter (· != me)
  if others.all (fun p => decide (2 ≤ goneOf x p) || rollAbsent f p) then 3
  else if me != 3 && rollAbsent f 3 || role 3 != 3 then (if triMacaron f then (if role 1 == 2 || role 2 == 2 then 0 else 1) else 2)
  else if role 1 != 2 && role 2 != 2 then 1
  else 0

/-- HEALTH in STAT (R444). -/
def showHealth (f : Fabric) (x : TriState) : Fabric :=
  let h := healthNow f x
  let was := triHealth f
  raiseIf (h != was) (putF f (triAt 0x48) 9 8 h) pTRI 5

/-- The FLAGS bit n is set with cause c. -/
def triFlag (f : Fabric) (n c : Nat) : Fabric := raise (putB f (triAt 0x4C) n true) pTRI c

/-- This member is demoted (R441). -/
def demote (f : Fabric) (x : TriState) : Fabric × TriState := triEnter f { x with demoted := true, matched := 0, selfMin := 0 } 4

/-- The votes of block b, one for each position, by members of this trifle (R439). -/
def votesOf (f : Fabric) (x : TriState) (b p : Nat) : Option VoteRec :=
  x.votes.find? (fun v => v.block == b % 2 ^ 16 && v.pos == p && v.src == memberId f p)

/-- A present vote that counts toward a majority (R432, R439). -/
def counting (v : Option VoteRec) : Option VoteRec := v.filter (fun v => v.role == 1 || v.role == 2 || v.role == 3)

/-- The majority value of the counting votes, where two agree (R440). -/
def majority (l : List Nat) : Option Nat := l.find? (fun c => decide (2 ≤ (l.filter (· == c)).length))

/-- CHECK_P, VOTE_STAT and LAST_BLOCK (R438, R457). -/
def showVotes (f : Fabric) (x : TriState) (b : Nat) (maj : Option Nat) : Fabric :=
  let f := wrN f (triAt 0x54) (b % 2 ^ 16)
  [1, 2, 3].foldl (fun f p =>
    let v := votesOf f x b p
    let st := match v with
      | none => 0
      | some v => match maj with
        | none => 3
        | some c => if v.check = c then 1 else 2
    let f := match v with
      | some v => wrN f (triAt (0x58 + 4 * (p - 1))) v.check
      | none => f
    putF f (triAt 0x64) (2 * (p - 1) + 1) (2 * (p - 1)) st) f

/-- The owner's and the standby's checks differ while ownership is frozen (R444). -/
def frozenCompare (f : Fabric) (o s : Option VoteRec) : Fabric :=
  match o, s with
  | some o, some s => if o.check ≠ s.check ∧ (triRole f = 1 ∨ triRole f = 2) then triFlag f 4 7 else f
  | _, _ => f

/-- The table of R440 with all three roles filled. -/
def evalThree (f : Fabric) (x : TriState) (k : StkState) (b h : Nat) (o s a : Option VoteRec) : Fabric × TriState × StkState :=
  let lim := getF f (triAt 0x40) 15 12
  let me := triRole f
  let full := triHealth f == 0
  let order (x : TriState) : TriState × StkState :=
    if me = 3 ∧ full then (match s with
      | some v => sendOrder f { x with ownerMin := 0, ownerAbs := 0 } k h b v.pos
      | none => (x, k))
    else (x, k)
  match o, s, a with
  | some o, some s', some a =>
    let whole := x
    let x := { x with ownerAbs := 0 }
    if o.check = s'.check ∧ s'.check = a.check then (f, { x with ownerMin := 0, selfMin := 0 }, k)
    else if s'.check = a.check then
      let f := triFlag (bump f (triAt 0xA0)) 0 2
      let x := { x with ownerMin := x.ownerMin + 1, selfMin := 0 }
      let r := if lim ≤ x.ownerMin then order x else (x, k)
      (f, r.1, r.2)
    else if o.check = a.check then
      let x := { x with ownerMin := 0, selfMin := if me = 2 then x.selfMin + 1 else 0 }
      let r := if me = 2 ∧ lim ≤ x.selfMin then demote f x else (f, x)
      (r.1, r.2, k)
    else if o.check = s'.check then
      let x := { x with ownerMin := 0, selfMin := if me = 3 then x.selfMin + 1 else 0 }
      let r := if me = 3 ∧ lim ≤ x.selfMin then demote f x else (f, x)
      (r.1, r.2, k)
    else (triFlag (bump f (triAt 0xA8)) 2 4, whole, k)
  | none, some s', some a =>
    if s'.check = a.check then
      let f := triFlag (bump f (triAt 0xA4)) 1 3
      let x := { x with ownerAbs := x.ownerAbs + 1, selfMin := 0 }
      let r := if 2 ≤ x.ownerAbs then order x else (x, k)
      (f, r.1, r.2)
    else (f, x, k)
  | some o, s, a =>
    -- a vote is missing: two that agree are a majority, which clears the counts of the two
    let withS := s.any (fun v => v.check == o.check)
    let withA := a.any (fun v => v.check == o.check)
    (f, { x with ownerAbs := 0, ownerMin := if withS || withA then 0 else x.ownerMin,
                 selfMin := if (me == 2 && withS) || (me == 3 && withA) then 0 else x.selfMin }, k)
  | none, _, _ => (f, x, k)

/-- The macaron's decision on a block (R452). -/
def evalPair (f : Fabric) (x : TriState) (k : StkState) (b h : Nat) (o s : Option VoteRec) : Fabric × TriState × StkState :=
  match o, s with
  | some o, some s =>
    if o.check = s.check then (f, { x with ownerMin := 0 }, k)
    else if o.err ∧ !s.err then
      let x := { x with ownerMin := x.ownerMin + 1 }
      if triRole f = 1 ∧ getF f (triAt 0x40) 15 12 ≤ x.ownerMin then
        let r := sendOrder f { x with ownerMin := 0 } k h b s.pos
        (f, r.1, r.2)
      else (f, x, k)
    else if !o.err ∧ s.err then (triFlag f 4 7, x, k)
    else (triFlag f 5 7, x, k)
  | _, _ => (f, x, k)

/-- A member in CATCHUP counts a match (R449). -/
def catchupMatch (f : Fabric) (x : TriState) (ok : Bool) : Fabric × TriState :=
  if triRole f ≠ 4 then (f, x)
  else
    let n := if ok then x.matched + 1 else 0
    if getF f (triAt 0x40) 25 16 ≤ n then
      let f := match x.rejoin with
        | some _ => wrN (if opRunning f .rejoin then opEnd f .rejoin 2 0 else f) (triAt 0x8C) 0
        | none => f
      triEnter f { x with matched := 0, demoted := false, rejoin := none } (if triPos f = 3 then 3 else 2)
    else (f, { x with matched := n })

/-- A REJOIN fails: the member is in CATCHUP (R450). -/
def rejoinFail (f : Fabric) (x : TriState) (detail : Nat) : Fabric × TriState :=
  if !opRunning f .rejoin then (f, { x with rejoin := none })
  else triEnter (wrN (opEnd f .rejoin 5 detail) (triAt 0x8C) 0) { x with rejoin := none, snap := [], matched := 0 } 4

/-- The REJOIN in progress loses its source or its session (R450). -/
def rejoinWatch (f : Fabric) (x : TriState) (k : StkState) : Fabric × TriState :=
  match x.rejoin with
  | none => (f, x)
  | some r =>
    let p := [1, 2, 3].find? (fun p => memberId f p == r.source)
    let lost := p.elim true (fun p => let ro := roleOf x p; (ro != 1 && ro != 2) || rollAbsent f p)
    if !running f || k.mismatch then rejoinFail f x 3 else if lost then rejoinFail f x 2 else (f, x)

/-- At tick D_k the votes of block k are evaluated (R438 to R444, R449, R452). -/
def voteEvaluate (f : Fabric) (x : TriState) (k : StkState) : Fabric × TriState × StkState :=
  match blockAt f (stackMsc f) with
  | none => (f, x, k)
  | some b =>
    if triRole f = 0 ∨ !running f then (f, x, k)
    else
      let h := boundaryAfter f (stackMsc f)
      let all := [1, 2, 3].map (fun p => counting (votesOf f x b p))
      let byRole (r : Nat) : Option VoteRec := (all.filterMap id).find? (fun v => v.role == r)
      let o := byRole 1
      let s := byRole 2
      let a := byRole 3
      let maj := if triMacaron f then (match o, s with
          | some o, some s => if o.check = s.check then some o.check else none
          | some o, none => some o.check
          | none, some s => some s.check
          | none, none => none)
        else majority ((all.filterMap id).map (·.check))
      let f := showVotes f x b maj
      -- presence, roles and the owner's position
      let x := [1, 2, 3].foldl (fun (x : TriState) p =>
        match votesOf f x b p with
        | some v => { x with gone := mset zeroN x.gone p 0, roles := mset zeroN x.roles p v.role }
        | none => { x with gone := mset zeroN x.gone p (goneOf x p + 1) }) x
      let f := match o with
        | some v => putF f (triAt 0x48) 13 12 v.pos
        | none => f
      let owners := ([1, 2, 3].filterMap (votesOf f x b)).filter (·.owner)
      let f := if triRole f == 3 && decide (2 ≤ owners.length) then triFlag f 3 6 else f
      let mine := votesOf f x b (triPos f)
      let ok := match mine, maj with
        | some v, some c => v.check == c
        | _, _ => false
      let r :=
        if triMacaron f then evalPair f x k b h o s
        else
          let f := if triHealth f != 0 then frozenCompare f o s else f
          if triRole f = 4 ∨ triRole f = 5 then (f, x, k) else evalThree f x k b h o s a
      let c := catchupMatch r.1 r.2.1 ok
      let w := rejoinWatch c.1 c.2 r.2.2
      let x := { w.2 with votes := w.2.votes.filter (fun v => decide (0 < sx 16 ((v.block + 2 ^ 16 - b % 2 ^ 16) % 2 ^ 16))) }
      (showHealth w.1 x, x, r.2.2)

-- Boundaries (R442, R444, R445)

/-- At h_k ownership moves (R442, R444). -/
def handover (f : Fabric) (x : TriState) : Fabric × TriState :=
  match x.due with
  | none => (f, x)
  | some (at_, d) =>
    if stackMsc f < at_ then (f, x)
    else
      let x := { x with due := none }
      let own := (at_ + 2 ^ 64 - mscOfs f) % 2 ^ 64
      match d with
      | .release =>
        if triRole f = 1 then
          let r := triEnterAt f { x with demoted := true, matched := 0, byOrder := false } own 4
          (showHealth (triFlag r.1 3 6) r.2, r.2)
        else (f, x)
      | .order pos =>
        let f := wrN (wrN (bump f (triAt 0xAC)) (triAt 0x68) (at_ % 2 ^ 32)) (triAt 0x6C) (at_ / 2 ^ 32)
        let f := putF (raise f pTRI 1) (triAt 0x48) 13 12 pos
        let r :=
          if triPos f = pos ∧ triRole f = 2 then triEnterAt f { x with byOrder := true } own 1
          else if triRole f = 1 ∧ triPos f ≠ pos then
            triEnterAt f { x with demoted := true, matched := 0, byOrder := false } own 4
          else (f, x)
        (showHealth r.1 r.2, r.2)

/-- The OWN_IN pins change (R442). -/
def ownIn (f : Fabric) (x : TriState) (in0 in1 : Bool) : Fabric × TriState :=
  let f := putB (putB f (triAt 0x48) 17 in0) (triAt 0x48) 18 in1
  (f, seeOwner f x)

/-- CMD.TAKE (R444). -/
def triTake (f : Fabric) (x : TriState) (k : StkState) : Fabric × TriState × StkState :=
  if triRole f ≠ 2 then (f, x, k)
  else if triHealth f = 0 then (fail f pTRI 0x0101 0x70, x, k)
  else
    let v := vEff f
    let at_ := (stackMsc f + 2 * blockLen f + v - 1) / v * v
    let r := sendOrder f x k at_ (at_ / v) (triPos f)
    (f, r.1, r.2)

-- Rejoin (R446 to R450)

/-- Whether REJOIN's arguments are bad (R446). -/
def rejoinBad (f : Fabric) (x : TriState) : Bool :=
  let src := getF f (triAt 0x88) 5 0
  let p := [1, 2, 3].find? (fun p => memberId f p == src && p != triPos f)
  let srcOk := p.elim false (fun p => roleOf x p == 1 || roleOf x p == 2)
  !((triRole f == 4 || triRole f == 0) && running f && mscOfs f == 0 && srcOk)

/-- REJOIN starts (R446, R448). -/
def rejoinStart (f : Fabric) (x : TriState) : Fabric × TriState :=
  let f := wrN (opStart f .rejoin 1) (triAt 0x8C) 1
  triEnter f { x with rejoin := some ⟨getF f (triAt 0x88) 5 0, 1, f.msc.toNat⟩, snap := [], demoted := false } 5

/-- REJOIN is aborted before its commit point (R446). -/
def rejoinAbort (f : Fabric) (x : TriState) : Fabric × TriState :=
  triEnter (wrN f (triAt 0x8C) 0) { x with rejoin := none, snap := [], matched := 0 } 4

/-- The largest CH_BULK_DLY in the active bank (R211, R448). -/
def bulkMax (f : Fabric) : Nat :=
  (bankMap f (actB f pSPK)).foldl (fun m e =>
    if decide (0xC_0000 ≤ e.1) && decide (e.1 < 0x10_0000) && decide (0x40 ≤ offOf e.1) && decide (offOf e.1 < 0x840) &&
        e.1 % 0x80 == 0x4C then max m (fld e.2 17 0) else m) 0

/-- The wait before a phase begins, from the previous one (R448). -/
def phaseWait (f : Fabric) (p : Nat) : Nat :=
  if p = 2 then 128 else if p = 3 then (if rate96 f then 8192 else 4096)
  else if p = 5 then (if rate96 f then 32768 else 16384) else if p = 6 then bulkMax f else 0

/-- A rejoin phase's wait ends and the next begins (R448, R450): the pieces of the phase that ends travelled for so many samples, and
digests tells whether every bank digest agrees. -/
def rejoinPhase (f : Fabric) (x : TriState) (travel : Nat) (digests : Bool) : Fabric × TriState :=
  match x.rejoin with
  | none => (f, x)
  | some r =>
    if r.phase = 1 ∧ !digests then rejoinFail f x 1
    else if 7 ≤ r.phase ∨ f.msc.toNat < r.since + travel + phaseWait f (r.phase + 1) then (f, x)
    else
      let f := wrN f (triAt 0x8C) (r.phase + 1)
      let x := { x with rejoin := some { r with phase := r.phase + 1, since := f.msc.toNat } }
      if r.phase + 1 = 7 then triEnter f { x with matched := 0 } 4 else (f, x)

/-- A SNAP message delivers a word of the piece in progress (R447). -/
def snapRx (f : Fabric) (x : TriState) (s : Nat) (m : BitVec 128) : Fabric × TriState :=
  let (f, mine) := takeSync f s 0x21 m
  match x.rejoin with
  | some r =>
    if mine && msgSrc m == r.source then (f, { x with snap := mset zeroN x.snap (nfld (msgPay m) 79 64) (msgPay m % 2 ^ 64) })
    else (f, x)
  | none => (f, x)

/-- 10 s have passed in CATCHUP (R449, R450). -/
def catchupTimeout (f : Fabric) (x : TriState) : Fabric × TriState :=
  if triRole f ≠ 4 ∨ f.msc.toNat < x.catchAt + 10 * fsHz f then (f, x)
  else match x.rejoin with
    | some _ => rejoinFail f x 4
    | none => if x.demoted then (triFlag f 6 9, x) else (f, x)

/-- The leader of an ASRC group (R237, R434). -/
def leaderOf (f : Fabric) (x : TriState) (g : Nat) : Nat :=
  if getB f (triAt 0x40) 5 && enabled f pTRI then
    match [3, 1, 2].find? (fun p => p == triPos f || (decide (goneOf x p < 2) && !rollAbsent f p)) with
    | some p => memberId f p
    | none => fld (rdAct f pINC (grpAt g 0)) 21 16
  else fld (rdAct f pINC (grpAt g 0)) 21 16

/-- A write of CFG or MEMBERS (R457). -/
def triWrite (f : Fabric) (off : Nat) (v : Word) : Fabric :=
  if enabled f pTRI then fail f pTRI 0x0101 off
  else if off = 0x40 ∧ (4 < fld v 2 0 ∨ fld v 10 8 < 2 ∨ 6 < fld v 10 8 ∨ fld v 15 12 < 2 ∨ fld v 25 16 = 0) then fail f pTRI 0x0100 off
  else wrR f (triAt off) (v &&& (if off = 0x40 then 0x03FF_F737 else 0x3F_3F3F))

/-- A TRI soft reset (R457): the member returns to OFF. -/
def triSoft (f : Fabric) (x : TriState) : Fabric × TriState :=
  let r := triEnter f { TriState.reset with owns := x.owns } 0
  (wrN (softClear r.1 pTRI (fun o => decide (o < 0x40))) (triAt 0x8C) 0, r.2)

end Sys2Proof.Machine
end

