-- ==== Sys2Proof/Machine/Engine.lean ====
section
/-! DEFINITION. The session: engine start and stop, sample ticks, block ticks and comparators (R17 to R35, R78, R506 to R508);
power states and wakes (R489 to R497); the resets of the whole device and the sampling of its straps (R53, R509, R510, R527,
R528, R533, R557, R569). -/
namespace Sys2Proof.Machine

-- Sample and block ticks

/-- The weight of an egress sample of MSC m under the fades of STOP and of the shutdown (R502, R508). -/
def endWeight (s : State) (m : Nat) : Option Int := egressWeight s.fab s.pwr fadeOut m

/-- The egress samples of MSC m scaled by a weight (R10, R502, R508): endpoints of class 0xA, 0xB and 0xC. -/
def scaleEgress (a : Audio) (m : Nat) (w : Int) : Audio :=
  { a with smp := a.smp.foldl (fun l (e : Nat × Int) =>
      if e.1 / 2 ^ 20 = m ∧ 0xA000 ≤ e.1 % 2 ^ 20 ∧ e.1 % 2 ^ 20 < 0xD000 then mset zeroI l e.1 (weigh w e.2) else l) a.smp }

/-- The fades of STOP and of the shutdown at MSC m; the first faded sample is STOP's commit point (R508). -/
def endFade (s : State) (m : Nat) : State :=
  match endWeight s m with
  | none => s
  | some w =>
    let s := { s with aud := scaleEgress s.aud m w }
    if s.pwr.stopFrom.isSome && opRunning s.fab .eng && decide (opLast s.fab .eng = 2) && s.pwr.stopFrom.any (fun x => decide (x ≤ m)) then
      onF s (fun f => opCommit f .eng) else s

/-- The stack's cycle of the sample before closes (R404, R408). -/
def cycleWork (s : State) (t : Nat) : State :=
  let c := closeCycle s.fab s.stk s.aud (t - 1)
  { s with fab := c.1, stk := { c.2.1 with tickAt := s.net.now }, aud := c.2.2 }
/-- The serial ports' sample (R352 to R358). -/
def portsWork (s : State) (t : Nat) : State :=
  let p := portTick s.fab s.ports s.aud t
  { s with fab := p.1, ports := p.2.1, aud := p.2.2 }
/-- The streams' sample, while a session runs, and the clock generators that follow a stream (R354, R392). -/
def streamsWork (s : State) (t : Nat) : State :=
  if running s.fab then
    let x := strmTick s.fab s.strm s.aud t
    let o := steerTick x.1 x.2.1 s.ports x.2.2 t
    { s with fab := o.1, strm := x.2.1, aud := x.2.2, ports := o.2 }
  else s
/-- The stack's cycle of this sample is originated (R404). -/
def stackWork (s : State) (t : Nat) : State := onStk s (fun f k => originate f k s.aud t)
/-- The trifle's sample, while a session runs (R437). -/
def trifleWork (s : State) : State :=
  if running s.fab then
    let r := triTick s.fab s.tri s.stk s.net s.strm s.aud
    { s with tri := r.1, stk := r.2 }
  else s

/-- The sample tick's work in the sample period of MSC t: captures, the stack's cycle, streams and ports (R33, R305, R392,
R404, R408). -/
def tickWork (s : State) (phase t : Nat) : State :=
  let s := onTb s (fun f tb => capEdge f tb 14 true phase)
  let s := onF s (fun f => stkSilent f s.tb s.stk)
  stackWork (trifleWork (streamsWork (portsWork (endFade (cycleWork s t) t) t) t)) t

/-- A sample tick (R33, R301): MSC advances while a session runs. -/
def sampleTick (s : State) (phase : Nat) : State :=
  if running s.fab then
    let s := onF s (fun f => { f with msc := f.msc + 1 })
    tickWork s phase s.fab.msc.toNat
  else tickWork s phase s.fab.msc.toNat

/-- Whether a block tick at the present MSC is due: a session runs, MSC is a multiple of B and the block has not begun (R33). -/
def blockDue (s : State) : Bool :=
  running s.fab && decide (s.fab.msc.toNat % blockLen s.fab = 0) && decide (s.pwr.lastBlock ≠ s.fab.msc.toNat / blockLen s.fab + 1)

/-- The block's latch, its captures and its marker (R302, R305, R514). -/
def blockOpen (s : State) (phase w : Nat) : State :=
  let s := onF s (fun f => blockLatch f s.tb w phase)
  let s := onTb s (fun f tb => capEdge f tb 15 true phase)
  let s := onRef s (fun f x => tbrefLatch f x s.tb (stampAt f s.tb phase))
  onF s (fun f => observe f pSYS 0x22 0 w)
/-- The cores' handover (R276, R281, R282). -/
def blockCores (s : State) (w : Nat) : State :=
  let c := coresTick s.fab s.cores s.aud w
  { s with fab := c.1, cores := c.2.1, aud := c.2.2 }
/-- Which rate groups publish their decisions, and which follow-mode groups this device leads (R237, R416, R434). -/
def incLeads (s : State) : IncState :=
  { s.inc with
    pubs := contributes s.fab s.stk
    own := (upto 32).filter (fun g => bit (rdAct s.fab pINC (grpAt g 0)) 8 && leaderOf s.fab s.tri g == stkId s.fab) }
/-- Gathering and conditioning of the block before (R19). -/
def blockGather (s : State) (w : Nat) : State :=
  if s.pwr.lastBlock = 0 then s
  else
    let b := blockLen s.fab
    let g := strmGather s.fab s.strm s.aud (w - b)
    let i := condition g.1 (incLeads s) g.2.2 (w - b)
    { s with fab := i.1, strm := g.2.1, inc := i.2.1, aud := i.2.2 }
/-- The generators and the first matrix pass (R19, R170). -/
def blockMatrix (s : State) (w : Nat) : State :=
  let g := genBlock s.fab s.mtx s.aud w
  let m := crossPass s.fab g.1 g.2 true w
  let r := runPass s.fab m g.2 true w
  { s with fab := r.1, mtx := m, aud := r.2 }
/-- The first half of a wall block (R19, R22, R170, R302): the latch, the cores' handover, gathering and conditioning of the
block before, the generators, and the first matrix pass. -/
def blockFirst (s : State) (phase w : Nat) : State :=
  blockMatrix (blockGather (blockCores (blockOpen s phase w) w) w) w

/-- The renderer and the chain stage (R19). -/
def blockChains (s : State) (fails : List MemFail) (w : Nat) : State :=
  let r := renderBlock s.fab s.ren s.aud fails
  let c := chainStage r.1 s.chains r.2 fails w
  { s with fab := c.1, chains := c.2.1, aud := c.2.2 }
/-- The second matrix pass and the cores' inputs (R19, R281). -/
def blockOutputs (s : State) (w : Nat) : State :=
  let m := crossPass s.fab s.mtx s.aud false w
  let p := runPass s.fab m s.aud false w
  { s with fab := p.1, mtx := m, aud := dropOld p.2 (w - 2 ^ 19), cores := coreInputs p.1 s.cores p.2 w }
/-- The words for followers (R237). -/
def blockFollow (s : State) : State :=
  let x := sendFollow s.fab s.inc s.stk
  { s with inc := x.1, stk := x.2 }
/-- The second half of a wall block (R19): the renderer, the chain stage, the second matrix pass, the cores' inputs and the
words for followers. -/
def blockSecond (s : State) (fails : List MemFail) (w : Nat) : State := blockFollow (blockOutputs (blockChains s fails w) w)

/-- A block tick (R19, R33): the work of the wall block that begins. -/
def blockTick (s : State) (phase : Nat) (fails : List MemFail) : State :=
  if !blockDue s then s
  else
    let w := s.fab.msc.toNat
    let n := w / blockLen s.fab + 1
    let s := blockSecond (blockFirst s phase w) fails w
    { s with pwr := { s.pwr with lastBlock := n } }

/-- The render stage of the wall block in progress evaluates its tick boundaries: one, or both where B is 32 and G is 16
(R78, R79). -/
def geometryTick (s : State) : State :=
  if running s.fab then onRen s (geoStage (blockStart s.fab) (max 1 (blockLen s.fab / geoG s.fab))) else s

-- Comparators (R308 to R313)

/-- The swap that a fire with SWAP_EN arms (R313): NEXT_BLOCK, with COPY from ARG0. -/
def fireSwap (s : State) (n : Nat) : State :=
  let cfg := rdR s.fab (cmpAt n 0)
  if !bit cfg 8 then s
  else
    let g := fld cfg 15 12
    if opRunning s.fab (swapOp g) then
      onF (failOn s pSYS 2 (offOf (swapOp g).cmd)) (fun f => raise (putB f (cmpAt n 0x14) 4 true) pTB 27)
    else
      let old := rdR s.fab (0x208 + 0x20 * g)
      let s := swapArm (onF s (fun f => wrR f (0x208 + 0x20 * g) (old &&& 0x10))) g
      onF s (fun f => wrR f (0x208 + 0x20 * g) old)

/-- COMPARATOR_FIRE: the fire, its pins, and TRIG[n] at the cores, the ports, a pending engine start and the wake logic
(R308 to R314, R350, R496, R507). -/
def comparatorFire (s : State) (n : Nat) : State :=
  let r := cmpFire s.fab s.tb n
  let s := { s with fab := r.1, tb := r.2.1 }
  if !r.2.2 then s
  else
    let s := fireSwap s n
    let s := { s with cores := coreTrig s.fab s.cores n, ports := portTrig s.fab s.ports n }
    let s := onPwr s (fun f p => startFire f p n)
    if getB s.fab (cmpAt n 0) 16 then { s with pwr := wakeSource s.fab s.pwr 2 } else s

/-- A DISARM (R311): a fire of the same tick comes first. -/
def comparatorDisarm (s : State) (n : Nat) : State :=
  let s := if ready s.fab pTB && cmpDue s.fab s.tb n then comparatorFire s n else s
  onTb s (fun f t => cmpDisarm f t n)

-- Engine start and stop (R506 to R508)

/-- START_JOIN asks for the stack's tick (R415, R507): on a member that is not the timing master. -/
def startJoins (s : State) : Bool := getB s.fab (stkAt 0x44) 0 && enabled s.fab pSTK && !isTimer s.fab

/-- The stack MSC of the master's last marker, where it reports a running session at a multiple of B (R415). -/
def joinMsc (s : State) : Option Nat :=
  match s.stk.master with
  | none => none
  | some h =>
    let m := (h[1]?.getD 0).toNat
    if (h[0]?.getD 0).toNat.testBit 24 && decide (m % blockLen s.fab = 0) then some m else none

/-- A pending start may take the tick (R415, R507): its MSC. -/
def startMsc (s : State) : Option Nat :=
  if !startPending s.fab || ((startWaits s.fab).isSome && !s.pwr.startTrig) then none
  else if startJoins s then joinMsc s else some 0

/-- The session's registers at the start tick: its rate and block size, RUNNING and MSC (R28, R301, R507). -/
def startClock (s : State) (m : Nat) : State :=
  let code := blockCode s.fab
  let r96 := rate96 s.fab
  let f := putB (putF (putB s.fab 0x104 2 false) 0x104 6 4 code) 0x104 1 r96
  let f := { putB f 0x104 0 true with msc := BitVec.ofNat 64 m }
  { s with
    fab := opCommit f .eng
    aud := Audio.reset
    pwr := { s.pwr with stopFrom := none, shutFrom := none, lastBlock := 0, startTrig := false } }
/-- The matrix at the start tick (R160, R507). -/
def startMatrix (s : State) (m : Nat) : State :=
  let on := enabled s.fab pMTX
  let ovr := decide ((admittedNodes s.fab (actB s.fab pMTX)).length < (bankNodes s.fab (actB s.fab pMTX)).length)
  onF { s with mtx := { MtxState.reset with fade := ⟨0, if on then 128 else 0, on⟩, origin := m, ldBusy := s.mtx.ldBusy } }
    (fun f => raiseIf ovr (putB f (ra pMTX 0x860) 1 ovr) pMTX 5)
/-- The chains at the start tick (R507). -/
def startChains (s : State) (m : Nat) : State :=
  let s := onF s (fun f => tailAdmit (chainRegions f))
  { s with chains := chainsStart s.fab m }
/-- Input conditioning at the start tick (R507). -/
def startInc (s : State) (m : Nat) : State :=
  let s := onF s incAdmit
  { s with inc := incStart s.fab s.inc m }
/-- The path engine, the matrix, the chains and the conditioning at the start tick (R507). -/
def startPaths (s : State) (m : Nat) : State :=
  startInc (startChains (startMatrix (onRen (onF (startClock s m) renAdmit) (fun f r => renRestart f r m)) m) m) m
/-- The start tick (R507): the session begins at MSC m; every pool and admission is sized and every history zeroed. -/
def startSession (s : State) (m : Nat) : State :=
  let joined := startJoins s
  let s := onStrm (startPaths s m) (fun f x => strmAdmit f { x with act := [], old := [], swapAt := 0 } m)
  let s := onTri (onF s (fun f => stkStart f s.stk m joined)) triStart
  let s := onTb s (fun f t => (f, { t with anch := [] }))
  onF s (fun f => raise (opEnd f .eng 2 0) pPWR 1)

/-- ENGINE_START_TICK: the sample tick at which a pending start takes effect (R507). -/
def engineStartTick (s : State) (phase : Nat) : State :=
  match startMsc s with
  | none => s
  | some m =>
    let s := startSession s m
    tickWork s phase m

/-- A running REJOIN fails as the session ends (R450). -/
def stopRejoin (s : State) : State := if opRunning s.fab .rejoin then onTri s (fun f x => rejoinFail f x 3) else s
/-- A running STOP ends (R508). -/
def stopOp (s : State) : State :=
  if opRunning s.fab .eng && decide (opLast s.fab .eng = 2) then onF s (fun f => opEnd (opCommit f .eng) .eng 2 0) else s
/-- The engine's clocks and transitions at rest; a shutdown whose fade runs still takes the device to QUIET (R502). -/
def stopClock (s : State) : State :=
  { s with mtx := { s.mtx with trans := [] }, pwr := { s.pwr with stopFrom := none, lastBlock := 0 } }
/-- No transition of a chain runs any more: XFADE reads 0 (R219), and the stages' state goes (R507). -/
def stopChains (s : State) : State :=
  onF { s with chains := ChainState.reset } (fun f => (f.regs.filter (fun e =>
    decide (0xC_0000 ≤ e.1) && decide (e.1 < 0x10_0000) && e.1 % 0x80 == 0x58)).foldl (fun f e => putB f e.1 10 false) f)
/-- The session ends (R301, R508, and the rules of each chapter for an engine stop). -/
def endSession (s : State) : State :=
  let s := stopChains (onF s (fun f => swapsStop (putB f 0x104 0 false)))
  let s := onF (onTb (onRen s renStop) cmpStop) portsStop
  onF (stopOp (stopClock (stopRejoin s))) (fun f => raise f pPWR 2)

/-- ENGINE_STOP_END (R508): the block boundary after STOP's last faded sample. -/
def engineStopEnd (s : State) : State :=
  match stopEnd s.fab s.pwr with
  | none => s
  | some e => if running s.fab && decide (e ≤ s.fab.msc.toNat) then endSession s else s

/-- The state becomes QUIET: EN and DS stop, and boost goes (R491, R505). -/
def toQuiet (s : State) : State :=
  let s := { s with pwr := { s.pwr with state := .quiet } }
  onPwr (onF s (fun f => showPwr f s.pwr)) boostCheck

/-- The end of a shutdown (R502). -/
def shutOff (s : State) : State := toQuiet { s with pwr := { s.pwr with shutFrom := none } }

/-- SHUTDOWN_FADE_END (R502): the session of a shutdown ends, and the device enters QUIET. -/
def shutdownFadeEnd (s : State) : State :=
  match s.pwr.shutFrom with
  | none => s
  | some _ =>
    if !running s.fab then shutOff s
    else if (shutEnd s.fab s.pwr).any (fun e => decide (e ≤ s.fab.msc.toNat)) then shutOff (endSession s)
    else s

-- Load classes: the cores follow SHED_STAT (R290, R498)

/-- An operation that may change SHED_STAT, and the cores that follow it. -/
def withShed (s : State) (g : Fabric → PwrState → Fabric × PwrState) : State :=
  let was := isShed s.fab 1
  let s := onPwr s g
  if isShed s.fab 1 = was then s else onCores s (fun f cs => coreShed f cs (isShed f 1))

-- Straps and whole-device resets (R53, R509, R510, R527, R528, R533)

/-- The supply of an I/O bank, measured (R527): 0 for 1.8 V, 1 for 3.3 V, 2 outside both. -/
def bankMode (mv : Nat) : Nat := if 1600 ≤ mv ∧ mv ≤ 2000 then 0 else if 3000 ≤ mv ∧ mv ≤ 3600 then 1 else 2

/-- The I/O banks are measured (R527, R528): IO_STAT and the fault cause. -/
def measureBanks (s : State) (x : Straps) : State :=
  let a := bankMode x.mvA
  let b := bankMode x.mvB
  let c := bankMode x.mvC
  let mode := s.pwr.iobank.toNat
  let v := mode + (decide (a ≠ mode)).toNat * 2 + b * 16 + c * 256
  onF s (fun f => raiseIf (a != mode || b == 2 || c == 2) (wrN f 0x5C v) pSYS 1)

/-- The straps are sampled into their ROS fields (R509, R533). -/
def sampleStraps (s : State) (x : Straps) : State :=
  let s := onF s (fun f =>
    let f := wrN f 0x58 (x.hostSel.toNat + x.stkRole.val * 2 + x.triPos.val * 8 + s.pwr.iobank.toNat * 32)
    let f := putB f (ra pHST 0x40) 9 x.hostSel
    putF f (triAt 0x48) 21 20 x.triPos.val)
  onStk s (fun f k => stkStrap f k x.stkRole.val)

/-- A reset of the whole device (R53, R509): every field at its reset value but the record of causes, to which one bit is added;
DRAM, keep SRAM, the pins' own state, the JTAG port and the log of what the host was sent stay. -/
def deviceReset (s : State) (cause : Nat) : State :=
  { State.reset with
    pending := s.pending
    fab := { Fabric.reset with
      regs := mset regReset [] 0x4C (BitVec.ofNat 32 (Nat.lor (rdN s.fab 0x4C) (2 ^ cause)))
      msgs := s.fab.msgs }
    mem := { MemState.reset with dram := s.mem.dram, ecc := s.mem.ecc, keep := s.mem.keep }
    host := { HostState.reset with toHost := s.host.toHost }
    pwr := { PwrState.reset with
      pwrgood := s.pwr.pwrgood, resetN := s.pwr.resetN, osc := s.pwr.osc, tripped := s.pwr.tripped, iobank := s.pwr.iobank }
    tap := s.tap }

/-- SYS.RST_CTRL.CHIP (R53): as RESET_N does; the banks' modes stay as measured. -/
def chipReset (s : State) (x : Straps) : State :=
  let io := rdR s.fab 0x5C
  sampleStraps (onF (deviceReset s 2) (fun f => wrR f 0x5C io)) x

/-- The straps that a write of RST_CTRL finds: those the last sampling found. -/
def keptStraps (f : Fabric) : Straps :=
  let w := rdR f 0x58
  ⟨⟨fld w 2 1 % 4, Nat.mod_lt _ (by decide)⟩, ⟨fld w 4 3 % 4, Nat.mod_lt _ (by decide)⟩, bit w 0, 0, 0, 0⟩

/-- RESET_N low for 520 ns (R509); with the junction below 110 °C it also releases THERMTRIP_N (R503). -/
def resetAssert (s : State) (hot : Bool) : State :=
  let s := { s with pwr := { s.pwr with resetN := false, tripped := s.pwr.tripped && hot } }
  deviceReset s 1

/-- The device leaves reset: straps and banks (R509, R527, R533). -/
def leaveReset (s : State) (x : Straps) : State := sampleStraps (measureBanks s x) x

/-- RESET_N rises (R509): it acts while PWRGOOD is high. -/
def resetRelease (s : State) (x : Straps) : State :=
  if s.pwr.resetN then s
  else
    let s := { s with pwr := { s.pwr with resetN := true } }
    if s.pwr.pwrgood && s.pwr.osc then leaveReset s x else s

/-- PWRGOOD low for 520 ns (R569). -/
def pwrgoodFall (s : State) : State := deviceReset { s with pwr := { s.pwr with pwrgood := false } } 1

/-- PWRGOOD rises (R569): with RESET_N high it acts as the rise of RESET_N. -/
def pwrgoodRise (s : State) (x : Straps) : State :=
  if s.pwr.pwrgood then s
  else
    let s := { s with pwr := { s.pwr with pwrgood := true } }
    if s.pwr.resetN && s.pwr.osc then leaveReset s x else s

/-- Power-on: everything at reset, RST_CAUSE showing POR alone (R53). -/
def powerOn (s : State) : State :=
  { State.reset with pending := s.pending, tap := tapReset TapState.reset, host := { HostState.reset with toHost := s.host.toHost } }

/-- VDDIO_A rises (R528): power comes up, and IOBANK_SEL is read. -/
def vddioRise (s : State) (sel33 : Bool) : State :=
  { powerOn s with pwr := { PwrState.reset with pwrgood := false, resetN := false, iobank := sel33 } }

/-- OSC_IN has had no edge for 2 µs (R557). -/
def oscLoss (s : State) : State := { s with pwr := { s.pwr with osc := false } }

/-- OSC_IN returns (R557): the device restarts as at power-on. -/
def oscReturn (s : State) (x : Straps) : State :=
  if s.pwr.osc then s
  else
    let t := { powerOn s with pwr := { PwrState.reset with pwrgood := s.pwr.pwrgood, resetN := s.pwr.resetN, iobank := s.pwr.iobank } }
    if t.pwr.pwrgood && t.pwr.resetN then leaveReset t x else t

/-- THERMTRIP (R503). -/
def thermtrip (s : State) : State :=
  if s.pwr.tripped then s
  else deviceReset { s with pwr := { s.pwr with tripped := true } } 3

/-- Every page but DRC[0] and DRC[1] reads READY (R42, R510). -/
def pagesReady (f : Fabric) : Fabric :=
  (upto 289).foldl (fun f p => if (blockOf p).isSome && p != 5 && p != 6 then putB f (ra p 0x0C) 0 true else f) f

/-- The PLLs lock (R297, R510): the pages read READY, the counter starts and the DPLL enters FREERUN. -/
def pllLock (s : State) : State :=
  if s.pwr.locked then s
  else
    let deep := getB s.fab 0x4C 4 && getB s.fab 0x10BC 0
    let s := onF { s with pwr := { s.pwr with locked := true } } pagesReady
    let s := onTb (onF s (fun f => wrN f 0x10BC 0)) (fun f t => tbRestart f t deep)
    let s := if deep then onRef s (fun f x => refLose f x 0) else s
    onRef (onRef s dpllInitEnd) refSelect

-- Power states (R489 to R497)

/-- DMA channels and rings stop (R492): ACTIVE reads 0, and RUN keeps its value (R493). -/
def stopRings (f : Fabric) : Fabric :=
  let f := (upto 8).foldl (fun f c => putB f (dmaAt c 0x18) 0 false) f
  (upto 2).foldl (fun f p => (upto 6).foldl (fun f r => putB f (ringAt p r 0x14) 0 false) f) f
/-- DMA channels and rings whose RUN is 1 run again after a wake from RETAIN (R493, R494). -/
def startRings (f : Fabric) : Fabric :=
  let f := (upto 8).foldl (fun f c => putB f (dmaAt c 0x18) 0 (getB f (dmaAt c 0x14) 0)) f
  (upto 2).foldl (fun f p => (upto 6).foldl (fun f r => putB f (ringAt p r 0x14) 0 (getB f (ringAt p r 0x10) 0)) f) f
/-- A ring that runs again fetches from TAIL (R376). -/
def refetch (f : Fabric) (n : NetState) (p : Nat) : NetState :=
  setPort n p { portOf n p with rings := (upto 6).foldl (fun l r => mset (fun _ => RingSt.reset) l r ⟨rdN f (ringAt p r 0xC), []⟩) [] }

/-- The links, rings and clock generators that a power-down takes down (R492, R493). -/
def linksDown (s : State) : State :=
  let s := onF s (fun f => putF f (ra pHST 0x40) 8 0 0)
  let s := onNet s (fun f n => let r := linkChange f n 0 false false false; linkChange r.1 r.2 1 false false false)
  let s := onStk s (fun f k => let r := uhlLinkDown f k 0; uhlLinkDown r.1 r.2 1)
  let s := onPorts s (fun f x => (upto 16).foldl (fun (acc : Fabric × PortState) i => cgOff acc.1 acc.2 i) (f, x))
  onRef s (fun f x => let r := refLose f x 7; refLose r.1 r.2 8)

/-- A channel's queue drains and its die enters self-refresh (R488, R492). -/
def drainOne (s : State) (ch : Nat) : State :=
  let r := drainAll s.fab s.mem ch
  { s with fab := selfRefresh r.1 ch, mem := setDrc r.2.1 ch Drc.reset }

/-- Every bus master is fenced and the fences complete (R485, R492): ten fences started, and their two causes. -/
def fenceAll (f : Fabric) : Fabric :=
  raise (raise (wrN f (ra pBUS 0xD4) (incSat 32 (rdN f (ra pBUS 0xD4)) 10)) pBUS 2) pBUS 3
/-- Entry to RETAIN or DEEP at its commit point (R492): rings stopped, masters fenced, writes drained, DRAM in self-refresh,
links down. -/
def powerDown (s : State) (dest : PState) : State :=
  let s := onF (onF s stopRings) fenceAll
  let s := { s with host := { s.host with jobs := [], posted := [] }, bus := BusState.reset }
  let s := linksDown ((upto 2).foldl drainOne s)
  let s := onPwr { s with pwr := { s.pwr with state := dest } } boostCheck
  onF s (fun f => showPwr (showBus f s.bus) s.pwr)

/-- What ends a PS operation at its commit point (R490, R497): a check that fails by now, or a wake source pending. -/
def psFails (s : State) : Nat :=
  let op := opLast s.fab .ps
  let d := psDetail s.fab s.pwr op
  if d ≠ 0 then d else if 2 < op ∧ s.pwr.wakePend ≠ 0 then 3 else 0

/-- A PS operation passes its commit point and ends (R490, R497). -/
def psComplete (s : State) : State :=
  if !opRunning s.fab .ps then s
  else
    let op := opLast s.fab .ps
    let done (s : State) : State := onF s (fun f => opEnd f .ps 2 0)
    if psFails s ≠ 0 then onF s (fun f => opEnd f .ps 5 (psFails s))
    else if op = 1 then done (toQuiet (onF s (fun f => opCommit f .ps)))
    else if op = 2 then
      let s := onF { s with pwr := { s.pwr with state := .active } } (fun f => opCommit f .ps)
      done (onF s (fun f => showPwr f s.pwr))
    else done (powerDown (onF s (fun f => opCommit f .ps)) (if op = 3 then .retain else .deep))

/-- A wake source (R496). -/
def wakeEvent (s : State) (n : Nat) : State := { s with pwr := wakeSource s.fab s.pwr n }

/-- A core as RETAIN leaves it (R494): STOPPED, its registers reset, its memories kept. -/
def coreWaken (f : Fabric) (c : Nat) : Fabric :=
  putB (putB (putF (putF f (dspAt c 0x44) 15 8 0) (dspAt c 0x44) 2 0 0) (dspAt c 0x08) 0 false) (dspAt c 0x0C) 3 false

/-- What RETAIN does not keep (R494): the cores but their memories, the samples, the shared SRAM, the histories of the units,
the stream and stack buffers and the on-chip ring. -/
def forget (s : State) : State :=
  { s with
    cores := { s.cores with cores := s.cores.cores.map (fun e => (e.1, coreFresh e.2)) }
    aud := Audio.reset
    mem := { s.mem with shared := [] }
    mtx := { s.mtx with trans := [] }
    chains := ChainState.reset
    inc := { s.inc with chs := [], grps := [], pub := [] }
    strm := { s.strm with rx := [], gone := [] }
    stk := { s.stk with recE := none, recW := none, held := [] }
    fab := { s.fab with ring := [], ringLine := [] } }
/-- The channels, rings, clock generators and links that were enabled come back (R494). -/
def comeBack (s : State) : State :=
  let s := onNet (onF s startRings) (fun f n => (f, refetch f (refetch f n 0) 1))
  let s := onF s (fun f => (upto 2).foldl (fun f ch =>
    if enabled f (pDRC ch) then setReady (putB (putB f (drcAt ch 0x48) 5 false) (drcAt ch 0x48) 1 true) ch true else f) f)
  let s := onPorts s (fun f x => (upto 16).foldl (fun (acc : Fabric × PortState) i =>
    if enabled acc.1 (pCG i) then cgEnable acc.1 acc.2 i else acc) (f, x))
  onStk s (fun f k => (upto 2).foldl (fun (acc : Fabric × StkState) l =>
    if enabled acc.1 (pUHL l) then uhlTrain acc.1 acc.2 l 1 else acc) (f, k))
/-- A wake from RETAIN (R494): with a source pending, the device reaches ACTIVE. -/
def wakeRetain (s : State) : State :=
  if !(decide (s.pwr.state = .retain) && s.pwr.wakePend != 0) then s
  else
    let src := s.pwr.wakePend.toNat
    let s := onF { s with pwr := { s.pwr with state := .active, wakePend := 0 } } (fun f => wrN (bump f 0x10B8) 0x1068 src)
    let s := forget (onF s (fun f => (upto 16).foldl coreWaken f))
    let s := comeBack (onRen s (fun f r => renRestart f r (blockStart f)))
    onF s (fun f => raise (showPwr f s.pwr) pPWR 0)

/-- A wake from DEEP (R495): RESET_N on every island but AON; 0x10BC, which holds no register, marks it until the PLLs lock. -/
def wakeDeep (s : State) (x : Straps) : State :=
  if !(decide (s.pwr.state = .deep) && s.pwr.wakePend != 0) then s
  else
    let t := deviceReset s 4
    let t := onF t (fun f => wrN (wrR (wrN f 0x1068 s.pwr.wakePend.toNat) 0x106C (rdR s.fab 0x106C)) 0x10BC 1)
    leaveReset t x

/-- The lines of the regions that RETAIN keeps (R493). -/
def keptLines (f : Fabric) : List Nat :=
  (upto 4).flatMap (fun k => linesOf (rdN f (0x1070 + 8 * k)) (getF f (0x1074 + 8 * k) 11 0 * 2 ^ 20))
/-- One line scrubbed (R473, R493). -/
def scrubOne (acc : Fabric × MemState) (l : Nat) : Fabric × MemState :=
  scrubFix (lineRead acc.1 acc.2 l 9 true).1 acc.2 l
/-- Every line of the kept regions scrubbed (R493). -/
def scrubRun (f : Fabric) (m : MemState) : Fabric × MemState := (keptLines f).foldl scrubOne (f, m)
/-- A scrub excursion in RETAIN (R493): every line of the kept regions, by R473. -/
def scrubKept (s : State) : State := if s.pwr.state ≠ .retain then s else onMem s scrubRun

end Sys2Proof.Machine
end

