-- ==== Sys2Proof/Machine/Operations.lean ====
section
/-! DEFINITION. The long operations (R71 to R75): a write of a command register, the start of each operation after its own
argument checks, and its abort. -/
namespace Sys2Proof.Machine

/-- The bank unit that an operation writes; while it is LOCKED or COPYING the start is rejected (R158, R203). -/
def opUnit : OpId → Option Nat
  | .ld => some pMTX
  | .cnvLoad => some pCNV
  | _ => none

/-- The operation's own BAD_ARG check at its start (R72, R158, R174, R446). -/
def opBadArg (s : State) (o : OpId) (op : Nat) : Bool :=
  let f := s.fab
  match o with
  | .swap g => getF f (0x208 + 0x20 * g.val) 1 0 == 3
  | .ld => op != 3 && !(decide (1 ≤ rdN f (ra pMTX 0x8EC)) && decide (rdN f (ra pMTX 0x8EC) ≤ 262144))
  | .rejoin => rejoinBad f s.tri
  | _ => false

/-- The accepted start of an operation (R72, case 6), and the checks that end it FAILED at once. -/
def opBegin (s : State) (o : OpId) (op : Nat) : State :=
  match o with
  | .swap g => swapArm s g.val
  | .scene => sceneStart s op
  | .ld => onMtx s (fun f m => ldStart f m op)
  | .cnvLoad => onF s loadStart
  | .ps => onPwr s (fun f p => psStart f p op)
  | .eng => if op = 1 then onPwr s (fun f p => engStart f p (drcReady f 0 && drcReady f 1)) else onPwr s engStop
  | .rejoin => onTri s rejoinStart
  | .feed => onF s feedStart
  | .flush => onF s flushStart

/-- What an operation abandoned before its commit point gives back (R73, R75). -/
def opCleanup (s : State) (o : OpId) : State :=
  match o with
  | .swap g => onF s (fun f => swapDrop f g.val)
  | .scene => sceneRelease s
  | .ld => onMtx s ldRelease
  | .cnvLoad => onF s (fun f => putB f (ra pCNV 0x2C) 1 false)
  | .eng => onPwr s engAborted
  | .rejoin => onTri s rejoinAbort
  | .ps | .feed | .flush => s

/-- An abort request (R73): before the commit point the operation ends ABORTED; later it is remembered. -/
def doAbort (s : State) (o : OpId) : State :=
  if opRunning s.fab o && !opCommitted s.fab o then
    let s := opCleanup s o
    if opRunning s.fab o then onF s (fun f => opAbort f o) else s
  else onF s (fun f => opAbort f o)

/-- An error of a write to an operation's command register (R44, R45). -/
def opFail (s : State) (o : OpId) (code : Nat) : State := failOn s o.page code (offOf o.cmd)

/-- A write to a command register (R72). -/
def opCommand (s : State) (o : OpId) (w : Word) : State :=
  if !ready s.fab o.page then opFail s o 1
  else
    match opVerdict s.fab o w false with
    | .abort => doAbort s o
    | .nothing => s
    | .rejected c => opFail s o c
    | .start op =>
      if (opUnit o).any (unitHeld s.fab) then opFail s o 2
      else if opBadArg s o op then opFail s o 4
      else opBegin s o op

/-- The operation whose command register lies at a BAR0 offset. -/
def opAt (a : Nat) : Option OpId := allOps.find? (fun o => o.cmd == a)

end Sys2Proof.Machine
end

