-- ==== Sys2Proof/Machine/Reads.lean ====
section
/-! DEFINITION. Reads of the register fabric and of the windows (R14, R16, R46 to R49): what each word holds, computed fields
included, the pairs and sets that latch, and the side effects of a 32-bit read. -/
namespace Sys2Proof.Machine

/-- The controller page of a page's bank unit (R171). -/
def ctrlOf (p : Nat) : Nat :=
  match blockOf p with
  | some (.MTX, _) => pMTX
  | some (.REN, _) => pREN
  | some (.SPK, _) => pSPK
  | some (.CNV, _) => pCNV
  | some (.INC, _) => pINC
  | some (.SAP, _) => 64
  | some (.STRM, _) => pSTRM
  | _ => p

/-- QS_CS_N serves commands: the HOST_SEL strap selects QSPI (R66). -/
def hostQspi (f : Fabric) : Bool := getB f 0x58 0
/-- The device is awake (R67, R70): in ACTIVE or QUIET, once the system PLL has locked (R510). -/
def qsAwake (s : State) : Bool := (decide (s.pwr.state = .active) || decide (s.pwr.state = .quiet)) && s.pwr.locked
/-- The QSPI status word (R67). -/
def qspiStatus (s : State) : Word :=
  let w := BitVec.ofNat 32 ((irqN s.fab).toNat * 16 + (qsAwake s || !hostQspi s.fab).toNat * 32)
  if hostQspi s.fab then
    w ||| BitVec.ofNat 32 ((!s.host.posted.isEmpty).toNat + s.host.wrErr.toNat * 2 + s.host.rdTimeout.toNat * 4 + s.host.frameErr.toNat * 8)
  else w

/-- FLAG_SUM[i] of the path engine (R141). -/
def objFlagSum (f : Fabric) (i : Nat) : Nat :=
  (upto 32).foldl (fun t j => if fld (rdR f (objStat (32 * i + j))) 9 0 ≠ 0 then t + 2 ^ j else t) 0
/-- An enabled object is not admitted (R137, R141). -/
def anyNotAdmitted (f : Fabric) : Bool :=
  f.regs.any (fun e => decide (0xA_1000 ≤ e.1) && decide (e.1 < 0xA_9000) && e.1 % 8 == 0 && bit e.2 10)

/-- SETTLING of a page where it follows from the unit's state (the header paragraph of each chapter); elsewhere it is kept in
PAGE_STAT as the unit changes. -/
def settling (s : State) (p : Nat) : Bool :=
  let f := s.fab
  match blockOf p with
  | some (.REN, 0) => (running f && !s.ren.settled) || getB f (ra pREN 0x74) 3
  | some (.MTX, 0) => !s.mtx.trans.isEmpty
  | some (.SPK, 0) => f.regs.any (fun e => decide (0xC_0000 ≤ e.1) && decide (e.1 < 0x10_0000) && e.1 % 0x80 == 0x58 && bit e.2 10)
  | some (.CNV, 0) => s.chains.chains.any (fun c => (Fade.live c.2.cur.rsp (blockStart f)).isSome ||
      c.2.alt.any (fun al => (Fade.live al.2.rsp (blockStart f)).isSome))
  | some (.INC, _) => f.regs.any (fun e => pageOf e.1 == p && decide (0x40 ≤ offOf e.1) && decide (offOf e.1 < 0x840) &&
      e.1 % 0x20 == 8 && (bit e.2 1 || bit e.2 2))
  | some (.PWR, _) => opRunning f .ps || (opRunning f .eng && opLast f .eng == 1)
  | some (.STK, _) => stkSt f == 1 || decide (2 ≤ getF f (stkAt 0x4C) 1 0) || s.stk.change.isSome
  | some (.DSPSH, _) => s.pwr.freqWait != 0
  | some (.THM, _) => thmLevel f != 0
  | some (.OBS, _) => opRunning f .flush || s.bus.fences.any (fun c => c.page == pOBS)
  | some (.DRC, n) => getB f (ra p 0x0C) 3 || getB f (drcAt n 0x48) 4
  | _ => getB f (ra p 0x0C) 3

/-- PAGE_STAT (R42). -/
def pageStat (s : State) (p : Nat) : Word :=
  setBit (setBit (rdR s.fab (ra p 0x0C)) 1 (pageBusy s.fab p)) 3 (settling s p)

/-- PAGE_CTRL as read (R14, R42): SOFT_RST reads 1 while the reset waits for a committed operation; that of a DRC page is taken at
once and only its completion waits. -/
def pageCtrl (s : State) (p : Nat) : Word :=
  setBit (rdR s.fab (ra p 0x08)) 1 (s.fab.rstWait.contains p && p != 5 && p != 6)

/-- The words of a capture unit's oldest entry (R307). -/
def capWord (s : State) (a : Nat) : Word :=
  let k := (a - 0x8100) / 0x20
  let j := (a - 0x8100) % 0x20
  match (capOfUnit s.tb k).q with
  | [] => 0
  | e :: _ =>
    if j = 8 then BitVec.ofNat 32 (e.time / 2 ^ 32)
    else ((snapWords 0xC e.time e.msc).find? (fun w => w.1 == j)).elim 0 (·.2)

/-- The words of a TX stamp queue's oldest entry (R383). -/
def tsqWord (s : State) (x off : Nat) : Word :=
  match (portOf s.net x).tsq with
  | [] => 0
  | e :: _ => BitVec.ofNat 32 (if off = 0x700 then 2 ^ 31 + e.cls * 2 ^ 16 + e.tag else if off = 0x704 then e.ns else e.frac * 2 ^ 24)

/-- A register whose value is computed as it is read, by page and offset; none for one that is kept. -/
def liveWord (s : State) (q p o : Nat) : Option Word :=
  let f := s.fab
  let n (v : Nat) : Option Word := some (BitVec.ofNat 32 v)
  if o = 0x08 then some (pageCtrl s p)
  else if o = 0x0C then some (pageStat s p)
  else if o = 0x18 then some (irqPend f p)
  else match blockOf p with
  | some (.PWR, _) => if o = 0xB4 then some (mget zeroW s.mem.keep (keepIdx f)) else none
  | some (.HST, _) =>
    if o = 0x44 then some (qspiStatus s)
    else if o = 0x58 ∨ o = 0x5C then n ((upto 32).foldl (fun t j => if vecCause f ((o - 0x58) * 8 + j) then t + 2 ^ j else t) 0)
    else if 0x60 ≤ o ∧ o < 0x88 then
      n ((upto 32).foldl (fun t j =>
        let g := (o - 0x60) * 8 + j
        if (blockOf g).isSome && irqPend f g != 0 then t + 2 ^ j else t) 0)
    else none
  | some (.OBS, _) =>
    if 0xA4 ≤ o ∧ o < 0xB4 then some (ocWord f ((o - 0xA4) / 4))
    else if 0x800 ≤ o then n (mget zeroN f.cntShadow ((o - 0x800) / 8) / 2 ^ (32 * (o / 4 % 2)))
    else none
  | some (.TB, _) =>
    if o = 0x60 then n (timeNs f)
    else if 0x64 ≤ o ∧ o < 0x74 then ((snapWords 0x64 f.time.toNat f.msc.toNat).find? (fun w => w.1 == o)).map (·.2)
    else if 0x100 ≤ o ∧ o < 0x280 ∧ 8 ≤ o % 0x20 ∧ o % 0x20 < 0x1C then some (capWord s (ra p o))
    else none
  | some (.CRCU, _) => if 0x100 ≤ o ∧ o < 0x300 then some (crcRead f ((o - 0x100) / 0x40) ((o - 0x100) % 0x40)) else none
  | some (.STK, _) =>
    if o = 0xB4 then
      let sel := rdO f q (stkAt 0xB0)
      n (if fld sel 12 0 < tableLen f (fld sel 17 16) then (stkShd f (fld sel 17 16) (fld sel 12 0)).toNat else 0)
    else none
  | some (.NET, x) =>
    if 0x400 ≤ o ∧ o < 0x580 then some (rdR f (ra p o))
    else if 0x700 ≤ o ∧ o ≤ 0x708 then some (tsqWord s x o)
    else none
  | some (.STRM, i) =>
    if 1 ≤ i ∧ i ≤ 4 ∧ 0x40 ≤ o ∧ (o - 0x40) % 0x18 = 0 then
      some (setBit (rdR f (ra p o)) 0 (strmActive s.strm s.net.now (128 * (i - 1) + (o - 0x40) / 0x18)))
    else if (i = 5 ∨ i = 6) ∧ 0x40 ≤ o ∧ o < 0xC40 ∧ (o - 0x40) % 0xC = 0 then
      some (setBit (rdR f (ra p o)) 0 (bit (rdR f (ra p o)) 0 && strmOn f))
    else none
  | some (.INC, i) =>
    if 0x40 ≤ o ∧ o < 0x840 then
      if o % 0x20 = 8 then some (setBit (rdR f (ra p o)) 5 (cfgFreeze (rdAct f pINC (incAt (64 * i + (o - 0x40) / 0x20) 0)))) else none
    else if i ≠ 0 then none
    else if o = 0x840 then n (capInc f) else if o = 0x844 then n (capAsrc f)
    else if o = 0x848 then n (asrcCount f (actB f pINC)) else if o = 0x84C then n (asrcCount f (!actB f pINC))
    else none
  | some (.MTX, 0) =>
    if o = 0x840 then n (capNode f)
    else if o = 0x848 then n (bankNodes f (actB f pMTX)).length else if o = 0x84C then n (nodesShd f)
    else if o = 0x850 then n (bankXrs f (actB f pMTX)).length else if o = 0x854 then n (bankXrs f (!actB f pMTX)).length
    else if o = 0x860 then some (setBit (rdR f (ra p o)) 2 (!s.mtx.trans.isEmpty))
    else if o = 0x864 then n (slotsUsed s.mtx.trans)
    else if o = 0x868 then n (s.mtx.trans.length - slotsUsed s.mtx.trans)
    else if o = 0x8A8 then
      let aw := rdO f q (ra pMTX 0x8A0)
      if capLogical f ≤ fld aw 10 0 ∨ capLogical f ≤ fld aw 26 16 then some 0 else some (rdShd f pMTX (nodeKey (fld aw 10 0) (fld aw 26 16)))
    else none
  | some (.REN, 0) =>
    if o = 0x58 then n (renK f) else if o = 0x60 then n (capObj f) else if o = 0x64 then n (capPath f)
    else if o = 0x68 then n (demand f (actB f pREN)) else if o = 0x6C then n (demand f (!actB f pREN))
    else if o = 0x74 then some (setBit (rdR f (ra p o)) 2 (anyNotAdmitted f))
    else if 0x100 ≤ o ∧ o < 0x180 then n (objFlagSum f ((o - 0x100) / 4))
    else none
  | some (.REN, i) => if 1 ≤ i ∧ i ≤ 8 ∧ 0x40 ≤ o ∧ o < 0x440 ∧ o % 8 = 4 then n (objInfo (objOf s.ren (128 * (i - 1) + (o - 0x40) / 8))) else none
  | some (.SPK, i) =>
    if 0x40 ≤ o ∧ o < 0x840 then
      let c := 16 * i + (o - 0x40) / 0x80
      let j := (o - 0x40) % 0x80
      let l := ledger f c
      if j = 0x20 then n l.1 else if j = 0x24 then n l.2.1 else if j = 0x28 then n l.2.2.1 else if j = 0x2C then n l.2.2.2
      else if j = 0x30 then n (ledgerTot f c) else if j = 0x34 then n (ledgerTot f c / 2 ^ 32)
      else none
    else if o = 0x840 then n (capChain f)
    else if 0x900 ≤ o ∧ o < 0x980 then n (flagSum f ((o - 0x900) / 4))
    else none
  | some (.CNV, 0) =>
    if o = 0x40 then n (capTaps f) else if o = 0x44 then n (tapsAct f) else if o = 0x48 then n (tapsShd f) else none
  | some (.DSP, c) => if o = 0x4C then n (coreOf s.cores c).lastPc else none
  | some (.DSPSH, _) => if o = 0x4C then n (coreRun f) else if o = 0x50 then n (coreFaults f) else none
  | _ => none

/-- The registers that hold a position: LISTENER_X, _Y, _Z and SEG_X, _Y, _Z (R11, R140, R143). -/
def isPosReg (a : Nat) : Bool :=
  [ra pREN 0x4C, ra pREN 0x50, ra pREN 0x54, ra pREN 0xA4, ra pREN 0xA8, ra pREN 0xAC].contains a
/-- The window words that hold a position: INIT_X, _Y, _Z of a praline and X, Y, Z of a speaker (R11, R121, R127). -/
def isPosWord (a : Nat) : Bool :=
  if a < 0x41_0000 then decide (4 ≤ a % 0x40) && decide (a % 0x40 ≤ 0xC)
  else decide (a < 0x41_8000) && decide (a % 0x20 ≤ 8)
/-- A word as read: bits [31:24] of a position copy bit 23 (R11). -/
def asRead (pos : Bool) (w : Word) : Word := if pos then posReg w else w

/-- The value of a register for a requester (R14): computed, per requester, of the shadow bank, or kept. -/
def regWord (s : State) (q a : Nat) (r : RegRow) : Word :=
  match liveWord s q (pageOf a) (offOf a) with
  | some v => v
  | none =>
    asRead (isPosReg a) (match r.kind with
    | .own => rdO s.fab q a
    | .banked => rdShd s.fab (ctrlOf (pageOf a)) a
    | _ => rdR s.fab a)

-- Windows (R47, R117, R214, R249)

/-- Where a BAR0 offset above the register pages leads. -/
inductive WinPlace
  /-- a word of a banked window: controller page and the bits that exist (R118, R119) -/
  | bank (ctrl mask : Nat)
  /-- a coefficient of the interpolator table (R132) -/
  | interp (p k : Nat)
  /-- a word of a core's memories (R249) -/
  | core (c off : Nat)
  /-- a reserved range of a window: reads 0, and a write is UNMAPPED (R119, R214) -/
  | reserved
  | unmapped
  deriving DecidableEq, Repr

/-- The bits of a praline word (R121). -/
def pralineMask (o : Nat) : Nat :=
  if o = 0 then 0x03FF_030F else if o ≤ 0xC then 0xFF_FFFF else if o = 0x10 then allBits else if o = 0x14 then 0x1FF_FFFF
  else if o = 0x18 then 0xFFFF else 0
/-- The bits of a speaker word (R127). -/
def speakerMask (o : Nat) : Nat :=
  if o ≤ 8 then 0xFF_FFFF else if o = 0xC then allBits else if o = 0x10 then 0x1_FFFF else if o = 0x14 then allBits else 0
/-- The bits of a triangle word (R128). -/
def meshMask (o : Nat) : Nat :=
  if o = 0 then 0x03FF_03FF else if o = 4 then 0x8000_03FF else if o = 8 then 0x8FFF_8FFF else if o = 0xC then 0x8FFF
  else if o < 0x34 then allBits else 0
/-- The bits of a dynamics word (R214). -/
def dynMask (o : Nat) : Nat :=
  if o = 0 then 0x003F_3FFF else if o = 4 ∨ o = 8 then allBits else if o < 0x24 then 0xFFFF else if o = 0x24 then 0xFF else 0

/-- The place of a word at a multiple of 4. -/
def winPlace (a : Nat) : WinPlace :=
  if a < 0x40_0000 then .unmapped
  else if a < 0x41_0000 then .bank pREN (pralineMask (a % 0x40))
  else if a < 0x41_8000 then .bank pREN (speakerMask (a % 0x20))
  else if a < 0x42_0000 then .reserved
  else if a < 0x44_0000 then .bank pREN 0x83FF_83FF
  else if a < 0x48_0000 then .bank pREN (meshMask (a % 0x40))
  else if a < 0x48_2020 then .interp ((a - 0x48_0000) / 0x20) ((a - 0x48_0000) / 4 % 8)
  else if a < 0x60_0000 then .reserved
  else if a < 0x68_0000 then .bank pSPK (if a % 0x200 < 0x140 then allBits else 0)
  else if a < 0x70_0000 then .bank pCNV allBits
  else if a < 0x71_0000 then .bank pSPK (dynMask (a % 0x40))
  else if a < 0x80_0000 then .reserved
  else if a < 0xC0_0000 then .core ((a - 0x80_0000) / 0x4_0000) (a % 0x4_0000)
  else .unmapped

/-- A word of a window; none where it is UNMAPPED (R49, R119, R283). -/
def winWord (s : State) (a : Nat) : Option Word :=
  match winPlace a with
  | .bank c _ => some (asRead (isPosWord a) (rdShd s.fab c a))
  | .interp p k => some (wordOf (hTap p k))
  | .core c off => coreWinRead s.fab s.cores c off
  | .reserved => some 0
  | .unmapped => none

/-- What a 32-bit read of BAR0 would return now, without its side effects; none where it is UNMAPPED (R46, R49). -/
def peek (s : State) (q a : Nat) : Option Word :=
  if a < 0x40_0000 then
    match rowOf a with
    | none => none
    | some r =>
      match (held s.fab q).find? (fun w => w.1 == a) with
      | some w => some w.2
      | none => some (regWord s q a r)
  else winWord s a

-- Reads with their side effects (R46, R48, R147, R299, R307, R383)

/-- The pairs of R48: block, offset, stride and count of the low words. -/
def pairRows : List (Block × Nat × Nat × Nat) := [
  (.SYS, 0x20C, 0x20, 16), (.SYS, 0x214, 0x20, 16), (.HST, 0x4C, 4, 1), (.HST, 0x58, 4, 1), (.HST, 0x600, 0x20, 8),
  (.HST, 0x800, 0x10, 64), (.OBS, 0x800, 8, 256), (.REN, 0xB4, 4, 1), (.SPK, 0x70, 0x80, 16), (.DSP, 0x50, 4, 1),
  (.TB, 0x6C, 4, 1), (.TB, 0x8C, 4, 1), (.TB, 0x114, 0x20, 12), (.TB, 0xA0, 8, 2), (.TB, 0x304, 0x20, 8), (.CG, 0x44, 4, 1),
  (.CG, 0x64, 4, 1), (.CG, 0x104, 0x10, 4), (.NET, 0x48, 4, 1), (.NET, 0xA0, 8, 32), (.NET, 0x400, 8, 48), (.NET, 0x848, 4, 1),
  (.STK, 0x50, 4, 1),
  (.STK, 0x58, 4, 1), (.STK, 0x64, 4, 1), (.TRI, 0x68, 4, 1), (.CRCU, 0x104, 0x40, 8), (.CRCU, 0x10C, 0x40, 8),
  (.CRCU, 0x114, 0x40, 8), (.CRCU, 0x11C, 0x40, 8), (.CRCU, 0x124, 0x40, 8) ]

/-- An offset is the low word of a pair. -/
def isPair (a : Nat) : Bool :=
  match blockOf (pageOf a) with
  | none => false
  | some (b, i) => (b != .REN || i == 0) && pairRows.any (fun r => r.1 == b && decide (r.2.1 ≤ offOf a) && (offOf a - r.2.1) % r.2.2.1 == 0 &&
      decide ((offOf a - r.2.1) / r.2.2.1 < r.2.2.2))

/-- A register whose read does more than return a value: the state after it, and the value in rdata. -/
def readEffect (s : State) (q a : Nat) : Option State :=
  let p := pageOf a
  let o := offOf a
  match blockOf p with
  | some (.PWR, _) =>
    if o = 0xB4 then
      let r := keepGet s.fab s.mem
      some { s with fab := answer r.1 q r.2.toNat }
    else none
  | some (.OBS, _) => if o = 0xA4 then some (onF s (fun f => ocRead f q)) else none
  | some (.TB, _) =>
    if o = 0x60 then some (onF s (fun f => nowRead f q))
    else if o = 0x80 then some (onF s (fun f => latchRead f q))
    else if 0x100 ≤ o ∧ o < 0x280 ∧ o % 0x20 = 8 then some (onTb s (fun f t => capRead f t q ((o - 0x100) / 0x20)))
    else none
  | some (.STK, _) => if o = 0xB4 then some (onF s (fun f => stkMapRead f q)) else none
  | some (.NET, x) => if o = 0x700 then some (onNet s (fun f n => tsqRead f n q x)) else none
  | some (.MTX, 0) => if o = 0x8A8 then some (onF s (fun f => nodeRead f q)) else none
  | some (.REN, i) =>
    if 9 ≤ i ∧ i ≤ 16 ∧ 0x40 ≤ o ∧ o % 16 = 0 then
      let f := answer s.fab q (rdN s.fab a)
      some { s with fab := latch f q ((upto 3).map (fun j => (a + 4 * (j + 1), rdR s.fab (a + 4 * (j + 1))))) }
    else none
  | _ => none

/-- What a requester still holds after a read of a held word: the one held word of a pair is used up (R48), and the words of a
set stay for the following reads (R147, R299). -/
def heldAfter (l : List (Nat × Word)) : List (Nat × Word) := if l.length ≤ 1 then [] else l

/-- The word after a register as it is now, which a read of a pair's low word holds (R48). -/
def wordAfter (s : State) (q a : Nat) : Word := (rowOf (a + 4)).elim 0 (regWord s q (a + 4))

/-- A 32-bit read of BAR0 at a multiple of 4: the value goes to rdata of the requester, and the second part says whether it
is UNMAPPED. -/
def busRead (s : State) (q a : Nat) : State × Bool :=
  match peek s q a with
  | none => (onF s (fun f => answer f q 0), true)
  | some v =>
    if a < 0x40_0000 ∧ (held s.fab q).any (fun w => w.1 == a) then
      (onF s (fun f => latch (answer f q v.toNat) q (heldAfter (held f q))), false)
    else
      match (if a < 0x40_0000 then readEffect s q a else none) with
      | some t => (t, false)
      | none =>
        if a < 0x40_0000 ∧ isPair a then
          (onF s (fun f => latch (answer f q v.toNat) q [(a + 4, wordAfter s q a)]), false)
        else (onF s (fun f => answer f q v.toNat), false)

/-- The upper half of a 64-bit read at a multiple of 4: the value alone, which a holding register of R48 may give, and no side
effect of the read (R46). -/
def busReadUpper (s : State) (q a : Nat) : State × Bool :=
  match peek s q a with
  | none => (onF s (fun f => answer f q 0), true)
  | some v =>
    let used := decide (a < 0x40_0000) && (held s.fab q).any (fun w => w.1 == a)
    (onF s (fun f => let f := answer f q v.toNat
                     if used then latch f q (heldAfter (held f q)) else f), false)

/-- What the last read of a requester returned. -/
def lastRead (s : State) (q : Nat) : Nat := mget zeroN s.fab.rdata q

end Sys2Proof.Machine
end

