-- ==== Sys2Proof/Machine/Resets.lean ====
section
/-! DEFINITION. PAGE_CTRL: ENABLE of every block, and soft resets with their fences, waits and the return of READY (R42, R53,
R54, R75, R484, R488, R576, and the header paragraphs of each chapter). -/
namespace Sys2Proof.Machine

-- ENABLE

/-- DRC ENABLE from 1 to 0 (R488): the write queue drains, the die enters self-refresh and READY clears. -/
def drcDisable (s : State) (ch : Nat) : State :=
  let s := onF s (fun f => putB f (drcAt ch 0x08) 0 false)
  let r := drainAll s.fab s.mem ch
  { s with fab := putB (selfRefresh r.1 ch) (drcAt ch 0x0C) 3 false, mem := r.2.1 }

/-- A write of DRC ENABLE; 0 is rejected while a session runs (R472, R488). -/
def drcEnableWrite (s : State) (ch : Nat) (on : Bool) : State :=
  if enabled s.fab (pDRC ch) = on then s
  else if on then onF s (fun f => drcEnable f ch)
  else if running s.fab then failOn s (pDRC ch) 6 0x08
  else drcDisable s ch

/-- A write of DSP[c].PAGE_CTRL.ENABLE (R287, R291, R484). -/
def dspEnableWrite (s : State) (c : Nat) (on : Bool) : State :=
  let was := enabled s.fab (pDSP c)
  if was = on then s
  else
    let s := onCores (onF s (fun f => putB f (dspAt c 0x08) 0 on)) (fun f cs => coreEnable f cs c on)
    if on then s
    else fencePage { s with cores := setCore s.cores c { coreOf s.cores c with dma := none } } (pDSP c)

/-- A write of PAGE_CTRL.ENABLE with its block's effect (R42). A write that changes nothing has none. -/
def pageEnable (s : State) (p : Nat) (on : Bool) : State :=
  let was := enabled s.fab p
  let keep (s : State) : State := onF s (fun f => putB f (ra p 0x08) 0 on)
  if was = on then s
  else
    match blockOf p with
    | none => s
    | some (.BUS, _) => s
    | some (.DRC, n) => drcEnableWrite s n on
    | some (.DSP, c) => dspEnableWrite s c on
    | some (.TB, _) => if on then onTb (keep s) (fun f t => (f, tbEnable f t)) else keep s
    | some (.REF, _) =>
      let s := onRef (keep s) (fun f x => refEnable f x on)
      if on then onRef s refSelect else s
    | some (.TRI, _) => onTri s (fun f x => triEnable f x on)
    | some (.UHL, n) => onStk s (fun f k => uhlEnable f k n on)
    | some (.NET, x) => onNet s (fun f n => netEnable f n x on)
    | some (.STRM, 0) => onStrm s (fun f x => strmEnable f x on)
    | some (.CG, i) => onPorts s (fun f x => if on then cgEnable f x i else cgDisable f x i)
    | some (.INC, 0) => onInc (keep s) (fun f x => (f, incEnable x on))
    | some (.MTX, 0) => onMtx (keep s) (fun f m => (f, mtxEnable f m on (blockStart f + blockLen f)))
    | _ => keep s

-- Soft resets

/-- ENABLE's reset value (R42): that of a strapped stack member's UHL and STK pages is 1. -/
def enableAfter (f : Fabric) (p : Nat) : Bool :=
  match blockOf p with
  | some (.UHL, _) => fld (rdR f 0x58) 2 1 != 0
  | some (.STK, _) => fld (rdR f 0x58) 2 1 != 0
  | some (.DRC, _) => enabled f p
  | some (b, _) => enableReset b == 1
  | none => false

/-- The unit of a controller page leaves an armed swap (R179), and a copy into its shadow is finished at once. -/
def unitLeaves (f : Fabric) (p : Nat) : Fabric :=
  if !isCtrlPage p then f
  else
    let f := if getB f (ra p 0x2C) 0 then putF f (ra p 0x2C) 1 0 0 else f
    if getB f (ra p 0x2C) 2 then putB (copyUnit f p) (ra p 0x2C) 2 false else f

/-- The header fields of a page after a soft reset (R53). -/
def headReset (f : Fabric) (p : Nat) : Fabric :=
  let f := unitLeaves f p
  let on := enableAfter f p
  let f := wrR (wrR (putB f (ra p 0x0C) 2 false) (ra p 0x20) 0) (ra p 0x24) 0
  let f := wrR (wrR f (ra p 0x10) 0) (ra p 0x14) 0
  let f := if isCtrlPage p then wrR f (ra p 0x28) ((rdR f (ra p 0x28) &&& 1) ||| 0x1000) else f
  putB f (ra p 0x08) 0 on

/-- A unit's further pages p + 1 to p + n at reset with their headers, and its bank fields (R184, R220: every field of its
pages). -/
def pagesFresh (f : Fabric) (p n : Nat) : Fabric :=
  let f := (upto n).foldl (fun f i => headReset f (p + 1 + i)) f
  wrR (wrR f (ra p 0x28) 0x1000) (ra p 0x2C) (rdR f (ra p 0x2C) &&& 7)

/-- What a soft reset does to the unit beyond its header (the header paragraph of each chapter). -/
def unitReset (s : State) (p : Nat) : State :=
  let block (f : Fabric) : Fabric := softClear f p (fun o => decide (o < 0x40))
  match blockOf p with
  | some (.SYS, _) => onF s (fun f =>
      softClear f p (fun o => decide (o < 0x40) || o == 0x4C || (o == 0x100 && (running f || startPending f))))
  | some (.PWR, _) => onPwr (withShed s pwrSoft) boostCheck
  | some (.THM, _) => onF s thmSoft
  | some (.HST, _) => onF s (fun f =>
      { softClear f p (fun o => decide (o < 0x40) || decide (0x600 ≤ o)) with armed := BitVec.allOnes 64 })
  | some (.BUS, _) => onF s (fun f => showBus (pageClear f p) s.bus)
  | some (.DRC, n) =>
    if enabled s.fab p then
      let r := drainAll (block s.fab) s.mem n
      { s with fab := drcEnable (selfRefresh r.1 n) n, mem := r.2.1 }
    else onF s block
  | some (.OBS, _) => onF s obsSoft
  | some (.TB, _) => onTb s tbSoft
  | some (.REF, _) => onRef s refSoft
  | some (.CRCU, _) => onF s crcSoft
  | some (.TRI, _) => onTri s triSoft
  | some (.STK, _) => onF s stkSoft
  | some (.UHL, n) =>
    if enabled s.fab p then onStk s (fun f k => uhlSoft f k n) else onF s block
  | some (.NET, x) => onNet (onNet s (fun f n => netEnable f n x false)) (fun f n => netSoft f n x)
  | some (.STRM, 0) => onStrm s strmSoft
  | some (.CG, i) => onPorts s (fun f x => cgSoft f x i)
  | some (.SAP, n) => onPorts s (fun f x => sapSoft f x n)
  | some (.INC, 0) => onInc s incSoft
  | some (.MTX, 0) => onF (onMtx s mtxSoft) (fun f => pagesFresh f p 7)
  | some (.REN, 0) =>
    let r := renSoft (clearBanks (softClearOwn (block s.fab) p) (ra p 0x40) (ra (p + 1) 0)) s.ren s.aud
    { s with fab := r.1, ren := r.2.1, aud := r.2.2 }
  | some (.SPK, 0) =>
    let r := spkSoft s.fab s.aud
    { s with fab := pagesFresh r.1 p 63, chains := r.2.1, aud := r.2.2 }
  | some (.CNV, 0) =>
    let r := cnvSoft s.fab s.aud
    { s with fab := r.1, aud := r.2 }
  | some (.DSP, c) =>
    let s := onCores s (fun f cs => coreEnable f cs c false)
    onF { s with cores := setCore s.cores c { coreOf s.cores c with dma := none, lastPc := 0 } } (fun f => pageClear f p)
  | _ => s

/-- The operations of a page. -/
def pageOps (p : Nat) : List OpId := allOps.filter (fun o => o.page == p)

/-- The operations of a page that have not committed end as an abort would end them (R75). -/
def abandonOps (s : State) (p : Nat) : State :=
  (pageOps p).foldl (fun s o => if opRunning s.fab o && !opCommitted s.fab o then doAbort s o else s) s

/-- A committed operation of the page runs (R75). -/
def opsHold (f : Fabric) (p : Nat) : Bool := (pageOps p).any (fun o => opRunning f o && opCommitted f o)

/-- Every operation of the page reads IDLE (R75). -/
def idleOps (f : Fabric) (p : Nat) : Fabric :=
  (pageOps p).foldl (fun f o => { wrR f o.stat 0 with late := f.late.filter (· != o.stat) }) f

/-- A link whose ENABLE returns to 0 goes down (R429). -/
def linkOff (s : State) (p : Nat) : State :=
  match blockOf p with
  | some (.UHL, n) => if enableAfter s.fab p then s else onStk s (fun f k => uhlEnable f k n false)
  | _ => s

/-- The reset proper: the header, the unit and its operations' status. Causes that the reset itself raises stay. -/
def doReset (s : State) (p : Nat) : State :=
  onF (unitReset (onF (linkOff s p) (fun f => headReset f p)) p) (fun f => idleOps f p)

/-- The fence of a soft reset (R484): the host bridge is fenced at PERST_N alone (R55, R576). -/
def fenceSoft (s : State) (p : Nat) : State := if p = pHST then s else fencePage s p

/-- A write of SOFT_RST (R53, R54, R75, R484, R488). -/
def softRst (s : State) (p : Nat) : State :=
  match blockOf p with
  | none => s
  | some (b, n) =>
    let isDrc := b == .DRC
    if isDrc && running s.fab then failOn s p 6 0x08
    else
      let s := fenceSoft (abandonOps s p) p
      let wait (s : State) : State := onF s (fun f => { f with rstWait := f.rstWait.filter (· != p) ++ [p] })
      if opsHold s.fab p then wait (onF s (fun f => putB f (ra p 0x0C) 0 false))
      else
        let s := doReset s p
        if isDrc then onF (wait s) (fun f => setReady f n false) else onF s (fun f => putB f (ra p 0x0C) 0 false)

/-- SOFT_RST_DONE (R54, R75, R485, R488): with no fence and no committed operation left, a reset that waited takes place and
READY returns; that of a DRC page returns when the channel has trained. -/
def softRstDone (s : State) (p : Nat) : State :=
  match blockOf p with
  | none => s
  | some (b, n) =>
    if pageFenced s.bus p || opsHold s.fab p || !s.pwr.locked then s
    else
      let waits := s.fab.rstWait.contains p
      let done (s : State) : State := onF s (fun f => irqAll { f with rstWait := f.rstWait.filter (· != p) })
      if b == .DRC then (if training s.fab n then s else done s)
      else if ready s.fab p then s
      else
        let s := if waits then doReset s p else s
        done (onF s (fun f => putB f (ra p 0x0C) 0 true))

/-- Block registers of a page accept writes (R42, R54, R488). -/
def takesWrites (f : Fabric) (p : Nat) : Bool :=
  match blockOf p with
  | some (.DRC, _) => !f.rstWait.contains p
  | _ => ready f p

/-- DRAM_TRAIN_END (R472): a soft reset that waited for the training completes. -/
def dramTrainEnd (s : State) (ch : Nat) (ok : Bool) : State :=
  let p := pDRC ch
  let s := onF s (fun f => trainEnd f ch ok)
  if training s.fab ch || pageFenced s.bus p then s
  else onF s (fun f => { f with rstWait := f.rstWait.filter (· != p) })

end Sys2Proof.Machine
end

