-- ==== Sys2Proof/Machine/Writes.lean ====
section
/-! DEFINITION. Writes of the register fabric and of the windows (R14, R16, R29, R44 to R49, R54, R119, R120, R123, R141,
R172, R173 and the register tables of every chapter). -/
namespace Sys2Proof.Machine

-- Counter clears (R141)

/-- The counters of each CNT_CLR register: block, its offset, and for each bit the BAR0 offsets past the page that the bit
clears. -/
def clearRows : List (Block × Nat × List (List Nat)) := [
  (.REN, 0x94, [[0x80], [0x84], [0x88], [0x8C], [0x90]]),
  (.MTX, 0x880, [[0x870], [0x874], [0x878], [0x87C]]),
  (.SPK, 0x860, [[0x850], [0x854], [0x858], [0x85C]]),
  (.INC, 0x858, [[0x854], (upto 32).flatMap (fun g => [0x914 + 0x20 * g, 0x918 + 0x20 * g, 0x91C + 0x20 * g])]),
  (.DSP, 0x78, [[0x6C], [0x74]]),
  (.REF, 0xA0, [[0x9C], (upto 10).map (fun r => 0x10C + 0x10 * r)]),
  (.CG, 0x90, (upto 8).map (fun i => [0x70 + 4 * i])),
  (.SAP, 0x58, [[0x54]]),
  (.UHL, 0x64, (upto 5).map (fun i => [0x50 + 4 * i])),
  (.STK, 0xA0, (upto 6).map (fun i => [0x88 + 4 * i])),
  (.TRI, 0xB4, (upto 5).map (fun i => [0xA0 + 4 * i])),
  (.BUS, 0xEC, [[0xD0], [0xD4], [0xE0], [0xE4]]),
  (.DRC, 0x94, [[0x54], [0x58], [0x5C], [0x80], [0x84], [0x88], [0x8C], [0x90]]),
  (.NET, 0x718, [[0x710]]) ]

/-- The counters that bit i of STRM[0].CNT_CLR clears (R398): those of every RX or of every TX stream. -/
def strmCounter (i a : Nat) : Bool :=
  let o := offOf a
  if i = 0 then decide (18 ≤ pageOf a) && decide (pageOf a ≤ 21) && decide (0x40 ≤ o) && decide ((o - 0x40) % 0x18 ≠ 0)
  else decide (22 ≤ pageOf a) && decide (pageOf a ≤ 23) && decide (0x40 ≤ o) && (o - 0x40) % 0xC == 4

/-- The counters one bit of a CNT_CLR register selects, as BAR0 offsets. -/
def clearList (f : Fabric) (p i : Nat) : List Nat :=
  match blockOf p with
  | some (.STRM, 0) => if i < 2 then (f.regs.map (·.1)).filter (strmCounter i) else []
  | some (b, n) =>
    if n ≠ 0 ∧ (b = .REN ∨ b = .MTX ∨ b = .SPK ∨ b = .INC) then []
    else match clearRows.find? (fun r => r.1 == b) with
      | some r => (r.2.2.getD i []).map (ra p)
      | none => []
  | none => []

/-- A write of a CNT_CLR register (R141): each counter a set bit selects reads 0, or 1 where it is incremented in the same
cycle. -/
def counterClear (f : Fabric) (p : Nat) (v inc : Word) : Fabric :=
  (upto 10).foldl (fun f i =>
    if bit v i then (clearList f p i).foldl (fun f a => wrN f a (bit inc i).toNat) f else f) f

/-- The offset of a page's CNT_CLR register. -/
def clearOff (p : Nat) : Option Nat :=
  match blockOf p with
  | some (.STRM, 0) => some 0x58
  | some (b, n) =>
    if n ≠ 0 ∧ (b = .REN ∨ b = .MTX ∨ b = .SPK ∨ b = .INC) then none
    else (clearRows.find? (fun r => r.1 == b)).map (fun r => r.2.1)
  | none => none

-- SYS and HST

/-- A write of SESSION_CFG (R28, R29). -/
def sessionCfgWrite (f : Fabric) (v : Word) : Fabric :=
  if !ready f pSYS then fail f pSYS 1 0x100
  else if running f || startPending f || decide (5 < fld v 6 4) then putB f 0x104 8 true
  else wrR f 0x100 (v &&& 0x71)

/-- A write of VEC_EOI (R60, R61). -/
def vecEoi (f : Fabric) (v : Word) : Fabric :=
  if !ready f pHST then fail f pHST 1 0x54
  else serviceVec { f with armed := f.armed ||| (1#64 <<< fld v 5 0) } (fld v 5 0)

/-- A DMA error (R65): RUN clears, ERR and ERR_KIND are set. -/
def dmaError (f : Fabric) (c kind : Nat) : Fabric :=
  let f := putB (putB (putB f (dmaAt c 0x14) 0 false) (dmaAt c 0x18) 0 false) (dmaAt c 0x18) 2 true
  putF f (dmaAt c 0x18) 7 4 kind

/-- A write of DMA_CTRL with RUN (R63, R65). -/
def dmaRun (f : Fabric) (c vector : Nat) : Fabric :=
  if !ready f pHST then fail f pHST 1 (offOf (dmaAt c 0x14))
  else
    let f := putF f (dmaAt c 0x14) 13 8 vector
    let size := getF f (dmaAt c 0x08) 10 0
    let f := if getB f (dmaAt c 0x14) 0 then f
      else if size < 2 ∨ 1024 < size then dmaError f c 6
      else putB (putB f (dmaAt c 0x14) 0 true) (dmaAt c 0x18) 0 true
    serviceVec f vector

/-- A descriptor is in progress on a channel. -/
def dmaJob (h : HostState) (c : Nat) : Option DmaJob := mget noneO h.jobs c

/-- A write of DMA_CTRL with RUN = 0 (R65): the channel stops after the descriptor in progress. -/
def dmaStop (f : Fabric) (h : HostState) (c vector : Nat) : Fabric :=
  if !ready f pHST then fail f pHST 1 (offOf (dmaAt c 0x14))
  else
    let f := putB (putF f (dmaAt c 0x14) 13 8 vector) (dmaAt c 0x14) 0 false
    let f := if (dmaJob h c).isNone then putB f (dmaAt c 0x18) 0 false else f
    serviceVec f vector

/-- A write of an HST block register. -/
def hstWrite (s : State) (o : Nat) (v : Word) (r : RegRow) : State :=
  let a := ra pHST o
  let c := (o - 0x600) / 0x20
  if o = 0x54 then onF s (fun f => vecEoi f v)
  else if 0x100 ≤ o ∧ o < 0x584 then
    if (blockOf ((o - 0x100) / 4)).isNone then s
    else onF s (fun f => irqPage (wrR f a (v &&& 0x13F)) ((o - 0x100) / 4))
  else if 0x600 ≤ o ∧ o < 0x700 ∧ o % 0x20 = 0x14 then
    onF s (fun f => if bit v 0 then dmaRun f c (fld v 13 8) else dmaStop f s.host c (fld v 13 8))
  else if 0x600 ≤ o ∧ o < 0x700 ∧ o % 0x20 = 0x18 then
    onF s (fun f =>
      let f := wrR f a (storeReg r (rdR f a) v)
      if bit v 2 then putF f a 7 4 0 else f)
  else if 0x800 ≤ o ∧ o < 0xC00 ∧ o % 16 = 12 then
    let n := (o - 0x800) / 16
    let pba := ra pHST (0xC00 + 4 * (n / 32))
    onF s (fun f =>
      let f := wrR f a (v &&& 1)
      if !bit v 0 && getB f pba (n % 32) then
        let f := putB f pba (n % 32) false
        { f with msgs := f.msgs ++ [⟨n, rdN f (ra pHST (0x804 + 16 * n)) * 2 ^ 32 + rdN f (ra pHST (0x800 + 16 * n)),
          rdN f (ra pHST (0x808 + 16 * n))⟩] }
      else f)
  else onF s (fun f => wrR f a (storeReg r (rdR f a) v))

-- BUS

/-- A write of a BUS configuration register (R477, R480, R487). -/
def busCfgWrite (f : Fabric) (o : Nat) (v : Word) (r : RegRow) : Fabric :=
  let a := ra pBUS o
  let m := (o - 0x40) / 8
  let bad :=
    if 0x40 ≤ o ∧ o < 0x90 ∧ o % 8 = 0 then
      (decide (m ≠ 7) && fld v 3 0 == 15) || fld v 14 8 == 0 || decide (64 < fld v 14 8)
    else if o = 0xA0 then fld v 3 0 == 15
    else if o = 0xA4 then fld v 7 0 == 0
    else false
  if bad then fail f pBUS 0x0100 o else wrR f a (storeReg r (rdR f a) v)

-- Block registers

/-- The default write of a register by its access types (R14, R16): the requester's own, the shadow bank, or the one value. A
shadow write is rejected while its unit is locked or copying (R173, R178). -/
def plainWrite (f : Fabric) (q a : Nat) (v : Word) (r : RegRow) : Fabric :=
  let p := pageOf a
  let c := ctrlOf p
  match r.kind with
  | .own => wrO f q a (storeReg r (rdO f q a) v)
  | .banked =>
    let g := shadowGate f c
    if g ≠ 0 then fail f p g (offOf a) else wrShd f c a (storeReg r (rdShd f c a) v)
  | _ => wrR f a (storeReg r (rdR f a) v)

/-- A push written through SEG_PUSH (R143, R144). -/
def segPush (s : State) (q : Nat) (tns msc : Bool) (mode : Nat) : State :=
  if !ready s.fab pREN then failOn s pREN 1 0xBC
  else onRen s (fun f r => pushSegment f r q tns msc mode)

/-- A write of STK.CMD (R412, R419, R421, R430). -/
def stkCmd (s : State) (v : Word) : State :=
  let s := if bit v 0 then onStk s cmdEnum else s
  let s := if bit v 1 then onStk s restore else s
  if bit v 2 then onStk s handback else s

/-- A write of one block register; the page accepts writes and the offset is defined. -/
def blockWrite (s : State) (q a : Nat) (v : Word) (r : RegRow) : State :=
  let p := pageOf a
  let o := offOf a
  let plain : State := onF s (fun f => plainWrite f q a v r)
  match opAt a with
  | some op => opCommand s op v
  | none =>
    if clearOff p = some o then onF s (fun f => counterClear f p v 0)
    else match blockOf p with
    | some (.SYS, _) =>
      if o = 0x48 then (if bit v 0 then chipReset s (keptStraps s.fab) else s)
      else if o = 0x100 then onF s (fun f => sessionCfgWrite f v)
      else if o = 0x414 ∧ 32 < fld v 5 0 then failOn s pSYS 6 o
      else plain
    | some (.PWR, _) =>
      if 0x70 ≤ o ∧ o < 0x90 then onF s (fun f => keepWrite f o v)
      else if o = 0x90 then onPwr s (fun f x => boostWrite f x true v)
      else if o = 0xA0 then withShed s (fun f x => shedForce f x v)
      else if o = 0xB4 then onMem s (fun f m => keepPut f m v)
      else plain
    | some (.THM, _) =>
      if o = 0x78 then withShed s (fun f x => thmCmd f x v) else onF s (fun f => thmWrite f o v)
    | some (.HST, _) => hstWrite s o v r
    | some (.BUS, _) => onF s (fun f => busCfgWrite f o v r)
    | some (.DRC, n) =>
      if o = 0x40 ∨ o = 0x44 ∨ o = 0x4C then onF s (fun f => drcWrite f n o v)
      else if o = 0x70 then onF s (fun f => injWrite f n v)
      else plain
    | some (.OBS, _) =>
      if o = 0x40 ∨ o = 0x44 ∨ o = 0x48 then onF s (fun f => obsCfg f o v)
      else if o = 0x50 then onF s (fun f => rdIdx f v)
      else if o = 0x84 then onF s (fun f => markHi f q v)
      else if o = 0xC0 then onF s (fun f => cntCtrl f v)
      else if o = 0x130 then onF s (fun f => loadClr f v)
      else plain
    | some (.TB, _) =>
      let n := (o - 0x300) / 0x20
      if o = 0x44 then onTb s (fun f t => incrCommit f t v)
      else if o = 0x4C then onTb s (fun f t => stepCommit f t v)
      else if 0x100 ≤ o ∧ o < 0x280 ∧ o % 0x20 = 0 then onTb s (fun f t => capCfgWrite f t ((o - 0x100) / 0x20) v)
      else if 0x100 ≤ o ∧ o < 0x280 ∧ o % 0x20 = 4 then onF plain anyOvf
      else if 0x300 ≤ o ∧ o < 0x400 ∧ o % 0x20 < 0x10 then onF s (fun f => cmpRegWrite f n (o % 0x20) v)
      else if 0x300 ≤ o ∧ o < 0x400 ∧ o % 0x20 = 0x10 then
        let s := if bit v 0 then onTb s (fun f t => cmpArm f t n) else s
        if bit v 1 then comparatorDisarm s n else s
      else if 0x400 ≤ o then onTb s (fun f t => evtCfgWrite f t ((o - 0x400) / 4) v)
      else plain
    | some (.REF, _) =>
      if o = 0x64 then onRef s (fun f x => tbGridWrite f x v)
      else onRef (onRef s (fun f x => refWrite f x o v)) refSelect
    | some (.CRCU, _) =>
      if o < 0x100 then plain
      else
        let c := (o - 0x100) / 0x40
        let j := (o - 0x100) % 0x40
        if j = 0 then onF s (fun f => crcCfgWrite f c v)
        else if j = 0x2C then (if bit v 0 then onF s (fun f => crcLoadInit f c) else s)
        else if j = 0x30 then onF s (fun f => crcRegFeed f c j [fld v 7 0])
        else if j = 0x34 then onF s (fun f => crcRegFeed f c j (feedWBytes v))
        else plain
    | some (.TRI, _) =>
      if o = 0x40 ∨ o = 0x44 then onF s (fun f => triWrite f o v)
      else if o = 0x70 then (if bit v 0 then onTriStk s triTake else s)
      else if 0x200 ≤ o ∧ o % 16 = 0 then onTri s (fun f x => alvCfg f x ((o - 0x200) / 16) v)
      else if 0x200 ≤ o ∧ o % 16 = 12 then onTri s (fun f x => alvFeed f x ((o - 0x200) / 16) v)
      else plain
    | some (.STK, _) =>
      if o = 0x48 then stkCmd s v
      else if o = 0xB4 then onF s (fun f => stkMapWrite f s.stk q v)
      else plain
    | some (.UHL, n) => if o = 0x40 then onF s (fun f => uhlCfg f n v) else plain
    | some (.NET, x) =>
      if o = 0x40 ∨ o = 0x50 ∨ (0x848 ≤ o ∧ o ≤ 0x854) then onF s (fun f => netWrite f x o (txMax f x) v)
      else if o = 0x580 then onNet s (fun f n => statsCtrl f n x v)
      else if 0x600 ≤ o ∧ o < 0x700 ∧ o % 0x20 = 0x10 then onNet s (fun f n => ringCtrl f n x ((o - 0x600) / 0x20) v)
      else if 0x600 ≤ o ∧ o < 0x700 ∧ o % 0x20 = 4 then onF plain (fun f => ringSize f x ((o - 0x600) / 0x20))
      else if o = 0x840 then onNetMem s (fun f m n => gateCtrl f m n x v)
      else if o = 0x864 then onNet s (fun f n => gclAccess f n q x v)
      else if 0x800 ≤ o ∧ o < 0x820 then onNet plain (fun f n => (f, creditsNow s.fab n x))
      else plain
    | some (.STRM, 0) =>
      if o = 0x44 then
        let s := if bit v 0 then onF s (fun f => streamWrite f q) else s
        if bit v 1 then onF s (fun f => streamRead f q) else s
      else plain
    | some (.CG, i) =>
      if o = 0x40 ∨ o = 0x44 ∨ o = 0x48 ∨ o = 0x60 ∨ o = 0xA0 then
        let s := onF s (fun f => cgWrite f i o v)
        if o = 0x40 then onRef (onRef s tdmCheck) refSelect else s
      else if 0x100 ≤ o ∧ o % 16 < 12 then onF s (fun f => sgWrite f ((o - 0x100) / 16) (o % 16) v)
      else if 0x100 ≤ o ∧ o % 16 = 12 then
        let g := (o - 0x100) / 16
        let s := plain
        let s := if bit v 0 then onPorts s (fun f x => sgArm f x g) else s
        if bit v 1 then onF s (fun f => sgDisarm f g) else s
      else plain
    | some (.SAP, n) => if o = 0x40 then onF s (fun f => sapWrite f n v) else plain
    | some (.INC, i) =>
      let c := 64 * i + (o - 0x40) / 0x20
      if o < 0x840 then
        let j := o % 0x20
        if j = 0 ∨ j = 4 then onF s (fun f => incChWrite f c (j == 4) v)
        else if j = 0x14 then onInc s (fun f x => incResync f x c v)
        else plain
      else if 0x900 ≤ o ∧ o % 0x20 = 0 then onF s (fun f => grpCfgWrite f ((o - 0x900) / 0x20) v)
      else plain
    | some (.MTX, i) =>
      if o < 0x840 then onF s (fun f => mapWrite f (decide (4 ≤ i)) (512 * (i % 4) + (o - 0x40) / 4) v)
      else if o = 0x8A8 then onF s (fun f => nodeWrite f s.mtx q v)
      else if o = 0x8D0 then
        let s := if bit v 0 then onF s (fun f => xrWrite f s.mtx q) else s
        if bit v 1 then onF s (fun f => xrRead f q) else s
      else plain
    | some (.REN, 0) => if o = 0xBC then segPush s q (bit v 5) (bit v 4) (fld v 1 0) else plain
    | some (.SPK, i) =>
      if 0x40 ≤ o ∧ o < 0x840 ∧ (o - 0x40) % 0x80 = 0 then onF s (fun f => chCtrlWrite f (16 * i + (o - 0x40) / 0x80) v)
      else if o = 0x848 ∧ running s.fab then failOn s p 6 o
      else plain
    | some (.CNV, i) =>
      if 1 ≤ i ∧ o % 8 = 0 then onF s (fun f => cnvCfgWrite f (256 * (i - 1) + (o - 0x40) / 8) v)
      else if i = 0 ∧ o = 0x4C ∧ running s.fab then failOn s p 6 o
      else plain
    | some (.DSP, c) =>
      if o = 0x40 then onF s (fun f => coreCtrlWrite f c v)
      else if o = 0x58 then onCores s (fun f cs => mailboxWrite f cs c v)
      else if o = 0x64 then onCores s (fun f cs => evtRaise f cs c v)
      else plain
    | some (.DSPSH, _) => if o = 0x40 then onPwr s (fun f x => boostWrite f x false v) else plain
    | _ => plain

/-- A write of the block register at a does more than store its fields: an operation's command, a counter clear, a register
whose write is checked or acts (each chapter's register table). -/
def actsOnWrite (a : Nat) : Bool :=
  let o := offOf a
  let sub (lo hi m : Nat) (l : List Nat) : Bool := decide (lo ≤ o) && decide (o < hi) && l.contains (o % m)
  (opAt a).isSome || clearOff (pageOf a) == some o || (match blockOf (pageOf a) with
  | some (.SYS, _) => [0x48, 0x100, 0x414].contains o
  | some (.PWR, _) => sub 0x70 0x90 4 [0] || [0x90, 0xA0, 0xB4].contains o
  | some (.THM, _) => true
  | some (.HST, _) => o == 0x54 || sub 0x100 0x584 4 [0] || sub 0x600 0x700 0x20 [0x14, 0x18] || sub 0x800 0xC00 16 [12]
  | some (.BUS, _) => sub 0x40 0x90 8 [0] || [0xA0, 0xA4].contains o
  | some (.DRC, _) => [0x40, 0x44, 0x4C, 0x70].contains o
  | some (.OBS, _) => [0x40, 0x44, 0x48, 0x50, 0x84, 0xC0, 0x130].contains o
  | some (.TB, _) => [0x44, 0x4C].contains o || sub 0x100 0x280 0x20 [0, 4] || sub 0x300 0x400 0x20 [0, 4, 8, 12, 16] || decide (0x400 ≤ o)
  | some (.REF, _) => true
  | some (.CRCU, _) => sub 0x100 0x1000 0x40 [0, 0x2C, 0x30, 0x34]
  | some (.TRI, _) => [0x40, 0x44, 0x70].contains o || sub 0x200 0x1000 16 [0, 12]
  | some (.STK, _) => [0x48, 0xB4].contains o
  | some (.UHL, _) => o == 0x40
  | some (.NET, _) =>
    [0x40, 0x50, 0x580, 0x840, 0x864].contains o || sub 0x848 0x855 4 [0] || sub 0x600 0x700 0x20 [4, 0x10] || sub 0x800 0x820 4 [0]
  | some (.STRM, 0) => o == 0x44
  | some (.CG, _) => [0x40, 0x44, 0x48, 0x60, 0xA0].contains o || sub 0x100 0x1000 4 [0]
  | some (.SAP, _) => o == 0x40
  | some (.INC, _) => sub 0x40 0x840 0x20 [0, 4, 0x14] || sub 0x900 0x1000 0x20 [0]
  | some (.MTX, _) => decide (o < 0x840) || [0x8A8, 0x8D0].contains o
  | some (.REN, 0) => o == 0xBC
  | some (.SPK, _) => sub 0x40 0x840 0x80 [0x40] || o == 0x848
  | some (.CNV, i) => if i = 0 then o == 0x4C else o % 8 == 0
  | some (.DSP, _) => [0x40, 0x58, 0x64].contains o
  | some (.DSPSH, _) => o == 0x40
  | _ => false)

/-- A write of a header register (R42 to R44, R53, R172). -/
def headWrite (s : State) (p o : Nat) (v : Word) : State :=
  if o = 0x08 then
    if bit v 1 then softRst s p else pageEnable s p (bit v 0)
  else if o = 0x0C then
    if bit v 2 then onF s (fun f => wrR (wrR (putB f (ra p 0x0C) 2 false) (ra p 0x20) 0) (ra p 0x24) 0) else s
  else if o = 0x10 then onF s (fun f => wrR f (ra p 0x10) (rdR f (ra p 0x10) &&& ~~~v))
  else if o = 0x14 then
    onF s (fun f => irqPage (wrR f (ra p 0x14) (v &&& BitVec.ofNat 32 ((blockOf p).elim 0 (fun b => irqMask b.1 b.2)))) p)
  else if o = 0x28 then onF s (fun f => bankCtrlWrite f p v)
  else s

-- Windows

/-- The controller page and ERR_INFO of a window offset. -/
def winInfo (a : Nat) : Nat := if a < 0x60_0000 then a - 0x40_0000 else a - 0x60_0000

/-- A write of a praline's CTRL word (R120, R123). -/
def pralineWrite (f : Fabric) (o : Nat) (v : Word) : Fabric :=
  let a := pralineAt o
  let v := v &&& 0x03FF_030F
  if !ready f pREN then fail f pREN 1 (winInfo a)
  else
    let g := shadowGate f pREN
    if g ≠ 0 then fail f pREN g (winInfo a)
    else
      let c := pralineCheck f o v
      if c ≠ 0 then fail f pREN c (winInfo a) else wrShd f pREN a v

/-- A 64-bit write at a praline whose CTRL word breaks a check leaves both words (R120). -/
def pairRejected (f : Fabric) (a : Nat) (v : Word) : Bool :=
  decide (0x40_0000 ≤ a) && decide (a < 0x41_0000) && a % 0x40 == 0 && ready f pREN && shadowGate f pREN == 0 && pralineCheck f ((a - 0x40_0000) / 0x40) (v &&& 0x03FF_030F) != 0

/-- A write of one window word: the state, and whether it was UNMAPPED (R47, R49, R54, R119, R131). -/
def winWrite (s : State) (a : Nat) (v : Word) : State × Bool :=
  match winPlace a with
  | .reserved => (s, true)
  | .unmapped => (s, true)
  | .interp _ _ => (s, true)
  | .core c off =>
    if !ready s.fab (pDSP c) then (failOn s (pDSP c) 1 off, false)
    else match coreWinWrite s.fab s.cores c off v with
      | none => (s, true)
      | some r => ({ s with fab := r.1, cores := r.2 }, false)
  | .bank c mask =>
    if a < 0x41_0000 ∧ a % 0x40 = 0 then (onF s (fun f => pralineWrite f ((a - 0x40_0000) / 0x40) v), false)
    else if !ready s.fab c then (failOn s c 1 (winInfo a), false)
    else
      let g := shadowGate s.fab c
      if g ≠ 0 then (failOn s c g (winInfo a), false)
      else if mask = 0 then (s, false)
      else
        let s := onF s (fun f => wrShd f c a (v &&& BitVec.ofNat 32 mask))
        (if 0x44_0000 ≤ a ∧ a < 0x48_0000 then onF s (fun f => putB f (ra pREN 0x74) 0 true) else s, false)

/-- A 32-bit write of BAR0 at a multiple of 4: the state, and whether it was UNMAPPED (R46, R49, R54). -/
def busWrite (s : State) (q a : Nat) (v : Word) : State × Bool :=
  if 0x40_0000 ≤ a then winWrite s a v
  else match rowOf a with
    | none => (s, true)
    | some r =>
      let p := pageOf a
      if offOf a < 0x40 then (headWrite s p (offOf a) v, false)
      else if !takesWrites s.fab p then (failOn s p 1 (offOf a), false)
      else (blockWrite s q a v r, false)

end Sys2Proof.Machine
end

