-- ==== Sys2Proof/Machine/Host.lean ====
section
/-! DEFINITION. Accesses by a requester with their sizes and access errors (R46 to R50), the stack window (R428), the DMA
channels (R63 to R65), the QSPI target (R66 to R70), PERST_N and the PCIe link (R55, R56). -/
namespace Sys2Proof.Machine

-- Accesses of BAR0

/-- Records an access error of requester q (R50). -/
def accFail (s : State) (q space : Nat) (k : AccKind) (a : Nat) (write : Bool) : State :=
  onF s (fun f => accErr f q space k a write)
/-- A 32-bit read: the state with its value in rdata, and whether it met an access error (R49). -/
def read32 (s : State) (q a : Nat) : State × Bool :=
  let r := busRead s q a
  (if r.2 then accFail r.1 q 0 .unmapped a false else r.1, r.2)
/-- The upper half of a 64-bit read (R46, R49). -/
def readUpper (s : State) (q a : Nat) : State × Bool :=
  let r := busReadUpper s q a
  (if r.2 then accFail r.1 q 0 .unmapped a false else r.1, r.2)
/-- A 32-bit write (R49). -/
def write32 (s : State) (q a : Nat) (v : Word) : State × Bool :=
  let r := busWrite s q a v
  (if r.2 then accFail r.1 q 0 .unmapped a true else r.1, r.2)

/-- An access at an address is aligned for its size: a 64-bit access to a register page needs a multiple of 4 (R46, R47). -/
def sizeAligned (a : Nat) (z : AccSize) : Bool :=
  if z = .b64 ∧ a < 0x40_0000 then a % 4 == 0 else a % z.bytes == 0

/-- A read of BAR0 (R46, R47): its value in rdata. -/
def hostRead (s : State) (q a : Nat) (z : AccSize) : State × Bool :=
  if !sizeAligned a z then
    (accFail (onF s (fun f => answer f q ((Config.unalignedRead q a).toNat % 2 ^ (8 * z.bytes)))) q 0 .size a false, true)
  else match z with
    | .b32 => read32 s q a
    | .b64 =>
      let l := read32 s q a
      let h := readUpper l.1 q (a + 4)
      (onF h.1 (fun f => answer f q (lastRead l.1 q + lastRead h.1 q * 2 ^ 32)), l.2 || h.2)
    | _ =>
      match peek s q (a / 4 * 4) with
      | none => (accFail (onF s (fun f => answer f q 0)) q 0 .unmapped a false, true)
      | some w => (onF s (fun f => answer f q (w.toNat / 2 ^ (8 * (a % 4)) % 2 ^ (8 * z.bytes))), false)

/-- A write of BAR0 (R46, R47, R120). -/
def hostWrite (s : State) (q a : Nat) (z : AccSize) (v : BitVec 64) : State × Bool :=
  if z = .b8 ∨ z = .b16 ∨ !sizeAligned a z then (accFail s q 0 .size a true, true)
  else
    let l := write32 s q a (BitVec.ofNat 32 v.toNat)
    if z = .b64 ∧ !pairRejected s.fab a (BitVec.ofNat 32 v.toNat) then
      let h := write32 l.1 q (a + 4) (BitVec.ofNat 32 (v.toNat / 2 ^ 32))
      (h.1, l.2 || h.2)
    else l

-- DRAM by the host bridge (R58, R466, R472)

/-- The access error of a DRAM access by the host bridge: the check symbols' range, or a channel that is not READY. -/
def dramFault (f : Fabric) (a n : Nat) : Option AccKind :=
  if dramBad a n then some .dramReserved else if !dramReadyRange f a n then some .notReady else none
/-- Bytes read from DRAM by the host bridge, each with whether it was poisoned, and whether the access met an error. -/
def hostDramRead (s : State) (a n : Nat) : State × List (Byte × Bool) × Bool :=
  match dramFault s.fab a n with
  | some k => (accFail s 0 2 k a false, List.replicate n (0, false), true)
  | none =>
    let r := dramRead s.fab s.mem 0 a n
    ({ s with fab := r.1, mem := r.2.1 }, r.2.2, false)
/-- Bytes written to DRAM by the host bridge. -/
def hostDramWrite (s : State) (a : Nat) (d : List Byte) : State × Bool :=
  match dramFault s.fab a d.length with
  | some k => (accFail s 0 2 k a true, true)
  | none => (onMem s (fun f m => dramWrite f m 0 a d), false)

/-- The bytes a host receives (R466): raw with HOST_POISON 1, else every poisoned 32-bit word as 0xFFFF_FFFF. -/
def hostBytes (f : Fabric) (l : List (Byte × Bool)) : List Byte :=
  if getB f (ra pBUS 0xA8) 0 then rawBytes l
  else (upto l.length).map (fun i =>
    if ((l.drop (i / 4 * 4)).take 4).any (fun e => e.2) then 0xFF else (l[i]?.getD (0, false)).1)

-- The stack window (R428)

/-- A 32-bit access through the stack window at an offset: local for the device's own ID, else REG_RD or REG_WR. -/
def stackAccess (s : State) (q addr : Nat) (wdata : Option Word) : State × Bool :=
  if addr % 4 ≠ 0 then (accFail s q 1 .size addr wdata.isSome, true)
  else if addr / 2 ^ 24 = stkId s.fab then
    match wdata with
    | none => read32 s q (addr % 2 ^ 24)
    | some w => write32 s q (addr % 2 ^ 24) w
  else
    (onStk s (fun f k => remoteAccess f k q addr wdata),
      !(isTimer s.fab && enabled s.fab pSTK && reachable s.fab s.stk (addr / 2 ^ 24)))

/-- Successive words written to a space: DRAM 0, BAR0 1, stack window 2 (R64). -/
def putWords (s : State) (space a : Nat) : List Word → State
  | [] => s
  | w :: r =>
    let t := if space = 1 then (write32 s 0 a w).1 else (stackAccess s 0 a (some w)).1
    putWords t space (a + 4) r
/-- Successive words read from BAR0. -/
def getWords (s : State) (a : Nat) : Nat → State × List Word
  | 0 => (s, [])
  | n + 1 =>
    let t := (read32 s 0 a).1
    let r := getWords t (a + 4) n
    (r.1, BitVec.ofNat 32 (lastRead t 0) :: r.2)
/-- Successive words asked for from a member. -/
def askWords (s : State) (a : Nat) : Nat → State
  | 0 => s
  | n + 1 => askWords (stackAccess s 0 a none).1 (a + 4) n

-- DMA (R63 to R65)

/-- Changes the descriptor in progress on a channel. -/
def setJob (h : HostState) (c : Nat) (j : Option DmaJob) : HostState := { h with jobs := mset noneO h.jobs c j }

/-- The device-side address of a descriptor (R64). -/
def devAddr (d : Desc) : Nat := if bit d.ctrl 0 then d.src.toNat else d.dst.toNat
/-- The host-side address. -/
def hostAddr (d : Desc) : Nat := if bit d.ctrl 0 then d.dst.toNat else d.src.toNat
/-- The STATUS code a descriptor starts with (R64): 1 bad length, 2 bad device address, else 0. -/
def descCode (d : Desc) : Nat :=
  let n := d.len.toNat
  let a := devAddr d % 2 ^ 32
  let sp := devAddr d / 2 ^ 32
  if n = 0 ∨ n % 4 ≠ 0 ∨ 0x100_0000 < n then 1
  else if a % 4 ≠ 0 ∨ 2 < sp ∨ (if sp = 0 then dramTop else if sp = 1 then 2 ^ 24 else 2 ^ 30) < a + n then 2
  else 0

/-- A channel with RUN 1 starts the descriptor at DMA_TAIL, as read from host memory; none where the read fails (R65). -/
def dmaStart (s : State) (c : Nat) (desc : Option Desc) : State :=
  let f := s.fab
  let size := getF f (dmaAt c 0x08) 10 0
  if !getB f (dmaAt c 0x14) 0 || (dmaJob s.host c).isSome || getF f (dmaAt c 0x0C) 9 0 == getF f (dmaAt c 0x10) 9 0 then s
  else if size < 2 ∨ 1024 < size then onF s (fun f => dmaError f c 6)
  else match desc with
    | none => onF s (fun f => dmaError f c 4)
    | some d =>
      let s := { onF s (fun f => putB f (dmaAt c 0x18) 0 true) with host := setJob s.host c (some ⟨d, descCode d⟩) }
      if descCode d = 0 ∧ bit d.ctrl 0 ∧ devAddr d / 2 ^ 32 = 2 ∧ devAddr d % 2 ^ 30 / 2 ^ 24 ≠ stkId s.fab then
        askWords s (devAddr d % 2 ^ 32) (d.len.toNat / 4)
      else s

/-- Bytes written to host memory. -/
def toHostPut (s : State) (a : Nat) (d : List Byte) : State :=
  { s with host := { s.host with toHost := s.host.toHost ++ [(a, d)] } }

/-- The transfer of a descriptor that started well, with the bytes that came from the host or from a stack member: the state
and the STATUS code (R64, R65, R466). -/
def dmaMove (s : State) (d : Desc) (data : Option (List Byte)) : State × Nat :=
  let n := d.len.toNat
  let a := devAddr d % 2 ^ 32
  let sp := devAddr d / 2 ^ 32
  if !bit d.ctrl 0 then
    match data with
    | none => (s, 3)
    | some l =>
      if l.length < n then (s, 3)
      else if sp = 0 then ((hostDramWrite s a (l.take n)).1, 0)
      else (putWords s sp a (wordsOf (n / 4) l), 0)
  else if sp = 0 then
    let r := hostDramRead s a n
    (toHostPut r.1 (hostAddr d) (hostBytes r.1.fab r.2.1), if readOk r.2.1 then 0 else 3)
  else if sp = 1 ∨ a / 2 ^ 24 = stkId s.fab then
    let r := getWords s (a % 2 ^ 24) (n / 4)
    (toHostPut r.1 (hostAddr d) (bytesOf r.2), 0)
  else (toHostPut s (hostAddr d) ((data.getD [] ++ List.replicate n 0).take n), 0)

/-- The end of a descriptor: STATUS written back, DMA_TAIL, DONE and the errors (R64, R65). -/
def dmaFinish (s : State) (c : Nat) (d : Desc) (code : Nat) (statusOk : Bool) : State :=
  let f := s.fab
  let tail := getF f (dmaAt c 0x10) 9 0
  let ring := rdN f (dmaAt c 0x04) * 2 ^ 32 + rdN f (dmaAt c 0x00)
  let s := if statusOk then toHostPut s (ring + 32 * tail + 0x18) (leBytes 4 (2 ^ 31 + code)) else s
  let s := { s with host := setJob s.host c none }
  onF s (fun f =>
    let f := if code = 0 then putF f (dmaAt c 0x10) 9 0 ((tail + 1) % max 1 (getF f (dmaAt c 0x08) 10 0)) else f
    let f := if code ≠ 0 then dmaError f c code else if !statusOk then dmaError f c 5 else f
    let f := if bit d.ctrl 1 then putB f (dmaAt c 0x18) 1 true else f
    let f := if getB f (dmaAt c 0x14) 0 then f else putB f (dmaAt c 0x18) 0 false
    serviceVec f (getF f (dmaAt c 0x14) 13 8))

/-- A started descriptor completes (R65). -/
def dmaComplete (s : State) (c : Nat) (data : Option (List Byte)) (statusOk : Bool) : State :=
  match dmaJob s.host c with
  | none => s
  | some j =>
    if j.code ≠ 0 then dmaFinish s c j.desc j.code statusOk
    else
      let r := dmaMove s j.desc data
      dmaFinish r.1 c j.desc r.2 statusOk

-- QSPI (R66 to R70)

/-- The QSPI target serves commands: HOST_SEL selects it, and no reset holds its island. -/
def qsServes (s : State) : Bool := hostQspi s.fab && !isHeld s
/-- The DRAM address of QSPI space 0b10 (R66). -/
def qsDram (f : Fabric) (a : Nat) : Nat := getF f (ra pHST 0x48) 1 0 * 2 ^ 30 + a % 2 ^ 30

/-- A QSPI write to offset o of space sp: whether it met an access error (R66, R69). -/
def qsWriteAt (s : State) (a sp o : Nat) (w : Word) : State × Bool :=
  if sp = 0 then (if o < 2 ^ 24 then hostWrite s 0 o .b32 (w.setWidth 64) else (accFail s 0 0 .unmapped o true, true))
  else if sp = 1 then stackAccess s 0 o (some w)
  else if sp = 2 then
    (if a % 4 ≠ 0 then (accFail s 0 2 .size (qsDram s.fab a) true, true) else hostDramWrite s (qsDram s.fab a) (leBytes 4 w.toNat))
  else (accFail s 0 0 .unmapped o true, true)

/-- A QSPI write is performed. -/
def qsWriteOne (s : State) (a : Nat) (w : Word) : State × Bool := qsWriteAt s a (a / 2 ^ 30) (a % 2 ^ 30) w

/-- The first posted write is performed (R69). -/
def qsPostedDone (s : State) : State :=
  match s.host.posted with
  | [] => s
  | (a, w) :: r =>
    let t := qsWriteOne { s with host := { s.host with posted := r } } a w
    { t.1 with host := { t.1.host with wrErr := t.1.host.wrErr || t.2 } }
/-- Every posted write is performed before a read (R51). -/
def qsDrain : Nat → State → State
  | 0, s => s
  | n + 1, s => qsDrain n (qsPostedDone s)

/-- Words of a write command are posted, or discarded while the device is not awake (R66, R69, R70). -/
def qsWrite (s : State) (a : Nat) (ws : List Word) : State :=
  if !qsServes s then s
  else if !qsAwake s then { s with host := { s.host with wrErr := s.host.wrErr || !ws.isEmpty } }
  else { s with host := { s.host with
    posted := s.host.posted ++ (ws.zipIdx).map (fun (e : Word × Nat) => ((a + 4 * e.2) % 2 ^ 32, e.1)) } }

/-- A word is answered with its preamble (R68). -/
def qsAnswer (s : State) (p : Byte) (w : Word) : State := { s with host := { s.host with out := s.host.out ++ [(p, w)] } }

/-- A read of offset o of space sp: none in the second part for a word that comes over the stack (R66, R68). -/
def qsReadAt (s : State) (a sp o : Nat) : State × Option Word :=
  let last (t : State × Bool) : State × Option Word := (t.1, some (BitVec.ofNat 32 (lastRead t.1 0)))
  if sp = 0 then (if o < 2 ^ 24 then last (hostRead s 0 o .b32) else (accFail s 0 0 .unmapped o false, some 0))
  else if sp = 1 then
    let r := stackAccess s 0 o none
    if o % 4 = 0 ∧ o / 2 ^ 24 ≠ stkId s.fab ∧ !r.2 then (r.1, none)
    else if o % 4 ≠ 0 then (r.1, some (BitVec.ofNat 32 (Config.unalignedRead 0 o).toNat))
    else last r
  else if sp = 2 then
    let d := qsDram s.fab a
    if a % 4 ≠ 0 then (accFail s 0 2 .size d false, some (BitVec.ofNat 32 (Config.unalignedRead 0 d).toNat))
    else
      let r := hostDramRead s d 4
      (r.1, some (BitVec.ofNat 32 (leNat (hostBytes r.1.fab r.2.1))))
  else (accFail s 0 0 .unmapped o false, some 0)

/-- A read of one word of a read command. -/
def qsReadOne (s : State) (a : Nat) : State × Option Word := qsReadAt s a (a / 2 ^ 30) (a % 2 ^ 30)

/-- The words of a read command, up to one that must be waited for. -/
def qsReadWords (s : State) (a : Nat) : Nat → State
  | 0 => s
  | n + 1 =>
    let tag := s.stk.nextTag
    let r := qsReadOne s a
    match r.2 with
    | some w => qsReadWords (qsAnswer r.1 0xA5 w) ((a + 4) % 2 ^ 32) n
    | none => { r.1 with host := { r.1.host with wait := some (tag, (a + 4) % 2 ^ 32, n) } }

/-- A read command (R66, R68, R70). -/
def qsRead (s : State) (a n : Nat) : State :=
  if !qsServes s then s
  else if !qsAwake s then
    { s with host := { s.host with active := true, wait := none, out := [(0x5A, 0)], ended := true } }
  else
    let s := qsDrain s.host.posted.length s
    qsReadWords { s with host := { s.host with active := true, wait := none, out := [], ended := false } } a n

/-- The word that a read command waits for has come over the stack; the command goes on. -/
def qsResume (s : State) (tag : Nat) (w : Word) : State :=
  match s.host.wait with
  | none => s
  | some x =>
    if x.1 = tag then qsReadWords (qsAnswer { s with host := { s.host with wait := none } } 0xA5 w) x.2.1 x.2.2 else s

/-- A word of a read command is not available within 32 µs (R68). -/
def qsTimeout (s : State) : State :=
  if qsServes s && s.host.active && !s.host.ended then
    let s := qsAnswer s 0x5A 0
    { s with host := { s.host with wait := none, ended := true, rdTimeout := true } }
  else s

/-- QS_CS_N rises (R69). -/
def qsEnd (s : State) (partialWord : Bool) : State :=
  if !qsServes s then s
  else { s with host := { s.host with active := false, wait := none, frameErr := s.host.frameErr || partialWord } }

/-- The commands STATUS and ID answer one word (R66, R67, R70). -/
def qsWord (s : State) (w : Word) : State :=
  if !qsServes s then s
  else { onF s (fun f => answer f 0 w.toNat) with host := { s.host with out := [(0, w)], active := false, wait := none } }
/-- CLR_STATUS clears the sticky bits (R66, R67). -/
def qsClear (s : State) : State :=
  if !qsServes s then s else { s with host := { s.host with wrErr := false, rdTimeout := false, frameErr := false } }

-- PCIe (R53, R55, R56)

/-- PERST_N asserted (R53, R55): HST returns to its reset values, every DMA channel stops, the host bridge is fenced. -/
def perstN (s : State) : State :=
  if hostQspi s.fab || isHeld s then s
  else
    let up := ready s.fab pHST
    let s := onF s (fun f => { putB (clearRegs f pHST) (ra pHST 0x0C) 0 up with armed := BitVec.allOnes 64 })
    fencePage { s with host := { s.host with jobs := [] } } pHST

/-- The PCIe link completes training, or drops (R56). -/
def pcieLink (s : State) (up : Bool) (gen width : Nat) : State :=
  if hostQspi s.fab || !isUp s then s
  else onF s (fun f => putF f (ra pHST 0x40) 8 0 (if up then 2 ^ 8 + width % 8 * 2 ^ 4 + gen % 16 else 0))

-- Remote accesses that this device performs (R427, R428)

/-- A REG_RD or REG_WR taken here is performed by the stack bridge requester and answered. -/
def serveRemote (s : State) (port : Nat) (m : BitVec 128) (write : Bool) : State :=
  let t := takeX s.fab s.stk port (if write then 0x11 else 0x10) m
  let s := { s with fab := t.1, stk := t.2.1 }
  if !t.2.2 then s
  else
    let a := nfld (msgPay m) 23 0
    let r := if write then hostWrite s 1 a .b32 (BitVec.ofNat 64 (nfld (msgPay m) 63 32)) else hostRead s 1 a .b32
    let data := if write then 0 else lastRead r.1 1
    onStk r.1 (fun f k => (f, sendX k (portTo f k (msgSrc m)) (regRspMsg f m data r.2)))

/-- A REG_RSP arrives: it completes the remote access, and a QSPI read that waits for it. -/
def remoteDone (s : State) (port : Nat) (m : BitVec 128) : State :=
  let tag := nfld (msgPay m) 31 24
  let n := s.stk.remote.length
  let s := onStk s (fun f k => regRsp f k port m)
  if s.stk.remote.length < n then qsResume s tag (BitVec.ofNat 32 (nfld (msgPay m) 63 32)) else s
/-- The oldest remote access has had no response within 20 µs (R428). -/
def remoteLate (s : State) : State :=
  match s.stk.remote with
  | [] => s
  | r :: _ => qsResume (onStk s remoteTimeout) r.tag 0

-- Core DMA (R279)

/-- The words of a core's DMA read, up to the first one with an uncorrectable error; whether it met none. -/
def coreDmaRead (s : State) (q bus n : Nat) : State × List Word × Bool :=
  if bus < dramTop then
    let full := dramReadyRange s.fab bus (4 * n)
    let r := dramRead s.fab s.mem q bus (4 * n)
    let good := if full then (r.2.2.takeWhile (fun e => !e.2)).length / 4 else 0
    ({ s with fab := r.1, mem := r.2.1 }, wordsOf good (rawBytes r.2.2), full && readOk r.2.2)
  else if bus < 0xF800_0000 then (s, (upto n).map (fun i => sharedWord s.mem (bus - 0xF000_0000 + 4 * i)), true)
  else
    let r := (upto n).foldl (fun (acc : State × List Word) i =>
      let t := (read32 acc.1 q (bus - 0xF800_0000 + 4 * i)).1
      (t, acc.2 ++ [BitVec.ofNat 32 (lastRead t q)])) (s, [])
    (r.1, r.2, true)

/-- The words of a core's DMA write; false where a DRAM channel is not READY (R472). -/
def coreDmaWrite (s : State) (q bus : Nat) (ws : List Word) : State × Bool :=
  if bus < dramTop then
    (onMem s (fun f m => dramWrite f m q bus (bytesOf ws)), dramReadyRange s.fab bus (4 * ws.length))
  else if bus < 0xF800_0000 then
    ({ s with mem := ws.zipIdx.foldl (fun (m : MemState) (e : Word × Nat) => sharedPut m (bus - 0xF000_0000 + 4 * e.2) e.1) s.mem }, true)
  else
    (ws.zipIdx.foldl (fun (t : State) (e : Word × Nat) => (write32 t q (bus - 0xF800_0000 + 4 * e.2) e.1).1) s, true)

/-- A core's DMA transfer ends (R279). -/
def coreDmaEnd (s : State) (c : Nat) : State :=
  match (coreOf s.cores c).dma with
  | none => s
  | some j =>
    let q := 2 + c / 4
    if j.code ≠ 0 then onCores s (fun f cs => dmaEnd f cs c j.code)
    else if j.out then
      let r := coreDmaWrite s q j.bus (dmaLocalRead (coreOf s.cores c) j)
      onCores r.1 (fun f cs => dmaEnd f cs c (if r.2 then 0 else 3))
    else
      let r := coreDmaRead s q j.bus j.words
      onCores r.1 (fun f cs =>
        dmaEnd f (setCore cs c (dmaLocalWrite (coreOf cs c) j r.2.1)) c (if r.2.2 then 0 else 3))

-- Unmapped accesses (R49, R58, R428, R472)

/-- An access to an address that no register, window, member or DRAM byte answers: it reads 0, discards its write and records
the error; an access that is answered is none. -/
def unmapped (s : State) (q : Nat) (space : Space) (addr : Nat) (write : Bool) : State :=
  let zero (s : State) : State := if write then s else onF s (fun f => answer f q 0)
  match space with
  | .bar0 =>
    if (if write then (busWrite s q (addr / 4 * 4) 0).2 else (peek s q (addr / 4 * 4)).isNone) then accFail (zero s) q 0 .unmapped addr write else s
  | .stackWindow =>
    if addr / 2 ^ 24 ≠ stkId s.fab ∧ !(isTimer s.fab && enabled s.fab pSTK && reachable s.fab s.stk (addr / 2 ^ 24)) then
      accFail (zero s) q 1 .unmapped addr write
    else s
  | .dram =>
    match dramFault s.fab addr 1 with
    | some k => accFail (zero s) q 2 k addr write
    | none => s

end Sys2Proof.Machine
end

