-- ==== Sys2Proof/Machine/Bus.lean ====
section
/-! DEFINITION. The bus matrix: arbitration, holding, responses in order, the DRAM controllers' choice of the next access, and
the completion of a fence (R466, R469 to R472, R477 to R486). -/
namespace Sys2Proof.Machine

/-- The paths that exist (R479). -/
def pathOk (m : Nat) (rt : Bool) (t : Nat) : Bool :=
  if m = 0 then t != 2
  else if m = 1 then decide (3 ≤ t)
  else if m ≤ 5 then true
  else if m = 7 then decide (t < 2) || !rt
  else decide (t < 2)

/-- The effective QoS of a request (R480). -/
def effQos (f : Fabric) (r : BusReq) : Nat :=
  if r.master = 7 ∧ r.rt then 15
  else
    let q := if r.master = 7 then getF f (ra pBUS 0xA0) 3 0 else getF f (ra pBUS (0x40 + 8 * r.master)) 3 0
    if r.aged then max q 14 else q

/-- The requests of a master that await a response. -/
def outCount (b : BusState) (m : Nat) : Nat := (b.outst.filter (fun o => o.1.master == m)).length

/-- The target can accept a request (R469, R481); a channel that is not READY answers at once (R472). -/
def targetTakes (f : Fabric) (m : MemState) (r : BusReq) : Bool :=
  match targetOf r.addr with
  | some t =>
    if t < 2 then !drcReady f t || decide ((if r.wdata.isSome then (drcOf m t).wq.length else (drcOf m t).rq.length) < 64) else true
  | none => false

/-- A held request may be granted now: the target accepts it, its master is below OUT_MAX, and no request of its ID is held
before it or outstanding at another target (R481, R482). -/
def grantable (f : Fabric) (m : MemState) (b : BusState) (i : Nat) (r : BusReq) : Bool :=
  targetTakes f m r && decide (outCount b r.master < getF f (ra pBUS (0x40 + 8 * r.master)) 14 8) &&
  !(b.held.take i).any (fun x => x.master == r.master && x.id == r.id) &&
  !b.outst.any (fun o => o.1.master == r.master && o.1.id == r.id && targetOf o.1.addr != targetOf r.addr)

/-- The turn of a master after the last one granted at a target (R480): 0 for the next one. -/
def turnOf (last m : Nat) : Nat := (m + 10 - (last + 1) % 10) % 10

/-- The place in the held list of the request that a target grants next (R480): the highest effective QoS, then round-robin
between masters, then the oldest. -/
def nextGrant (f : Fabric) (m : MemState) (b : BusState) (t : Nat) : Option Nat :=
  let last := getF f (ra pBUS (0xB0 + 4 * t)) 3 0
  let l := b.held.zipIdx.filter (fun (e : BusReq × Nat) => targetOf e.1.addr == some t && grantable f m b e.2 e.1)
  let better (x y : BusReq × Nat) : Bool :=
    decide (effQos f y.1 < effQos f x.1) || (effQos f x.1 == effQos f y.1 && decide (turnOf last x.1.master < turnOf last y.1.master))
  (l.foldl (fun (acc : Option (BusReq × Nat)) (e : BusReq × Nat) =>
    match acc with
    | none => some e
    | some w => if better e w then some e else acc) none).map (·.2)

-- Accesses at the targets other than DRAM

/-- Bytes of the shared SRAM written with strobes (R476). -/
def sharedStrobes (m : MemState) (off : Nat) (d : List (Byte × Bool)) : MemState :=
  d.zipIdx.foldl (fun (m : MemState) (e : (Byte × Bool) × Nat) =>
    if e.1.2 then { m with shared := mset zeroB m.shared (off + e.2) e.1.1 } else m) m

/-- Words written to BAR0 with strobes: a word with some of its strobes is a narrow write, one with none is no write (R46). -/
def fabWrite (s : State) (q a : Nat) : List (List (Byte × Bool)) → State
  | [] => s
  | w :: r =>
    let t :=
      if w.all (fun e => !e.2) then s
      else if w.all (fun e => e.2) ∧ w.length = 4 then (hostWrite s q a .b32 (BitVec.ofNat 64 (leNat (w.map (·.1))))).1
      else accFail s q 0 .size a true
    fabWrite t q (a + 4) r
/-- Cuts a list into pieces of four. -/
def fours {α : Type} : Nat → List α → List (List α)
  | 0, _ => []
  | n + 1, l => if l.isEmpty then [] else l.take 4 :: fours n (l.drop 4)
/-- Bytes read from BAR0: whole words, or one narrow access (R46, R47). -/
def fabRead (s : State) (q a n : Nat) : State × List Byte :=
  if n = 1 ∨ n = 2 then
    let r := (hostRead s q a (if n = 1 then .b8 else .b16)).1
    (r, leBytes n (lastRead r q))
  else
    (upto (n / 4)).foldl (fun (acc : State × List Byte) i =>
      let t := (hostRead acc.1 q (a + 4 * i) .b32).1
      (t, acc.2 ++ leBytes 4 (lastRead t q))) (s, [])

/-- A request is performed at the shared SRAM, the register fabric, the DSP memory port or the parameter memories. -/
def targetDo (s : State) (r : BusReq) : State × List Byte :=
  if r.addr < 0xF800_0000 then
    match r.wdata with
    | none => (s, mgets zeroB s.mem.shared (r.addr - 0xF000_0000) r.len)
    | some d => ({ s with mem := sharedStrobes s.mem (r.addr - 0xF000_0000) (d.take r.len) }, [])
  else
    let a := r.addr - 0xF800_0000
    match r.wdata with
    | none => fabRead s r.master a r.len
    | some d => (fabWrite s r.master a (fours r.len (d.take r.len)), [])

-- Progress of the matrix

/-- Changes the first outstanding entry that satisfies p. -/
def markFirst (p : BusReq × Option (List Byte × Bool) → Bool) (g : BusReq × Option (List Byte × Bool) → BusReq × Option (List Byte × Bool)) :
    List (BusReq × Option (List Byte × Bool)) → List (BusReq × Option (List Byte × Bool))
  | [] => []
  | e :: r => if p e then g e :: r else e :: markFirst p g r

/-- The data with which a request that its target has performed waits for its response. -/
def busDone (s : State) (r : BusReq) (d : List Byte) (poison : Bool) : State :=
  { s with bus := { s.bus with
    outst := markFirst (fun e => e.1 == r && e.2.isNone) (fun e => (e.1, some (d, poison))) s.bus.outst } }

/-- Outstanding requests that can complete without a DRAM access: those of the other targets with every beat, DRAM writes
that have left the write queue, and reads of a channel that is not READY, which read 0 (R472). -/
def busPerform (s : State) : State :=
  s.bus.outst.foldl (fun (s : State) (e : BusReq × Option (List Byte × Bool)) =>
    let r := e.1
    if e.2.isSome || !wholeReq r then s
    else match targetOf r.addr with
      | some t =>
        if 2 ≤ t then
          let x := targetDo s r
          busDone x.1 r x.2 false
        else if r.wdata.isSome && !(drcOf s.mem t).wq.contains r then busDone s r [] false
        else if r.wdata.isNone && !drcReady s.fab t then
          busDone { s with mem := setDrc s.mem t { drcOf s.mem t with rq := (drcOf s.mem t).rq.erase r } } r (List.replicate r.len 0) false
        else s
      | none => s) s

/-- The bytes of a response as its master receives them (R466). -/
def rspBytes (f : Fabric) (m : Nat) (poison : Bool) (d : List Byte) : List Byte :=
  if m = 0 ∧ poison then hostBytes f (d.map (fun b => (b, true))) else d

/-- The responses that are next in issue order for their master and ID are returned; those of a fenced ID are discarded (R482,
R486). -/
def busReturn : Nat → State → State
  | 0, s => s
  | n + 1, s =>
    let l := s.bus.outst
    let isNext (e : BusReq × Option (List Byte × Bool)) : Bool :=
      match l.find? (fun o => o.1.master == e.1.master && o.1.id == e.1.id) with
      | some o => o == e
      | none => false
    match l.find? (fun e => e.2.isSome && isNext e) with
    | none => s
    | some e =>
      let v := e.2.getD ([], false)
      let rsp : BusRsp := ⟨e.1.master, e.1.id, e.1.addr, rspBytes s.fab e.1.master v.2 v.1, v.2⟩
      let keep := s.bus.rsp.filter (fun r => !(r.master == e.1.master && r.id == e.1.id))
      let b := { s.bus with
        outst := l.erase e
        rsp := if isFenced s.bus e.1.master e.1.id then s.bus.rsp else keep ++ [rsp] }
      busReturn n { s with bus := b }

/-- A request is accepted by its target: a DRAM request enters its queue (R469) unless the channel is not READY (R472). -/
def busAccept (s : State) (t i : Nat) (r : BusReq) : State :=
  let b := { s.bus with held := s.bus.held.eraseIdx i, outst := s.bus.outst ++ [(r, none)] }
  let s := onF { s with bus := b } (fun f => putF f (ra pBUS (0xB0 + 4 * t)) 3 0 r.master)
  if t < 2 ∧ drcReady s.fab t then
    let d := drcOf s.mem t
    if r.wdata.isSome then
      onMem s (fun f m =>
        let m := setDrc m t { d with wq := d.wq ++ [r] }
        let x := batchHi f m t
        (showWq x.1 x.2 t, x.2))
    else { s with mem := setDrc s.mem t { d with rq := d.rq ++ [r] } }
  else s

/-- One round: what can complete completes, responses return, and every target grants at most one request. -/
def busRound (s : State) : State :=
  let s := busPerform s
  let s := busReturn s.bus.outst.length s
  (upto 6).foldl (fun (s : State) t =>
    match nextGrant s.fab s.mem s.bus t with
    | none => s
    | some i =>
      match s.bus.held[i]? with
      | none => s
      | some r => busAccept s t i r) s

/-- Rounds until none changes anything. -/
def busPump : Nat → State → State
  | 0, s => s
  | n + 1, s =>
    let t := busRound s
    if t.bus.held.length = s.bus.held.length ∧ t.bus.outst.length = s.bus.outst.length then t else busPump n t

/-- The matrix settles, and shows its status (R487). -/
def busSettle (s : State) : State :=
  let s := busPump (s.bus.held.length + s.bus.outst.length + 2) s
  let s := onMem s (fun f m => trackGo f m 0)
  let s := onMem s (fun f m => trackGo f m 1)
  onF s (fun f => showBus f s.bus)

-- The commands

/-- Beats added to a write whose address has been issued and whose data is not complete. -/
def moreBeats (s : State) (m i a : Nat) (d : List (Byte × Bool)) : Option State :=
  let mine (r : BusReq) : Bool := r.master == m && r.id == i && r.addr == a && !wholeReq r
  let add (r : BusReq) : BusReq := { r with wdata := some (r.wdata.getD [] ++ d) }
  if s.bus.held.any mine then
    some { s with bus := { s.bus with held := s.bus.held.map (fun r => if mine r then add r else r) } }
  else if s.bus.outst.any (fun e => e.2.isNone && mine e.1) then
    let q (l : List BusReq) : List BusReq := l.map (fun r => if mine r then add r else r)
    let dr (c : Drc) : Drc := { c with wq := q c.wq }
    some { s with
      bus := { s.bus with outst := s.bus.outst.map (fun e => if e.2.isNone && mine e.1 then (add e.1, none) else e) }
      mem := { s.mem with ch0 := dr s.mem.ch0, ch1 := dr s.mem.ch1 } }
  else none

/-- A master issues a request, or delivers further beats of a write (R477 to R482). A request without a path is refused at the
master (R479), one of a fenced ID is discarded (R485), and one to a DRAM channel that is not READY is answered at once
(R472, R486). -/
def busRequest (s : State) (r : BusReq) : State :=
  match r.wdata.bind (fun d => moreBeats s r.master r.id r.addr d) with
  | some t => busSettle t
  | none =>
    match targetOf r.addr with
    | none => s
    | some t =>
      if !pathOk r.master r.rt t || isFenced s.bus r.master r.id then s
      else if t < 2 ∧ !drcReady s.fab t then
        let s := if r.master = 0 then accFail s 0 2 .notReady r.addr r.wdata.isSome else s
        let data := if r.wdata.isSome then [] else List.replicate r.len (0 : Byte)
        busSettle { s with bus := { s.bus with outst := s.bus.outst ++ [(r, some (data, false))] } }
      else busSettle { s with bus := { s.bus with held := s.bus.held ++ [r] } }

/-- The oldest request that waits, in a DRAM read queue or held, has waited longer than AGE_LIMIT (R480). -/
def busAge (s : State) : State :=
  let old (r : BusReq) : BusReq := { r with aged := true }
  let young (r : BusReq) : Bool := !r.aged && !(r.master == 7 && r.rt)
  let inRq (r : BusReq) : Bool := s.mem.ch0.rq.contains r || s.mem.ch1.rq.contains r
  let note (s : State) : State := onF s (fun f => raise (bump f (ra pBUS 0xD0)) pBUS 4)
  match s.bus.outst.find? (fun e => e.2.isNone && young e.1 && inRq e.1) with
  | some e =>
    let r := e.1
    let q (c : Drc) : Drc := { c with rq := c.rq.map (fun x => if x == r then old x else x) }
    note { s with
      bus := { s.bus with outst := s.bus.outst.map (fun o => if o.2.isNone && o.1 == r then (old o.1, none) else o) }
      mem := { s.mem with ch0 := q s.mem.ch0, ch1 := q s.mem.ch1 } }
  | none =>
    match s.bus.held.find? young with
    | none => s
    | some r => note { s with bus := { s.bus with held := s.bus.held.map (fun x => if x == r then old x else x) } }

/-- The read a controller issues next (R469): the oldest of the highest effective QoS whose line no write with beats owed
holds (R470). -/
def nextRead (f : Fabric) (d : Drc) : Option BusReq :=
  (d.rq.filter (fun r => !d.wq.any (fun w => lineOf w.addr == lineOf r.addr && !wholeReq w))).foldl
    (fun (acc : Option BusReq) r =>
      match acc with
      | none => some r
      | some b => if effQos f b < effQos f r then some r else acc) none

/-- A read leaves the queue and is performed (R465, R469, R470). -/
def readLine (s : State) (ch : Nat) (r : BusReq) : State :=
  let s := { s with mem := setDrc s.mem ch { drcOf s.mem ch with rq := (drcOf s.mem ch).rq.erase r } }
  let x := dramLine s.fab s.mem (lineOf r.addr) r.master (decide (r.master = 9))
  let d := (x.2.2.drop (r.addr % 64)).take r.len
  busDone { s with fab := x.1, mem := x.2.1 } r (rawBytes d) (!readOk d)

/-- A batch may start (R469). -/
def batchCheck (s : State) (ch : Nat) : State := onMem s (fun f m => batchHi f m ch)

/-- The controller issues a read (R469): none while a write batch runs. -/
def dramReadCmd (s : State) (ch : Nat) : State :=
  if !drcReady s.fab ch || (drcOf s.mem ch).batch then s
  else
    let s := { s with mem := dueFirst s.mem ch }
    match nextRead s.fab (drcOf s.mem ch) with
    | none => s
    | some r => busSettle (batchCheck (readLine s ch r) ch)

/-- The controller issues the oldest write (R469): in a batch, or with no read waiting. -/
def dramWriteCmd (s : State) (ch : Nat) : State :=
  let d := drcOf s.mem ch
  if !drcReady s.fab ch || !(d.batch || d.rq.isEmpty) then s
  else match d.wq with
    | [] => s
    | w :: rest =>
      if !wholeReq w then s
      else
        let s := { s with mem := dueFirst s.mem ch }
        let s := { s with mem := setDrc s.mem ch { drcOf s.mem ch with wq := rest } }
        let s := onMem s (fun f m => performWrite f m w)
        let s := { s with mem := batchLo s.fab s.mem ch }
        busSettle (onF s (fun f => showWq f s.mem ch))

/-- A write batch ends by time, or the time that reads then had has passed (R469); one that has reached LO has ended. -/
def batchEnd (s : State) (ch : Nat) (timed : Bool) : State :=
  let d := drcOf s.mem ch
  let s :=
    if !timed then { s with mem := batchLo s.fab s.mem ch }
    else if d.batch then { s with mem := setDrc s.mem ch { d with batch := false, readsFirst := !d.rq.isEmpty } }
    else { s with mem := setDrc s.mem ch { d with readsFirst := false } }
  busSettle (batchCheck s ch)

/-- A fenced request that its target has accepted completes there (R485): a write with every beat still owed deasserted, a
read with its data discarded. -/
def fenceOne (s : State) (r : BusReq) : State :=
  match targetOf r.addr with
  | none => s
  | some t =>
    if 2 ≤ t then (if r.wdata.isSome then (targetDo s r).1 else s)
    else if r.wdata.isSome then
      if (drcOf s.mem t).wq.contains r then
        let s := { s with mem := setDrc s.mem t { drcOf s.mem t with wq := (drcOf s.mem t).wq.erase r } }
        let s := onMem s (fun f m => performWrite f m r)
        let s := { s with mem := batchLo s.fab s.mem t }
        onF s (fun f => showWq f s.mem t)
      else s
    else if (drcOf s.mem t).rq.contains r then readLine s t r
    else s

/-- The oldest fence completes (R485). -/
def fenceEnd (s : State) : State :=
  match s.bus.fences with
  | [] => s
  | c :: rest =>
    let mine (r : BusReq) : Bool := fenceHas c r.master r.id
    let s := s.bus.outst.foldl (fun (s : State) (e : BusReq × Option (List Byte × Bool)) =>
      if mine e.1 && e.2.isNone then fenceOne s e.1 else s) s
    let s := { s with bus := { s.bus with outst := s.bus.outst.filter (fun e => !mine e.1), fences := rest } }
    busSettle (onF s (fun f => raise f pBUS 3))

end Sys2Proof.Machine
end

