-- ==== Sys2Proof/Machine/Gate.lean ====
section
/-! DEFINITION. The guards that the commands share: the clocks a command needs, and READY of the page a register write goes
to (R42, R54, R489, R510). -/
namespace Sys2Proof.Machine

/-- A write of a block register: discarded with NOT_READY where its page does not accept writes (R42, R54). -/
def gated (s : State) (p off : Nat) (t : State) : State := if takesWrites s.fab p then t else failOn s p 1 off

/-- A write of a block register by a requester, in the states whose islands serve the register fabric. -/
def whenReg (s : State) (p off : Nat) (t : State) : Out := whenUp s (gated s p off t)

/-- The sample clock runs: PT has its clocks, and the PLLs hold lock (R33, R489, R510). -/
def clocked (s : State) : Bool := isUp s && s.pwr.locked
/-- A command of the sample clock. -/
def whenClk (s t : State) : Out := whenB (clocked s) s t
/-- A command of the engine, in a state that clocks EN. -/
def whenEng (s t : State) : Out := whenB (clocked s && isActive s) s t

/-- A change of a reference's monitor, after which the selection is re-evaluated (R330). -/
def refStep (s : State) (g : Fabric → RefState → Fabric × RefState) : State := onRef (onRef s g) refSelect

/-- The wall MSC at which the next block begins (R165). -/
def nextBlock (f : Fabric) : Nat := blockStart f + blockLen f

end Sys2Proof.Machine
end

