-- ==== Sys2Proof/Machine/DoCores.lean ====
section
/-! DEFINITION. The commands of the Cheba cores (table rows BUNDLE_ISSUE to CORE_START): a command of an instruction issues a
bundle that holds it alone, with the other slots empty (R262, R265). -/
namespace Sys2Proof.Machine

/-- A core issues a bundle that holds one compute operation (R262, R265). -/
def issueComp (s : State) (c : Nat) (o : Comp) : State := onCores s (fun f cs => issue f cs c (compBundle o) false)
/-- A core issues a bundle that holds one move (R262, R263). -/
def issueMove (s : State) (c : Nat) (m : MSlot) : State := onCores s (fun f cs => issue f cs c (moveBundle m) false)

/-- BUNDLE_ISSUE (R262): the next bundle of program memory; memErr tells of an uncorrectable fetch or load (R288, R476). -/
def execBundleIssue (c : Nat) (memErr : Bool) (s : State) : Out := whenActive s (onCores s (fun f cs => issueNext f cs c memErr))
/-- NOP (R265). -/
def execNop (c : Nat) (s : State) : Out := whenActive s (issueComp s c .nop)
/-- MAC (R255, R265). -/
def execMac (c : Nat) (a x1 y1 x2 y2 : Nat) (neg clr single : Bool) (s : State) : Out := whenActive s (issueComp s c (.mac a x1 y1 x2 y2 neg clr single))
/-- ADDA (R265). -/
def execAdda (c : Nat) (ad as_ : Nat) (s : State) : Out := whenActive s (issueComp s c (.adda ad as_))
/-- SUBA (R265). -/
def execSuba (c : Nat) (ad as_ : Nat) (s : State) : Out := whenActive s (issueComp s c (.suba ad as_))
/-- RND (R256, R265). -/
def execRnd (c : Nat) (dd as_ : Nat) (sh : BitVec 5) (s : State) : Out := whenActive s (issueComp s c (.rnd dd as_ sh.toInt))
/-- MVDA (R265). -/
def execMvda (c : Nat) (ad ds : Nat) (s : State) : Out := whenActive s (issueComp s c (.mvda ad ds))
/-- ASHA (R265). -/
def execAsha (c : Nat) (ad as_ : Nat) (sh : BitVec 7) (s : State) : Out := whenActive s (issueComp s c (.asha ad as_ sh.toInt))
/-- CLRA (R265). -/
def execClra (c : Nat) (ad : Nat) (s : State) : Out := whenActive s (issueComp s c (.clra ad))
/-- ADD (R257, R265). -/
def execAdd (c : Nat) (dd s1 s2 : Nat) (s : State) : Out := whenActive s (issueComp s c (.alu .add dd s1 s2))
/-- ADDS (R257, R265). -/
def execAdds (c : Nat) (dd s1 s2 : Nat) (s : State) : Out := whenActive s (issueComp s c (.alu .adds dd s1 s2))
/-- SUB (R257, R265). -/
def execSub (c : Nat) (dd s1 s2 : Nat) (s : State) : Out := whenActive s (issueComp s c (.alu .sub dd s1 s2))
/-- SUBS (R257, R265). -/
def execSubs (c : Nat) (dd s1 s2 : Nat) (s : State) : Out := whenActive s (issueComp s c (.alu .subs dd s1 s2))
/-- AND (R257, R265). -/
def execAnd (c : Nat) (dd s1 s2 : Nat) (s : State) : Out := whenActive s (issueComp s c (.alu .and dd s1 s2))
/-- OR (R257, R265). -/
def execOr (c : Nat) (dd s1 s2 : Nat) (s : State) : Out := whenActive s (issueComp s c (.alu .or dd s1 s2))
/-- XOR (R257, R265). -/
def execXor (c : Nat) (dd s1 s2 : Nat) (s : State) : Out := whenActive s (issueComp s c (.alu .xor dd s1 s2))
/-- ASR (R257, R265). -/
def execAsr (c : Nat) (dd ds n : Nat) (s : State) : Out := whenActive s (issueComp s c (.shift .asr dd ds n))
/-- LSR (R257, R265). -/
def execLsr (c : Nat) (dd ds n : Nat) (s : State) : Out := whenActive s (issueComp s c (.shift .lsr dd ds n))
/-- LSL (R257, R265). -/
def execLsl (c : Nat) (dd ds n : Nat) (s : State) : Out := whenActive s (issueComp s c (.shift .lsl dd ds n))
/-- ABS (R257, R265). -/
def execAbs (c : Nat) (dd ds : Nat) (s : State) : Out := whenActive s (issueComp s c (.abs dd ds))
/-- NEG (R257, R265). -/
def execNeg (c : Nat) (dd ds : Nat) (s : State) : Out := whenActive s (issueComp s c (.neg dd ds))
/-- MIN (R257, R265). -/
def execMin (c : Nat) (dd s1 s2 : Nat) (s : State) : Out := whenActive s (issueComp s c (.alu .min dd s1 s2))
/-- MAX (R257, R265). -/
def execMax (c : Nat) (dd s1 s2 : Nat) (s : State) : Out := whenActive s (issueComp s c (.alu .max dd s1 s2))
/-- CMP (R257, R265). -/
def execCmp (c : Nat) (s1 s2 : Nat) (s : State) : Out := whenActive s (issueComp s c (.cmp s1 s2))
/-- MULR (R257, R265). -/
def execMulr (c : Nat) (dd s1 s2 : Nat) (s : State) : Out := whenActive s (issueComp s c (.alu .mulr dd s1 s2))
/-- MULI (R257, R265). -/
def execMuli (c : Nat) (dd s1 s2 : Nat) (s : State) : Out := whenActive s (issueComp s c (.alu .muli dd s1 s2))
/-- BR (R265, R269). -/
def execBr (c : Nat) (cc : Nat) (off : BitVec 16) (s : State) : Out := whenActive s (issueComp s c (.br cc off.toNat))
/-- CALL (R265, R269). -/
def execCall (c : Nat) (cc : Nat) (off : BitVec 16) (s : State) : Out := whenActive s (issueComp s c (.call cc off.toNat))
/-- JR (R265, R269). -/
def execJr (c : Nat) (cc ds : Nat) (s : State) : Out := whenActive s (issueComp s c (.jr cc ds))
/-- LOOP (R265, R270). -/
def execLoop (c : Nat) (k ds end_ : Nat) (s : State) : Out := whenActive s (issueComp s c (.loop k ds end_))
/-- LOOPI (R265, R270). -/
def execLoopi (c : Nat) (k : Nat) (n : BitVec 16) (end_ : Nat) (s : State) : Out := whenActive s (issueComp s c (.loopi k n.toNat end_))
/-- LDI (R252, R265). -/
def execLdi (c : Nat) (code : Nat) (imm : Word) (s : State) : Out := whenActive s (issueComp s c (.ldi code imm))
/-- RTI (R273). -/
def execRti (c : Nat) (s : State) : Out := whenActive s (issueComp s c .rti)
/-- WAIT (R274). -/
def execWait (c : Nat) (s : State) : Out := whenActive s (issueComp s c .wait)
/-- BDONE (R282). -/
def execBdone (c : Nat) (s : State) : Out := whenActive s (issueComp s c .bdone)
/-- HALT (R288). -/
def execHalt (c : Nat) (s : State) : Out := whenActive s (issueComp s c .halt)
/-- MVTS (R277). -/
def execMvts (c : Nat) (spec ds : Nat) (s : State) : Out := whenActive s (issueComp s c (.mvts spec ds))
/-- MVFS (R277). -/
def execMvfs (c : Nat) (dd spec : Nat) (s : State) : Out := whenActive s (issueComp s c (.mvfs dd spec))
/-- MOV (R252, R263). -/
def execMov (c : Nat) (dst src : Nat) (s : State) : Out := whenActive s (issueMove s c (.mov dst src))
/-- LDX (R261, R263). -/
def execLdx (c : Nat) (i pm reg : Nat) (s : State) : Out := whenActive s (issueMove s c (.mem false false i pm reg))
/-- STX (R261, R263). -/
def execStx (c : Nat) (i pm reg : Nat) (s : State) : Out := whenActive s (issueMove s c (.mem false true i pm reg))
/-- LDY (R261, R263). -/
def execLdy (c : Nat) (i pm reg : Nat) (s : State) : Out := whenActive s (issueMove s c (.mem true false i pm reg))
/-- STY (R261, R263). -/
def execSty (c : Nat) (i pm reg : Nat) (s : State) : Out := whenActive s (issueMove s c (.mem true true i pm reg))
/-- MODX (R261, R263). -/
def execModx (c : Nat) (i pm : Nat) (s : State) : Out := whenActive s (issueMove s c (.mem false false i pm 0x1F))
/-- MODY (R261, R263). -/
def execMody (c : Nat) (i pm : Nat) (s : State) : Out := whenActive s (issueMove s c (.mem true false i pm 0x1F))
/-- SETP (R263). -/
def execSetp (c : Nat) (i : Nat) (v : BitVec 9) (s : State) : Out := whenActive s (issueMove s c (.imm (0x20 + i) v.toInt))
/-- SETM (R263). -/
def execSetm (c : Nat) (i : Nat) (v : BitVec 9) (s : State) : Out := whenActive s (issueMove s c (.imm (0x28 + i) v.toInt))
/-- SETL (R263). -/
def execSetl (c : Nat) (i : Nat) (v : BitVec 9) (s : State) : Out := whenActive s (issueMove s c (.imm (0x30 + i) v.toInt))
/-- SETD (R263). -/
def execSetd (c : Nat) (i : Nat) (v : BitVec 9) (s : State) : Out := whenActive s (issueMove s c (.imm i v.toInt))
/-- INTERRUPT_ENTRY (R272, R273). -/
def execInterruptEntry (c : Nat) (s : State) : Out := whenActive s (onCores s (fun f cs => (f, coreInterrupt f cs c)))
/-- CORE_WAKE (R274): slept is the number of cycles since the WAIT or the block tick, whichever came later. -/
def execCoreWake (c slept : Nat) (s : State) : Out := whenActive s (onCores s (fun f cs => coreWake f cs c slept))
/-- CORE_TIMER (R277). -/
def execCoreTimer (c : Nat) (s : State) : Out := whenActive s (onCores s (fun f cs => (f, coreTimer f cs c)))
/-- MAILBOX_WRITE (R278): a write of MBX_IN. -/
def execMailboxWrite (_q : Req) (c : Nat) (v : Word) (s : State) : Out :=
  whenReg s (pDSP c) 0x58 (onCores s (fun f cs => mailboxWrite f cs c v))
/-- EVT_RAISE (R276). -/
def execEvtRaise (_q : Req) (c : Nat) (v : Word) (s : State) : Out :=
  whenReg s (pDSP c) 0x64 (onCores s (fun f cs => evtRaise f cs c v))
/-- CORE_DMA_END (R279). -/
def execCoreDmaEnd (c : Nat) (s : State) : Out := whenActive s (coreDmaEnd s c)
/-- DSP_ENABLE_WRITE (R287, R291). -/
def execDspEnableWrite (_q : Req) (c : Nat) (on : Bool) (s : State) : Out := whenUp s (dspEnableWrite s c on)
/-- CORE_START (R287). -/
def execCoreStart (c : Nat) (s : State) : Out := whenActive s (onCores s (fun f cs => coreStart f cs c))

end Sys2Proof.Machine
end

