-- ==== Sys2Proof/Machine/DoEngine.lean ====
section
/-! DEFINITION. The commands of the path engine, the matrix, safe-load, scenes, the speaker chains and input conditioning
(table rows GEOMETRY_TICK to SLIP_PLACE). -/
namespace Sys2Proof.Machine

/-- GEOMETRY_TICK (R78). -/
def execGeometryTick (s : State) : Out := whenEng s (geometryTick s)
/-- APPEND (R86, R143, R144): SEG_PUSH with MODE APPEND. -/
def execAppend (q : Req) (tns msc : Bool) (s : State) : Out := whenUp s (segPush s q.code tns msc 1)
/-- REPLACE (R88, R143, R144): SEG_PUSH with MODE REPLACE. -/
def execReplace (q : Req) (tns msc : Bool) (s : State) : Out := whenUp s (segPush s q.code tns msc 2)
/-- OBJ_POS_READ (R147): a read of OBJ_POS_X. -/
def execObjPosRead (q : Req) (o : Nat) (s : State) : Out :=
  whenUp s (read32 s q.code (ra (169 + o / 128) (0x40 + 0x10 * (o % 128)))).1
/-- PRALINE_CTRL_WRITE (R120, R123). -/
def execPralineCtrlWrite (_q : Req) (o : Nat) (v : Word) (s : State) : Out := whenUp s (onF s (fun f => pralineWrite f o v))

/-- MAP_WRITE (R151). -/
def execMapWrite (_q : Req) (dst : Bool) (i : Nat) (v : Word) (s : State) : Out := whenUp s (onF s (fun f => mapWrite f dst i v))
/-- NODE_WRITE (R155). -/
def execNodeWrite (q : Req) (g : Word) (s : State) : Out := whenUp s (onF s (fun f => nodeWrite f s.mtx q.code g))
/-- NODE_READ (R155). -/
def execNodeRead (q : Req) (s : State) : Out := whenUp s (onF s (fun f => nodeRead f q.code))

/-- A step of a route that has waited T samples without a crossing counts one timeout (R161). -/
def routeTimeout (f : Fabric) (m : MtxState) (k : RouteKey) (w : Nat) : Fabric × MtxState :=
  let late (t : Trans) : Bool := t.key == k && !t.route && t.crossed.isNone && !t.timed && t.start.any (fun s => decide (s + t.tmo ≤ w))
  if m.trans.any late then
    (bump (raise f pMTX 2) (ra pMTX 0x878), { m with trans := m.trans.map (fun t => if late t then { t with timed := true } else t) })
  else (f, m)
/-- ZC_TIMEOUT (R161, R213). -/
def execZcTimeout (k : TransKey) (s : State) : Out :=
  match k with
  | .route r => whenEng s (onMtx s (fun f m => routeTimeout f m r (nextBlock f)))
  | .chain n => whenEng s (onChains s (fun f x => chainTimeout f x n.val (nextBlock f)))
/-- The head of the queue takes a slot at position 0 of the next block, where one is free and capacity allows (R165, R166). -/
def transStart (f : Fabric) (m : MtxState) : MtxState :=
  match nextQueued f m.trans with
  | none => m
  | some t => { m with trans := m.trans.map (fun u => if u == t then { u with start := some (nextBlock f) } else u) }
/-- TRANSITION_START (R165, R166). -/
def execTransitionStart (s : State) : Out := whenEng s { s with mtx := transStart s.fab s.mtx }
/-- The transition of a route that has reached its last sample frees its slot (R165). -/
def transEnd (f : Fabric) (m : MtxState) (k : RouteKey) : MtxState :=
  { m with trans := m.trans.filter (fun t =>
      !(t.key == k && !waiting t (nextBlock f - t.start.getD 0) && t.start.any (fun s => decide (s + transLen t ≤ nextBlock f)))) }
/-- TRANSITION_END (R165). -/
def execTransitionEnd (k : RouteKey) (s : State) : Out := whenEng s { s with mtx := transEnd s.fab s.mtx k }
/-- LOAD_MERGE (R158). -/
def execLoadMerge (_q : Req) (s : State) : Out := whenUp s (opCommand s .ld 1)
/-- LOAD_REPLACE (R158). -/
def execLoadReplace (_q : Req) (s : State) : Out := whenUp s (opCommand s .ld 2)
/-- CLEAR (R158). -/
def execClear (_q : Req) (s : State) : Out := whenUp s (opCommand s .ld 3)
/-- The end of an LD operation over the state (R158, R159). -/
def ldComplete (s : State) : State :=
  let r := ldEnd s.fab s.mem s.mtx
  { s with fab := r.1, mem := r.2.1, mtx := r.2.2 }
/-- LD_END (R159). -/
def execLdEnd (s : State) : Out := whenUp s (ldComplete s)
/-- XR_WRITE (R169): XR_ACCESS.WRITE. -/
def execXrWrite (q : Req) (s : State) : Out := whenUp s (onF s (fun f => xrWrite f s.mtx q.code))
/-- XR_READ (R169): XR_ACCESS.READ. -/
def execXrRead (q : Req) (s : State) : Out := whenReg s pMTX 0x8D0 (onF s (fun f => xrRead f q.code))

/-- BANK_CTRL_WRITE (R172): a header register of a controller page. -/
def execBankCtrlWrite (_q : Req) (page : Nat) (v : Word) (s : State) : Out := whenUp s (onF s (fun f => bankCtrlWrite f page v))
/-- SWAP_ARM (R174, R175). -/
def execSwapArm (_q : Req) (g : Fin 16) (s : State) : Out := whenUp s (opCommand s (.swap g) 1)
/-- SWAP_COMMIT (R176). -/
def execSwapCommit (g : Nat) (s : State) : Out := whenUp s (swapCommit s g)
/-- BANK_SWAP (R177). -/
def execBankSwap (s : State) : Out := whenUp s (bankSwap s)
/-- SWAP_COPY_DONE (R178). -/
def execSwapCopyDone (g : Nat) (s : State) : Out := whenUp s (onF s (fun f => swapCopyDone f g))
/-- SAVE (R181). -/
def execSave (_q : Req) (s : State) : Out := whenUp s (opCommand s .scene 1)
/-- RECALL (R181). -/
def execRecall (_q : Req) (s : State) : Out := whenUp s (opCommand s .scene 2)
/-- CHECK (R181). -/
def execCheck (_q : Req) (s : State) : Out := whenUp s (opCommand s .scene 3)
/-- SCENE_OP_END (R183). -/
def execSceneOpEnd (s : State) : Out := whenUp s (sceneEnd s)

/-- CH_CTRL_WRITE (R190, R199). -/
def execChCtrlWrite (_q : Req) (n : Nat) (v : Word) (s : State) : Out :=
  whenReg s (192 + n / 16) (0x40 + 0x80 * (n % 16)) (onF s (fun f => chCtrlWrite f n v))
/-- CNV_CFG_WRITE (R199, R221). -/
def execCnvCfgWrite (_q : Req) (n : Nat) (v : Word) (s : State) : Out :=
  whenReg s (257 + n / 256) (0x40 + 8 * (n % 256)) (onF s (fun f => cnvCfgWrite f n v))
/-- LOAD (R203). -/
def execLoad (_q : Req) (s : State) : Out := whenUp s (opCommand s .cnvLoad 1)
/-- LOAD_END (R204). -/
def execLoadEnd (s : State) : Out := whenUp s (onMem s loadEnd)

/-- INC_CH_WRITE (R245): CH_CFG, or CH_SRC where src is true. -/
def execIncChWrite (_q : Req) (c : Nat) (src : Bool) (v : Word) (s : State) : Out :=
  whenReg s (128 + c / 64) (0x40 + 0x20 * (c % 64) + 4 * src.toNat) (onF s (fun f => incChWrite f c src v))
/-- RESYNC (R240): CH_CMD. -/
def execResync (_q : Req) (c : Nat) (v : Word) (s : State) : Out :=
  whenReg s (128 + c / 64) (0x54 + 0x20 * (c % 64)) (onInc s (fun f x => incResync f x c v))
/-- CONDITIONING_WARMUP_END (R241): SETTLING and RAMP as the next sample finds them. -/
def execConditioningWarmupEnd (c : Nat) (s : State) : Out := whenEng s (onF s (fun f => incStat f s.inc c s.inc.next))
/-- CONDITIONING_RAMP_END (R241). -/
def execConditioningRampEnd (c : Nat) (s : State) : Out := whenEng s (onF s (fun f => incStat f s.inc c s.inc.next))
/-- The fade-out of a group whose 32 samples have passed is over, and its channels carry 0 (R234). -/
def grpFadeEnd (x : IncState) (g : Nat) : IncState :=
  let v := incGrp x g
  if v.fade.any (fun s => decide (s + 32 ≤ x.next)) then setGrp x g { v with fade := none } else x
/-- CONDITIONING_FADE_END (R234). -/
def execConditioningFadeEnd (g : Nat) (s : State) : Out := whenEng s { s with inc := grpFadeEnd s.inc g }
/-- ASRC_MEASURE_END (R229, R230). -/
def execAsrcMeasureEnd (g : Nat) (s : State) : Out := whenEng s (onInc s (fun f x => measureEnd f x g x.next))
/-- ASRC_FAST_END (R230). -/
def execAsrcFastEnd (g : Nat) (s : State) : Out := whenEng s (onInc s (fun f x => (f, fastEnd f x g x.next)))
/-- ASRC_LOOP_UPDATE (R231). -/
def execAsrcLoopUpdate (g : Nat) (s : State) : Out := whenEng s (onInc s (fun f x => loopUpdate f x g x.next))
/-- SLIP_PLACE (R235, R236, R353, R388). -/
def execSlipPlace (t : SlipTarget) (s : State) : Out :=
  match t with
  | .group g => whenEng s (onInc s (fun f x => slipPlace f x g.val))
  | .port i out => whenClk s (onPorts s (fun f x => portSlip f x i.val out))
  | .stream n => whenClk s (onStrm s (fun f x => strmSlip f x n.val))

end Sys2Proof.Machine
end

