-- ==== Sys2Proof/Machine/DoFabric.lean ====
section
/-! DEFINITION. The commands of the clocks, of the register fabric and of the whole-device resets (table rows SAMPLE_TICK to
VEC_EOI, COUNTER_CLEAR, OP_ABORT and SYSTEM_PLL_LOCK). -/
namespace Sys2Proof.Machine

/-- SAMPLE_TICK (R33, R301). -/
def execSampleTick (phase : Nat) (s : State) : Out := whenClk s (sampleTick s phase)
/-- BLOCK_TICK (R19, R33). -/
def execBlockTick (phase : Nat) (fails : List MemFail) (s : State) : Out := whenEng s (blockTick s phase fails)
/-- SESSION_CFG_WRITE (R28, R29). -/
def execSessionCfgWrite (_q : Req) (v : Word) (s : State) : Out := whenUp s (onF s (fun f => sessionCfgWrite f v))
/-- REGISTER_WRITE (R14, R46). -/
def execRegisterWrite (q : Req) (addr : Nat) (z : AccSize) (v : BitVec 64) (s : State) : Out :=
  whenUp s (hostWrite s q.code addr z v).1
/-- WINDOW_WRITE (R47, R119). -/
def execWindowWrite (q : Req) (addr : Nat) (z : AccSize) (v : BitVec 64) (s : State) : Out :=
  whenUp s (hostWrite s q.code addr z v).1
/-- UNMAPPED_ACCESS (R49, R50, R58, R428). -/
def execUnmappedAccess (q : Req) (space : Space) (addr : Nat) (write : Bool) (s : State) : Out :=
  whenUp s (unmapped s q.code space addr write)
/-- PAIR_READ (R46, R48). -/
def execPairRead (q : Req) (addr : Nat) (z : AccSize) (s : State) : Out := whenUp s (hostRead s q.code addr z).1
/-- PAGE_ENABLE_WRITE (R42). -/
def execPageEnableWrite (_q : Req) (page : Nat) (on : Bool) (s : State) : Out := whenUp s (pageEnable s page on)
/-- SOFT_RST (R53, R54, R75, R484). -/
def execSoftRst (_q : Req) (page : Nat) (s : State) : Out := whenUp s (softRst s page)
/-- SOFT_RST_DONE (R54). -/
def execSoftRstDone (page : Nat) (s : State) : Out := whenUp s (softRstDone s page)
/-- CHIP_RESET (R53): SYS.RST_CTRL.CHIP. -/
def execChipReset (_q : Req) (x : Straps) (s : State) : Out := whenReg s pSYS 0x48 (chipReset s x)
/-- RESET_N_ASSERT (R503, R509). -/
def execResetNAssert (hot : Bool) (s : State) : Out := .next (resetAssert s hot)
/-- RESET_N_RELEASE (R509). -/
def execResetNRelease (x : Straps) (s : State) : Out := .next (resetRelease s x)
/-- PWRGOOD_FALL (R569). -/
def execPwrgoodFall (s : State) : Out := .next (pwrgoodFall s)
/-- PWRGOOD_RISE (R569). -/
def execPwrgoodRise (x : Straps) (s : State) : Out := .next (pwrgoodRise s x)
/-- VDDIO_A_RISE (R528). -/
def execVddioARise (sel33 : Bool) (s : State) : Out := .next (vddioRise s sel33)
/-- VEC_EOI (R60, R61). -/
def execVecEoi (_q : Req) (v : Word) (s : State) : Out := whenUp s (onF s (fun f => vecEoi f v))
/-- OP_ABORT (R72, R73): a write of ABORT to an operation's command register. -/
def execOpAbort (_q : Req) (op : OpId) (s : State) : Out := whenUp s (opCommand s op 0x8000_0000)
/-- COUNTER_CLEAR (R141): a write of the page's CNT_CLR register; a page without one has no such write. -/
def execCounterClear (_q : Req) (page : Nat) (v inc : Word) (s : State) : Out :=
  match clearOff page with
  | none => .next s
  | some off => whenReg s page off (onF s (fun f => counterClear f page v inc))
/-- SYSTEM_PLL_LOCK (R297, R341, R510). -/
def execSystemPllLock (s : State) : Out := whenB (!isHeld s && !decide (s.pwr.state = .deep)) s (pllLock s)

end Sys2Proof.Machine
end

