-- ==== Sys2Proof/Machine/DoHost.lean ====
section
/-! DEFINITION. The commands of the host interfaces: PERST_N, DMA, QSPI and the PCIe link (table rows PERST_N, DMA_RUN to
QSPI_POSTED_WRITE_DONE and PCIE_LINK_UP). -/
namespace Sys2Proof.Machine

/-- PERST_N (R53, R55). -/
def execPerstN (s : State) : Out := .next (perstN s)
/-- DMA_RUN (R63, R65): DMA_CTRL written with RUN = 1. -/
def execDmaRun (_q : Req) (ch vector : Nat) (s : State) : Out := whenUp s (onF s (fun f => dmaRun f ch vector))
/-- DMA_STOP (R65): DMA_CTRL written with RUN = 0. -/
def execDmaStop (_q : Req) (ch vector : Nat) (s : State) : Out := whenUp s (onF s (fun f => dmaStop f s.host ch vector))
/-- DMA_DESCRIPTOR_START (R64, R65). -/
def execDmaDescriptorStart (ch : Nat) (d : Option Desc) (s : State) : Out := whenUp s (dmaStart s ch d)
/-- DMA_DESCRIPTOR_COMPLETE (R64, R65, R466). -/
def execDmaDescriptorComplete (ch : Nat) (data : Option (List Byte)) (statusOk : Bool) (s : State) : Out :=
  whenUp s (dmaComplete s ch data statusOk)
/-- WRITE_S (R66, R69, R70). -/
def execWriteS (a : Word) (ws : List Word) (s : State) : Out := .next (qsWrite s a.toNat ws)
/-- READ_S (R66, R68, R70). -/
def execReadS (a : Word) (n : Nat) (s : State) : Out := .next (qsRead s a.toNat n)
/-- WRITE_Q (R66, R69, R70). -/
def execWriteQ (a : Word) (ws : List Word) (s : State) : Out := .next (qsWrite s a.toNat ws)
/-- READ_Q (R66, R68, R70). -/
def execReadQ (a : Word) (n : Nat) (s : State) : Out := .next (qsRead s a.toNat n)
/-- QSPI_STATUS (R66, R67, R70). -/
def execQspiStatus (s : State) : Out := .next (qsWord s (qspiStatus s))
/-- CLR_STATUS (R66, R67). -/
def execClrStatus (s : State) : Out := .next (qsClear s)
/-- QSPI_ID (R66, R70): SYS.CHIP_ID. -/
def execQspiId (s : State) : Out := .next (qsWord s (rdR s.fab 0x40))
/-- QSPI_CS_RISE (R69). -/
def execQspiCsRise (partialWord : Bool) (s : State) : Out := .next (qsEnd s partialWord)
/-- QSPI_READ_TIMEOUT (R68). -/
def execQspiReadTimeout (s : State) : Out := .next (qsTimeout s)
/-- QSPI_POSTED_WRITE_DONE (R69). -/
def execQspiPostedWriteDone (s : State) : Out := whenUp s (qsPostedDone s)
/-- PCIE_LINK_UP (R56). -/
def execPcieLinkUp (up : Bool) (gen width : Nat) (s : State) : Out := .next (pcieLink s up gen width)

end Sys2Proof.Machine
end

