-- ==== Sys2Proof/Machine/DoPorts.lean ====
section
/-! DEFINITION. The commands of the serial ports, the network ports and the stream engine (table rows CG_ENABLE to
STREAM_TX_LATE). -/
namespace Sys2Proof.Machine

/-- CG_ENABLE (R346): PAGE_CTRL.ENABLE of a CG page written 1. -/
def execCgEnable (_q : Req) (i : Nat) (s : State) : Out := whenUp s (pageEnable s (pCG i) true)
/-- CG_START (R349). -/
def execCgStart (i rate : Nat) (s : State) : Out := whenClk s (onPorts s (fun f x => cgStartAlone f x i rate))
/-- CG_DISABLE (R359): PAGE_CTRL.ENABLE of a CG page written 0. -/
def execCgDisable (_q : Req) (i : Nat) (s : State) : Out := whenUp s (pageEnable s (pCG i) false)
/-- SG_ARM (R350). -/
def execSgArm (_q : Req) (g : Nat) (s : State) : Out := whenReg s (pCG 0) (0x10C + 0x10 * g) (onPorts s (fun f x => sgArm f x g))
/-- SG_DISARM (R351). -/
def execSgDisarm (_q : Req) (g : Nat) (s : State) : Out := whenReg s (pCG 0) (0x10C + 0x10 * g) (onF s (fun f => sgDisarm f g))
/-- SG_START (R350). -/
def execSgStart (g : Nat) (s : State) : Out := whenClk s (onPorts s (fun f x => sgStart f x g))
/-- Whether this device owns its trifle's outputs at an egress MSC (R362, R396); without a session, now. -/
def ownsAt (s : State) (m : Nat) : Bool := if running s.fab then ownedAt s.fab s.tri m else getB s.fab (triAt 0x48) 16
/-- A serial frame over the state (R345, R352 to R358). -/
def frameOf (s : State) (i : Nat) (slots : List (Nat × Nat × Nat)) (bits rate : Nat) : State :=
  let r := portFrame s.fab s.ports s.aud (ownsAt s) i slots bits rate
  { s with fab := r.1, ports := r.2.1, aud := r.2.2 }
/-- PORT_FRAME (R345, R352 to R358): slots are the words on the input pins; bits and rate are what a slave measures. -/
def execPortFrame (i : Nat) (slots : List (Nat × Nat × Nat)) (bits rate : Nat) (s : State) : Out :=
  whenClk s (frameOf s i slots bits rate)
/-- PORT_FILL_CHECK (R353). -/
def execPortFillCheck (i : Nat) (s : State) : Out := whenClk s (onPorts s (fun f x => fillCheck f x i))
/-- STEER_UPDATE (R354). -/
def execSteerUpdate (i : Nat) (s : State) : Out := whenClk s (onPorts s (fun f x => steerUpdate f x i))
/-- NO_SCK (R361). -/
def execNoSck (i : Nat) (s : State) : Out := whenClk s (onPorts s (fun f x => noClock f x i 8 5))
/-- NO_FS (R361). -/
def execNoFs (i : Nat) (s : State) : Out := whenClk s (onPorts s (fun f x => noClock f x i 9 6))
/-- PORT_FADE_END (R357). -/
def execPortFadeEnd (i : Nat) (out : Bool) (s : State) : Out := whenClk s (onPorts s (fun f x => fadeEnd f x i out))
/-- PORT_RECOVERY_END (R358). -/
def execPortRecoveryEnd (i : Nat) (out : Bool) (s : State) : Out := whenClk s (onPorts s (fun f x => recoveryEnd f x i out))
/-- PIN_BACKOFF (R360). -/
def execPinBackoff (p : Pin) (s : State) : Out := whenClk s (onPorts s (fun f x => pinBackoff f x p))
/-- PIN_BACKOFF_END (R360). -/
def execPinBackoffEnd (p : Pin) (s : State) : Out := whenClk s (onPorts s (fun f x => pinBackoffEnd f x p))

/-- LINK_UP_CHANGE (R366): what the PCS reports. -/
def execLinkUpChange (p : Nat) (lock am hiBer : Bool) (s : State) : Out := whenClk s (onNet s (fun f n => linkChange f n p lock am hiBer))
/-- A received frame over the state (R369 to R375, R389 to R391). -/
def rxOver (s : State) (p : Nat) (r : RxIn) : State :=
  let v := rxFrame s.fab s.tb s.mem s.net s.strm p r
  { s with fab := v.1, mem := v.2.1, net := v.2.2.1, strm := v.2.2.2 }
/-- RX_FRAME (R369 to R375). -/
def execRxFrame (p : Nat) (r : RxIn) (s : State) : Out := whenClk s (rxOver s p r)
/-- STREAM_FADE_END (R392). -/
def execStreamFadeEnd (n : Nat) (s : State) : Out := whenClk s (onStrm s (fun f x => strmFadeEnd f x n))
/-- STREAM_RECOVERY_END (R392). -/
def execStreamRecoveryEnd (n : Nat) (s : State) : Out := whenClk s (onStrm s (fun f x => strmRecoveryEnd f x n))
/-- STREAM_PORT_DOWN (R391). -/
def execStreamPortDown (n p : Nat) (s : State) : Out := whenClk s (onF s (fun f => strmPortDown f s.strm s.net.now n p))
/-- TX_DESCRIPTOR (R378). -/
def execTxDescriptor (p r : Nat) (s : State) : Out := whenClk s (onNetMem s (fun f m n => txDescriptor f m n p r))
/-- TX_FRAME_START (R379 to R381). -/
def execTxFrameStart (p phase : Nat) (s : State) : Out :=
  whenClk s (onNetMem s (fun f m n => txStart f m n p (stampAt s.fab s.tb phase / 2 ^ 24)))
/-- TX_FRAME_END (R378, R383). -/
def execTxFrameEnd (p : Nat) (s : State) : Out := whenClk s (onNetMem s (fun f m n => txEnd f m n p))
/-- TSQ_READ (R383): a read of TSQ_TAG. -/
def execTsqRead (q : Req) (p : Nat) (s : State) : Out := whenUp s (onNet s (fun f n => tsqRead f n q.code p))
/-- GATE_INTERVAL (R381). -/
def execGateInterval (p : Nat) (s : State) : Out := whenClk s (onNet s (fun f n => (f, gateInterval f n p)))
/-- GATE_CHANGE (R382): a write of GATE_CTRL. -/
def execGateChange (_q : Req) (p : Nat) (v : Word) (s : State) : Out :=
  whenReg s (pNET p) 0x840 (onNetMem s (fun f m n => gateCtrl f m n p v))
/-- GATE_CHANGE_APPLY (R382). -/
def execGateChangeApply (p : Nat) (s : State) : Out := whenClk s (onNetMem s (fun f m n => gateApply f m n p))
/-- STATS_SNAP (R384): a write of STATS_CTRL. -/
def execStatsSnap (_q : Req) (p : Nat) (v : Word) (s : State) : Out :=
  whenReg s (pNET p) 0x580 (onNet s (fun f n => statsCtrl f n p v))
/-- STREAM_WRITE (R385): STR_ACCESS.WRITE. -/
def execStreamWrite (q : Req) (s : State) : Out := whenReg s pSTRM 0x44 (onF s (fun f => streamWrite f q.code))
/-- STREAM_READ (R385): STR_ACCESS.READ. -/
def execStreamRead (q : Req) (s : State) : Out := whenReg s pSTRM 0x44 (onF s (fun f => streamRead f q.code))
/-- A packet of k samples of a TX stream falls due at the present egress MSC (R393, R396). -/
def queueSpp (n : Nat) (s : State) (k : Nat) : State :=
  let now := s.fab.msc.toNat
  if now < k then s
  else
    let r := packetQueue s.fab s.tb s.strm s.aud s.net n (now - k) (ownedAt s.fab s.tri (now - k))
    { s with fab := r.1, net := r.2 }
/-- The packets of a TX stream that fall due at the present egress MSC: of its entry before the last swap and of the one since,
each at its own SPP (R387, R393). -/
def queueDue (s : State) (n : Nat) : State := (txSpps s.strm n).foldl (queueSpp n) s
/-- STREAM_PACKET_QUEUE (R393, R396). -/
def execStreamPacketQueue (n : Nat) (s : State) : Out := whenClk s (queueDue s n)
/-- A stream frame that has not started within SPP samples is discarded (R394). -/
def lateOver (s : State) (p : Nat) : State :=
  let r := streamTxLate s.fab s.strm s.net p
  { s with fab := r.1, net := r.2 }
/-- STREAM_TX_LATE (R394). -/
def execStreamTxLate (p : Nat) (s : State) : Out := whenClk s (lateOver s p)

end Sys2Proof.Machine
end

