-- ==== Sys2Proof/Machine/DoPower.lean ====
section
/-! DEFINITION. The commands of the memories, the bus matrix, the power states, the thermal governor, the engine's start and
stop, observation and the JTAG port (table rows DRAM_READ to BYPASS). -/
namespace Sys2Proof.Machine

/-- DRAM_READ (R465, R469, R470). -/
def execDramRead (ch : Nat) (s : State) : Out := whenUp s (dramReadCmd s ch)
/-- DRAM_WRITE (R464, R469). -/
def execDramWrite (ch : Nat) (s : State) : Out := whenUp s (dramWriteCmd s ch)
/-- WRITE_BATCH_END (R469). -/
def execWriteBatchEnd (ch : Nat) (timed : Bool) (s : State) : Out := whenUp s (batchEnd s ch timed)
/-- DRAM_REFRESH (R471). -/
def execDramRefresh (ch : Nat) (postpone : Bool) (s : State) : Out :=
  whenUp s (if drcReady s.fab ch then { s with mem := dramRefresh s.mem ch postpone } else s)
/-- DRAM_TEMP_POLL (R471): what the die's mode register reports. -/
def execDramTempPoll (ch : Nat) (hot ovr : Bool) (s : State) : Out := whenUp s (onF s (fun f => dramTempPoll f ch hot ovr))
/-- DRC_ENABLE (R472). -/
def execDrcEnable (_q : Req) (ch : Nat) (s : State) : Out := whenUp s (drcEnableWrite s ch true)
/-- DRAM_TRAIN_END (R472, R488). -/
def execDramTrainEnd (ch : Nat) (ok : Bool) (s : State) : Out := whenUp s (dramTrainEnd s ch ok)
/-- DRAM_TRACKING (R472). -/
def execDramTracking (ch ns : Nat) (s : State) : Out := whenUp s (onMem s (fun f m => dramTracking f m ch ns))
/-- DRC_DISABLE (R488). -/
def execDrcDisable (_q : Req) (ch : Nat) (s : State) : Out := whenUp s (drcEnableWrite s ch false)
/-- SCRUB_LINE (R473). -/
def execScrubLine (ch : Nat) (s : State) : Out := whenUp s (onMem s (fun f m => scrubLine f m ch))
/-- INJ_ARM (R474): a write of INJ_CTRL. -/
def execInjArm (_q : Req) (ch : Nat) (v : Word) (s : State) : Out := whenReg s (pDRC ch) 0x70 (onF s (fun f => injWrite f ch v))
/-- SRAM_PATROL (R475, R476): the error found, if any, and whether it is correctable. -/
def execSramPatrol (arr word : Nat) (e : Option Bool) (s : State) : Out :=
  match e with
  | none => .next s
  | some c => whenUp s (onF s (fun f => sramError f arr word c))
/-- BUS_REQUEST (R477 to R482, R485). -/
def execBusRequest (m i : Nat) (rt : Bool) (addr len : Nat) (w : Option (List (Byte × Bool))) (s : State) : Out :=
  whenUp s (busRequest s ⟨m, i, rt, addr, len, w, false⟩)
/-- REQUEST_AGED (R480). -/
def execRequestAged (s : State) : Out := whenUp s (busSettle (busAge s))
/-- FENCE_DONE (R485, R486). -/
def execFenceDone (s : State) : Out := whenUp s (fenceEnd s)

/-- QUIET (R490). -/
def execQuiet (_q : Req) (s : State) : Out := whenUp s (opCommand s .ps 1)
/-- ACTIVE (R490). -/
def execActive (_q : Req) (s : State) : Out := whenUp s (opCommand s .ps 2)
/-- RETAIN (R490, R492). -/
def execRetain (_q : Req) (s : State) : Out := whenUp s (opCommand s .ps 3)
/-- DEEP (R490, R492). -/
def execDeep (_q : Req) (s : State) : Out := whenUp s (opCommand s .ps 4)
/-- PS_COMPLETE (R490 to R492, R497). -/
def execPsComplete (s : State) : Out := whenUp s (psComplete s)
/-- WAKE_N_FALL (R496). -/
def execWakeNFall (s : State) : Out := whenB (!isHeld s) s (wakeEvent s 0)
/-- QS_CS_N_FALL (R70, R496). -/
def execQsCsNFall (s : State) : Out := whenB (!isHeld s) s (wakeEvent s 1)
/-- WAKE_TEMP_SAMPLE (R496): the junction temperature against WAKE_T. -/
def execWakeTempSample (tj : BitVec 16) (s : State) : Out :=
  whenB (!isHeld s && decide (sx 16 (getF s.fab 0x206C 15 0) ≤ tj.toInt)) s (wakeEvent s 3)
/-- The AON timer reaches 0 (R496): 0 is off. -/
def aonExpire (s : State) : State := if rdN s.fab 0x106C = 0 then s else wakeEvent (onF s (fun f => wrN f 0x106C 0)) 4
/-- AON_TIMER_EXPIRE (R496). -/
def execAonTimerExpire (s : State) : Out := whenB (!isHeld s) s (aonExpire s)
/-- WAKE_RETAIN (R494, R497). -/
def execWakeRetain (s : State) : Out := whenB (!isHeld s) s (wakeRetain s)
/-- WAKE_DEEP (R495, R497). -/
def execWakeDeep (x : Straps) (s : State) : Out := whenB (!isHeld s) s (wakeDeep s x)
/-- RETAIN_SCRUB_EXCURSION (R493). -/
def execRetainScrubExcursion (s : State) : Out := whenB (!isHeld s) s (scrubKept s)
/-- THERMAL_SAMPLE (R500 to R504): the eight sensors' codes. -/
def execThermalSample (sensors : List Int) (s : State) : Out := whenUp s (withShed s (fun f p => thermalSample f p sensors))
/-- THERMAL_RELEASE (R501). -/
def execThermalRelease (s : State) : Out := whenUp s (withShed s thermalRelease)
/-- SHUTDOWN_FADE_END (R502). -/
def execShutdownFadeEnd (s : State) : Out := whenUp s (shutdownFadeEnd s)
/-- SHUT_CLR (R502): THM.CMD.SHUT_CLR. -/
def execShutClr (_q : Req) (s : State) : Out := whenReg s pTHM 0x78 (withShed s (fun f p => thmCmd f p 1))
/-- THERMTRIP (R503): the comparator needs the supplies alone. -/
def execThermtrip (s : State) : Out := .next (thermtrip s)
/-- CURRENT_LIMIT (R505). -/
def execCurrentLimit (est : Nat) (s : State) : Out := whenUp s (onPwr s (fun f p => currentLimit f p est))
/-- VDD_DS_LOW (R505). -/
def execVddDsLow (s : State) : Out := whenUp s (onPwr s vddLow)
/-- BOOST_HOLDOFF_END (R505). -/
def execBoostHoldoffEnd (s : State) : Out := whenUp s { s with pwr := holdoffEnd s.pwr }
/-- BOOST_GRANT (R289, R505). -/
def execBoostGrant (s : State) : Out := whenActive s (onPwr s boostGrant)
/-- SHED_FORCE_WRITE (R499). -/
def execShedForceWrite (_q : Req) (v : Word) (s : State) : Out := whenReg s pPWR 0xA0 (withShed s (fun f p => shedForce f p v))
/-- START (R506, R507). -/
def execStart (_q : Req) (s : State) : Out := whenUp s (opCommand s .eng 1)
/-- ENGINE_START_TICK (R415, R507). -/
def execEngineStartTick (phase : Nat) (s : State) : Out := whenEng s (engineStartTick s phase)
/-- STOP (R508). -/
def execStop (_q : Req) (s : State) : Out := whenUp s (opCommand s .eng 2)
/-- ENGINE_STOP_END (R508). -/
def execEngineStopEnd (s : State) : Out := whenEng s (engineStopEnd s)
/-- OSC_LOSS (R557). -/
def execOscLoss (s : State) : Out := .next (oscLoss s)
/-- OSC_RETURN (R557). -/
def execOscReturn (x : Straps) (s : State) : Out := .next (oscReturn s x)

/-- CRUMB_WRITE (R515 to R518): the collector serves a source page. -/
def execCrumbWrite (page : Nat) (s : State) : Out := whenUp s (onMem s (fun f m => crumbWrite f m page))
/-- LOST_CRUMB (R517). -/
def execLostCrumb (page : Nat) (s : State) : Out := whenUp s (onF s (fun f => lostCrumb f page))
/-- PARTIAL_LINE_TIMEOUT (R516): not while the trace writer is shed (R518). -/
def execPartialLineTimeout (s : State) : Out :=
  whenUp s (if getB s.fab (ra pOBS 0x54) 1 then s else onMem s ringLineOut)
/-- MARK_HI (R519). -/
def execMarkHi (q : Req) (v : Word) (s : State) : Out := whenReg s pOBS 0x84 (onF s (fun f => markHi f q.code v))
/-- FLUSH (R520). -/
def execFlush (_q : Req) (s : State) : Out := whenUp s (opCommand s .flush 1)
/-- FLUSH_END (R520). -/
def execFlushEnd (s : State) : Out := whenUp s (onMem s flushEnd)
/-- CNT_SNAP (R521): a write of CNT_CTRL. -/
def execCntSnap (_q : Req) (v : Word) (s : State) : Out := whenReg s pOBS 0xC0 (onF s (fun f => cntCtrl f v))
/-- LOAD_METER_UPDATE (R522): the busy fractions of the last millisecond. -/
def execLoadMeterUpdate (busy : List Nat) (s : State) : Out := whenUp s (onF s (fun f => loadUpdate f busy))
/-- OC_DATA_READ (R516): a read of OC_DATA[0]. -/
def execOcDataRead (q : Req) (s : State) : Out := whenUp s (onF s (fun f => ocRead f q.code))

/-- TAP_RESET (R524, R542). -/
def execTapReset (s : State) : Out := .next { s with tap := tapReset s.tap }
/-- EXTEST (R524, R543). -/
def execExtest (pins shift : List Bool) (s : State) : Out := .next { s with tap := tapDrive s.tap .extest pins shift }
/-- IDCODE (R524): the identification register is captured. -/
def execIdcode (s : State) : Out := .next { s with tap := tapReset s.tap }
/-- SAMPLE_PRELOAD (R524). -/
def execSamplePreload (pins shift : List Bool) (s : State) : Out := .next { s with tap := tapSample s.tap pins shift }
/-- CLAMP (R524). -/
def execClamp (s : State) : Out := .next { s with tap := tapBypass s.tap .clamp }
/-- HIGHZ (R524). -/
def execHighz (s : State) : Out := .next { s with tap := tapBypass s.tap .highz }
/-- EXTEST_PULSE (R524). -/
def execExtestPulse (pins shift : List Bool) (s : State) : Out := .next { s with tap := tapDrive s.tap .extestPulse pins shift }
/-- EXTEST_TRAIN (R524). -/
def execExtestTrain (pins shift : List Bool) (s : State) : Out := .next { s with tap := tapDrive s.tap .extestTrain pins shift }
/-- BYPASS (R524). -/
def execBypass (s : State) : Out := .next { s with tap := tapBypass s.tap .bypass }

end Sys2Proof.Machine
end

