-- ==== Sys2Proof/Machine/DoStack.lean ====
section
/-! DEFINITION. The commands of the Uhlyen links, the stack, the trifle and the check-value units (table rows
UHL_RATE_FALLBACK to FEED_END). -/
namespace Sys2Proof.Machine

/-- UHL_RATE_FALLBACK (R399). -/
def execUhlRateFallback (l : Nat) (s : State) : Out := whenClk s (onStk s (fun f k => uhlFallback f k l))
/-- LANE_MARKER (R400). -/
def execLaneMarker (l phys lane : Nat) (inverted : Bool) (s : State) : Out := whenClk s (onF s (fun f => laneMarker f l phys lane inverted))
/-- LANE_FAIL (R401). -/
def execLaneFail (l lane : Nat) (s : State) : Out := whenClk s (onStk s (fun f k => laneFail f k l lane))
/-- LINK_RETRAIN_END (R401). -/
def execLinkRetrainEnd (l : Nat) (s : State) : Out := whenClk s (onStk s (fun f k => retrainEnd f k l))
/-- LANE_RESTORE (R401). -/
def execLaneRestore (l : Nat) (s : State) : Out := whenClk s (onStk s (fun f k => laneRestore f k l))
/-- UHL_LINK_UP (R402): the partner's identity as exchanged. -/
def execUhlLinkUp (l : Nat) (partner : Option Nat) (s : State) : Out := whenClk s (onStk s (fun f k => uhlLinkUp f k l partner))
/-- UHL_LINK_DOWN (R402, R420). -/
def execUhlLinkDown (l : Nat) (s : State) : Out := whenClk s (onStk s (fun f k => uhlLinkDown f k l))
/-- A cycle frame over the state (R403 to R410). -/
def cycleOver (s : State) (l res : Nat) (fr : CycFrame) : State :=
  let r := cycleFrame s.fab s.tb s.stk s.aud s.net.now l res fr
  { s with fab := r.1, tb := r.2.1, stk := r.2.2 }
/-- CYCLE_FRAME (R403 to R410). -/
def execCycleFrame (l res : Nat) (fr : CycFrame) (s : State) : Out := whenClk s (cycleOver s l res fr)
/-- LINK_DELAY_MEASURE (R413). -/
def execLinkDelayMeasure (l : Nat) (hops : List (Nat × Nat)) (s : State) : Out := whenClk s (onStk s (fun f k => delayMeasure f k l hops))
/-- DLY_REQ (R413, R427). -/
def execDlyReq (l : Nat) (m : BitVec 128) (res : Nat) (s : State) : Out := whenClk s (onStk s (fun f k => dlyReq f k l m res))
/-- DLY_RSP (R413, R427). -/
def execDlyRsp (l : Nat) (m : BitVec 128) (res : Nat) (s : State) : Out := whenClk s (onStk s (fun f k => dlyRsp f k l m res))
/-- CMD_ENUM (R412): STK.CMD.ENUM. -/
def execCmdEnum (_q : Req) (s : State) : Out := whenReg s pSTK 0x48 (onStk s cmdEnum)
/-- ENUM (R412). -/
def execEnum (l : Nat) (m : BitVec 128) (s : State) : Out := whenClk s (onStk s (fun f k => enumMsg f k l m))
/-- ROLL_CALL (R417, R424, R425). -/
def execRollCall (s : State) : Out := whenClk s (onStk s rollCall)
/-- ROLL (R417). -/
def execRoll (l : Nat) (m : BitVec 128) (s : State) : Out := whenClk s (onStk s (fun f k => rollMsg f k l m))
/-- ROLL_ANS (R417). -/
def execRollAns (l : Nat) (m : BitVec 128) (s : State) : Out := whenClk s (onStk s (fun f k => rollAns f k l m))
/-- ROLL_ANS_MISS (R417). -/
def execRollAnsMiss (i : Nat) (s : State) : Out := whenClk s (onStk s (fun f k => rollMiss f k i))
/-- DEPUTY_TAKEOVER (R418). -/
def execDeputyTakeover (s : State) : Out := whenClk s (onStk s takeover)
/-- HANDBACK (R419): STK.CMD.HANDBACK. -/
def execHandback (_q : Req) (s : State) : Out := whenReg s pSTK 0x48 (onStk s handback)
/-- LINK_FAIL (R420). -/
def execLinkFail (l : Nat) (m : BitVec 128) (s : State) : Out := whenClk s (onStk s (fun f k => linkFail f k l m))
/-- RESTORE_ANNOUNCE (R421): AUTO_RESTORE after 100 ms. -/
def execRestoreAnnounce (s : State) : Out := whenClk s (onStk s restoreAuto)
/-- RESTORE (R421): STK.CMD.RESTORE. -/
def execRestore (_q : Req) (s : State) : Out := whenReg s pSTK 0x48 (onStk s restore)
/-- CHG_AT_APPLY (R419, R421, R426). -/
def execChgAtApply (s : State) : Out := whenClk s (onStk s chgApply)
/-- STK_MAP_WRITE (R422, R423): a write of MAP_DATA. -/
def execStkMapWrite (q : Req) (v : Word) (s : State) : Out := whenUp s (onF s (fun f => stkMapWrite f s.stk q.code v))
/-- STACK_WINDOW_ACCESS (R428): a read, or a write of the word given. -/
def execStackWindowAccess (q : Req) (addr : Nat) (w : Option Word) (s : State) : Out := whenUp s (stackAccess s q.code addr w).1
/-- REG_RD (R427, R428). -/
def execRegRd (l : Nat) (m : BitVec 128) (s : State) : Out := whenClk s (serveRemote s l m false)
/-- REG_WR (R427, R428). -/
def execRegWr (l : Nat) (m : BitVec 128) (s : State) : Out := whenClk s (serveRemote s l m true)
/-- REG_RSP (R427, R428). -/
def execRegRsp (l : Nat) (m : BitVec 128) (s : State) : Out := whenClk s (remoteDone s l m)
/-- REMOTE_ACCESS_TIMEOUT (R428). -/
def execRemoteAccessTimeout (s : State) : Out := whenUp s (remoteLate s)
/-- FOLLOW_RATIO (R237, R427): the leader's state, P and starting ratio come with the word. -/
def execFollowRatio (l : Nat) (m : BitVec 128) (st : GrpSt) (p : Nat) (rho0 : Int) (s : State) : Out :=
  whenClk s (onInc s (fun f x => followRatioMsg f x l (leaderOf f s.tri (msgSub m)) m st p rho0))
/-- A FOLLOW_POS word over the state: the follower's decision, and the alive counters that watch the group (R237, R453). -/
def followPosOver (s : State) (l : Nat) (m : BitVec 128) : State :=
  let t := onInc s (fun f x => followPosMsg f x l (leaderOf f s.tri (msgSub m)) m)
  if (takeSync s.fab l 0x31 m).2 then onTri t (fun f x => alvAll f x 2 (msgSub m) (nfld (msgPay m) 79 72)) else t
/-- FOLLOW_POS (R237, R427, R453). -/
def execFollowPos (l : Nat) (m : BitVec 128) (s : State) : Out := whenClk s (followPosOver s l m)

/-- VOTE (R437, R439). -/
def execVote (l : Nat) (m : BitVec 128) (s : State) : Out := whenClk s (onTri s (fun f x => voteRx f x l m))
/-- VOTE_EVALUATE (R438 to R441). -/
def execVoteEvaluate (s : State) : Out := whenClk s (onTriStk s voteEvaluate)
/-- ORDER (R442). -/
def execOrder (l : Nat) (m : BitVec 128) (s : State) : Out := whenClk s (onTri s (fun f x => orderRx f x l m))
/-- HANDOVER (R442). -/
def execHandover (s : State) : Out := whenClk s (onTri s handover)
/-- OWN_IN_CHANGE (R442): the levels of OWN_IN. -/
def execOwnInChange (in0 in1 : Bool) (s : State) : Out := whenClk s (onTri s (fun f x => ownIn f x in0 in1))
/-- TAKE (R444): TRI.CMD.TAKE. -/
def execTake (_q : Req) (s : State) : Out := whenReg s pTRI 0x70 (onTriStk s triTake)
/-- REJOIN (R446). -/
def execRejoin (_q : Req) (s : State) : Out := whenUp s (opCommand s .rejoin 1)
/-- REJOIN_PHASE_END (R448, R450). -/
def execRejoinPhaseEnd (travel : Nat) (digests : Bool) (s : State) : Out := whenClk s (onTri s (fun f x => rejoinPhase f x travel digests))
/-- SNAP (R447). -/
def execSnap (l : Nat) (m : BitVec 128) (s : State) : Out := whenClk s (onTri s (fun f x => snapRx f x l m))
/-- The phases of REJOIN that install a piece (R448). -/
def Piece.phases : Piece → List Nat
  | .inc _ _ => [2]
  | .obj _ _ _ => [3]
  | .mtx _ => [3]
  | .gen _ _ => [3]
  | .chain _ => [4, 5]
/-- The state of a piece's units as installed (R447). -/
def pieceInto (s : State) : Piece → State
  | .inc c v => { s with inc := setCh s.inc c v }
  | .obj o v ps => { s with ren := ps.foldl (fun r e => putPath r e.1 e.2) (putObj s.ren o v) }
  | .mtx t => { s with mtx := { s.mtx with trans := t } }
  | .gen ph n => { s with mtx := { s.mtx with phase := ph, formed := n } }
  | .chain cs => { s with chains := ⟨cs.foldl (fun l e => mset (fun _ => Chain.reset) l e.1 e.2) s.chains.chains⟩ }
/-- At c + 256 a complete piece is installed, and the first one commits REJOIN; an incomplete one is counted and captured
again (R446, R447). -/
def snapInstall (s : State) (p : Piece) (complete : Bool) : State :=
  match s.tri.rejoin with
  | none => s
  | some r =>
    if !p.phases.contains r.phase then s
    else
      let s := { s with tri := { s.tri with snap := [] } }
      if !complete then onF s (fun f => bump f (triAt 0xB0))
      else onF (pieceInto s p) (fun f => opCommit f .rejoin)
/-- SNAP_INSTALL (R447). -/
def execSnapInstall (p : Piece) (complete : Bool) (s : State) : Out := whenEng s (snapInstall s p complete)
/-- CATCHUP_TIMEOUT (R449, R450). -/
def execCatchupTimeout (s : State) : Out := whenClk s (onTri s catchupTimeout)
/-- ALV_FEED (R453). -/
def execAlvFeed (_q : Req) (a : Nat) (v : Word) (s : State) : Out := whenReg s pTRI (0x20C + 0x10 * a) (onTri s (fun f x => alvFeed f x a v))

/-- FEED_B (R455). -/
def execFeedB (_q : Req) (c : Nat) (v : Word) (s : State) : Out :=
  whenReg s pCRCU (0x130 + 0x40 * c) (onF s (fun f => crcRegFeed f c 0x30 [fld v 7 0]))
/-- FEED_W (R455). -/
def execFeedW (_q : Req) (c : Nat) (v : Word) (s : State) : Out :=
  whenReg s pCRCU (0x134 + 0x40 * c) (onF s (fun f => crcRegFeed f c 0x34 (feedWBytes v)))
/-- LOAD_INIT (R455): CMD.LOAD_INIT. -/
def execLoadInit (_q : Req) (c : Nat) (s : State) : Out := whenReg s pCRCU (0x12C + 0x40 * c) (onF s (fun f => crcLoadInit f c))
/-- FEED (R456). -/
def execFeed (_q : Req) (s : State) : Out := whenUp s (opCommand s .feed 1)
/-- FEED_END (R456). -/
def execFeedEnd (s : State) : Out := whenUp s (onMem s feedEnd)

end Sys2Proof.Machine
end

