-- ==== Sys2Proof/Machine/DoTime.lean ====
section
/-! DEFINITION. The commands of the timebase and of the references (table rows TB_TICK to FAULT_END). -/
namespace Sys2Proof.Machine

/-- TB_TICK (R293 to R296), with the DPLL's share of the tick: a step moves the error of TBREF (R322), and y enters the
second's mean (R334). -/
def execTbTick (s : State) : Out :=
  let t := onTb s tbTick
  let t := { t with ref := gridWrap t.ref s.fab.time.toNat t.fab.time.toNat, net := { t.net with now := t.net.now + 4 },
                    pwr := { t.pwr with freqWait := t.pwr.freqWait - 1 } }
  let t := match s.tb.stepPend with
    | none => t
    | some d => onRef t (fun f x => gridMove f x (rne (-d) (2 ^ 24)))
  whenTb s { t with ref := refTick t.fab t.ref }
/-- INCR_COMMIT (R294): a write of INCR_NS. -/
def execIncrCommit (_q : Req) (v : Word) (s : State) : Out := whenReg s pTB 0x44 (onTb s (fun f t => incrCommit f t v))
/-- STEP_COMMIT (R295): a write of STEP_NS. -/
def execStepCommit (_q : Req) (v : Word) (s : State) : Out := whenReg s pTB 0x4C (onTb s (fun f t => stepCommit f t v))
/-- NOW_READ (R299, R300). -/
def execNowRead (q : Req) (s : State) : Out := whenUp s (onF s (fun f => nowRead f q.code))
/-- LATCH_READ (R299). -/
def execLatchRead (q : Req) (s : State) : Out := whenUp s (onF s (fun f => latchRead f q.code))
/-- CAPTURE_EDGE (R303 to R307): the edge comes `ns` nanoseconds and `part` 1024ths of one after the timebase tick. -/
def execCaptureEdge (src : Nat) (rising : Bool) (ns part : Nat) (s : State) : Out :=
  whenTb s (onTb s (fun f t => pinEdge f t src rising (1024 * ns + part)))
/-- CAP_READ (R307): a read of CAP_NS. -/
def execCapRead (q : Req) (k : Nat) (s : State) : Out := whenUp s (onTb s (fun f t => capRead f t q.code k))
/-- CMP_ARM (R311). -/
def execCmpArm (_q : Req) (n : Nat) (s : State) : Out := whenReg s pTB (0x310 + 0x20 * n) (onTb s (fun f t => cmpArm f t n))
/-- CMP_DISARM (R311). -/
def execCmpDisarm (_q : Req) (n : Nat) (s : State) : Out := whenReg s pTB (0x310 + 0x20 * n) (comparatorDisarm s n)
/-- COMPARATOR_FIRE (R308 to R314, R350, R496, R507). -/
def execComparatorFire (n : Nat) (s : State) : Out := whenTb s (comparatorFire s n)
/-- EVT_CFG_WRITE (R314). -/
def execEvtCfgWrite (_q : Req) (p : Nat) (v : Word) (s : State) : Out :=
  whenReg s pTB (0x400 + 4 * p) (onTb s (fun f t => evtCfgWrite f t p v))
/-- EVT_PULSE_END (R314). -/
def execEvtPulseEnd (p : Nat) (s : State) : Out := whenTb s (onTb s (fun f t => (f, evtPulseEnd t p)))

/-- REF_EDGE (R323 to R326): the phase error, the interval since the edge before and the high time are what the monitor
measures. -/
def execRefEdge (r : Nat) (error : Int) (interval high : Nat) (s : State) : Out :=
  whenTb s (refStep s (fun f x => refEdge f x s.tb r error interval high))
/-- REF_LOSS (R325). -/
def execRefLoss (r : Nat) (s : State) : Out := whenTb s (refStep s (fun f x => refLoss f x r))
/-- REF_CHECK_END (R326). -/
def execRefCheckEnd (r : Nat) (s : State) : Out := whenTb s (refStep s (fun f x => refCheckEnd f x r))
/-- REF_WTR_END (R326). -/
def execRefWtrEnd (r : Nat) (s : State) : Out := whenTb s (refStep s (fun f x => refWtrEnd f x r))
/-- REF_DISQ_END (R326). -/
def execRefDisqEnd (r : Nat) (s : State) : Out := whenTb s (refStep s (fun f x => refDisqEnd f x r))
/-- REF_SELECT (R330). -/
def execRefSelect (s : State) : Out := whenTb s (onRef s refSelect)
/-- HOLDOVER_RECORD (R334). -/
def execHoldoverRecord (s : State) : Out := whenTb s (onRef s holdoverRecord)
/-- HOLDOVER_EXPIRE (R335). -/
def execHoldoverExpire (s : State) : Out := whenTb s (onF s holdoverExpire)
/-- TB_GRID_WRITE (R322). -/
def execTbGridWrite (_q : Req) (v : Word) (s : State) : Out := whenReg s pREF 0x64 (onRef s (fun f x => tbGridWrite f x v))
/-- MPLL_LOCK_LOSS (R341, R361). -/
def execMpllLockLoss (pll48 pll44 : Bool) (s : State) : Out :=
  whenClk s (if pll48 || pll44 then onPorts (onRef s dpllFault) (fun f x => portsFault f x pll48 pll44) else s)
/-- FAULT_END (R341). -/
def execFaultEnd (s : State) : Out := whenClk s (onRef (onPorts (onRef s dpllFaultEnd) portsFaultEnd) refSelect)

end Sys2Proof.Machine
end

