-- ==== Sys2Proof/Machine/Dispatch.lean ====
section
/-! DEFINITION. The meaning of every command: one arm for each row of the opcode table, in its order. -/
namespace Sys2Proof.Machine

def exec (i : Instr) (s : State) : Host.Outcome State Fault Refusal :=
  match i with
  | .sampleTick phase => Sys2Proof.Machine.execSampleTick phase s
  | .blockTick phase fails => Sys2Proof.Machine.execBlockTick phase fails s
  | .sessionCfgWrite q v => Sys2Proof.Machine.execSessionCfgWrite q v s
  | .registerWrite q addr size v => Sys2Proof.Machine.execRegisterWrite q addr size v s
  | .windowWrite q addr size v => Sys2Proof.Machine.execWindowWrite q addr size v s
  | .unmappedAccess q space addr write => Sys2Proof.Machine.execUnmappedAccess q space addr write s
  | .pairRead q addr size => Sys2Proof.Machine.execPairRead q addr size s
  | .pageEnableWrite q page on => Sys2Proof.Machine.execPageEnableWrite q page on s
  | .softRst q page => Sys2Proof.Machine.execSoftRst q page s
  | .softRstDone page => Sys2Proof.Machine.execSoftRstDone page s
  | .chipReset q straps => Sys2Proof.Machine.execChipReset q straps s
  | .resetNAssert hot => Sys2Proof.Machine.execResetNAssert hot s
  | .resetNRelease straps => Sys2Proof.Machine.execResetNRelease straps s
  | .pwrgoodFall => Sys2Proof.Machine.execPwrgoodFall s
  | .pwrgoodRise straps => Sys2Proof.Machine.execPwrgoodRise straps s
  | .vddioARise sel33 => Sys2Proof.Machine.execVddioARise sel33 s
  | .perstN => Sys2Proof.Machine.execPerstN s
  | .vecEoi q v => Sys2Proof.Machine.execVecEoi q v s
  | .dmaRun q ch vector => Sys2Proof.Machine.execDmaRun q ch vector s
  | .dmaStop q ch vector => Sys2Proof.Machine.execDmaStop q ch vector s
  | .dmaDescriptorStart ch desc => Sys2Proof.Machine.execDmaDescriptorStart ch desc s
  | .dmaDescriptorComplete ch data statusOk => Sys2Proof.Machine.execDmaDescriptorComplete ch data statusOk s
  | .writeS addr words => Sys2Proof.Machine.execWriteS addr words s
  | .readS addr words => Sys2Proof.Machine.execReadS addr words s
  | .writeQ addr words => Sys2Proof.Machine.execWriteQ addr words s
  | .readQ addr words => Sys2Proof.Machine.execReadQ addr words s
  | .qspiStatus => Sys2Proof.Machine.execQspiStatus s
  | .clrStatus => Sys2Proof.Machine.execClrStatus s
  | .qspiId => Sys2Proof.Machine.execQspiId s
  | .qspiCsRise partialWord => Sys2Proof.Machine.execQspiCsRise partialWord s
  | .qspiReadTimeout => Sys2Proof.Machine.execQspiReadTimeout s
  | .qspiPostedWriteDone => Sys2Proof.Machine.execQspiPostedWriteDone s
  | .opAbort q op => Sys2Proof.Machine.execOpAbort q op s
  | .geometryTick => Sys2Proof.Machine.execGeometryTick s
  | .append q tns msc => Sys2Proof.Machine.execAppend q tns msc s
  | .replace q tns msc => Sys2Proof.Machine.execReplace q tns msc s
  | .objPosRead q obj => Sys2Proof.Machine.execObjPosRead q obj s
  | .pralineCtrlWrite q obj v => Sys2Proof.Machine.execPralineCtrlWrite q obj v s
  | .counterClear q page v incremented => Sys2Proof.Machine.execCounterClear q page v incremented s
  | .mapWrite q dst j v => Sys2Proof.Machine.execMapWrite q dst j v s
  | .nodeWrite q gain => Sys2Proof.Machine.execNodeWrite q gain s
  | .nodeRead q => Sys2Proof.Machine.execNodeRead q s
  | .zcTimeout k => Sys2Proof.Machine.execZcTimeout k s
  | .transitionStart => Sys2Proof.Machine.execTransitionStart s
  | .transitionEnd k => Sys2Proof.Machine.execTransitionEnd k s
  | .loadMerge q => Sys2Proof.Machine.execLoadMerge q s
  | .loadReplace q => Sys2Proof.Machine.execLoadReplace q s
  | .clear q => Sys2Proof.Machine.execClear q s
  | .ldEnd => Sys2Proof.Machine.execLdEnd s
  | .xrWrite q => Sys2Proof.Machine.execXrWrite q s
  | .xrRead q => Sys2Proof.Machine.execXrRead q s
  | .bankCtrlWrite q page v => Sys2Proof.Machine.execBankCtrlWrite q page v s
  | .swapArm q g => Sys2Proof.Machine.execSwapArm q g s
  | .swapCommit g => Sys2Proof.Machine.execSwapCommit g s
  | .bankSwap => Sys2Proof.Machine.execBankSwap s
  | .swapCopyDone g => Sys2Proof.Machine.execSwapCopyDone g s
  | .save q => Sys2Proof.Machine.execSave q s
  | .recall q => Sys2Proof.Machine.execRecall q s
  | .check q => Sys2Proof.Machine.execCheck q s
  | .sceneOpEnd => Sys2Proof.Machine.execSceneOpEnd s
  | .chCtrlWrite q chain v => Sys2Proof.Machine.execChCtrlWrite q chain v s
  | .cnvCfgWrite q chain v => Sys2Proof.Machine.execCnvCfgWrite q chain v s
  | .load q => Sys2Proof.Machine.execLoad q s
  | .loadEnd => Sys2Proof.Machine.execLoadEnd s
  | .incChWrite q chan src v => Sys2Proof.Machine.execIncChWrite q chan src v s
  | .resync q chan v => Sys2Proof.Machine.execResync q chan v s
  | .conditioningWarmupEnd chan => Sys2Proof.Machine.execConditioningWarmupEnd chan s
  | .conditioningRampEnd chan => Sys2Proof.Machine.execConditioningRampEnd chan s
  | .conditioningFadeEnd grp => Sys2Proof.Machine.execConditioningFadeEnd grp s
  | .asrcMeasureEnd grp => Sys2Proof.Machine.execAsrcMeasureEnd grp s
  | .asrcFastEnd grp => Sys2Proof.Machine.execAsrcFastEnd grp s
  | .asrcLoopUpdate grp => Sys2Proof.Machine.execAsrcLoopUpdate grp s
  | .slipPlace t => Sys2Proof.Machine.execSlipPlace t s
  | .bundleIssue core memErr => Sys2Proof.Machine.execBundleIssue core memErr s
  | .nop core => Sys2Proof.Machine.execNop core s
  | .mac core a x1 y1 x2 y2 neg clr single => Sys2Proof.Machine.execMac core a x1 y1 x2 y2 neg clr single s
  | .adda core ad as_ => Sys2Proof.Machine.execAdda core ad as_ s
  | .suba core ad as_ => Sys2Proof.Machine.execSuba core ad as_ s
  | .rnd core dd as_ sh => Sys2Proof.Machine.execRnd core dd as_ sh s
  | .mvda core ad ds => Sys2Proof.Machine.execMvda core ad ds s
  | .asha core ad as_ sh => Sys2Proof.Machine.execAsha core ad as_ sh s
  | .clra core ad => Sys2Proof.Machine.execClra core ad s
  | .add core dd s1 s2 => Sys2Proof.Machine.execAdd core dd s1 s2 s
  | .adds core dd s1 s2 => Sys2Proof.Machine.execAdds core dd s1 s2 s
  | .sub core dd s1 s2 => Sys2Proof.Machine.execSub core dd s1 s2 s
  | .subs core dd s1 s2 => Sys2Proof.Machine.execSubs core dd s1 s2 s
  | .and core dd s1 s2 => Sys2Proof.Machine.execAnd core dd s1 s2 s
  | .or core dd s1 s2 => Sys2Proof.Machine.execOr core dd s1 s2 s
  | .xor core dd s1 s2 => Sys2Proof.Machine.execXor core dd s1 s2 s
  | .asr core dd ds n => Sys2Proof.Machine.execAsr core dd ds n s
  | .lsr core dd ds n => Sys2Proof.Machine.execLsr core dd ds n s
  | .lsl core dd ds n => Sys2Proof.Machine.execLsl core dd ds n s
  | .abs core dd ds => Sys2Proof.Machine.execAbs core dd ds s
  | .neg core dd ds => Sys2Proof.Machine.execNeg core dd ds s
  | .min core dd s1 s2 => Sys2Proof.Machine.execMin core dd s1 s2 s
  | .max core dd s1 s2 => Sys2Proof.Machine.execMax core dd s1 s2 s
  | .cmp core s1 s2 => Sys2Proof.Machine.execCmp core s1 s2 s
  | .mulr core dd s1 s2 => Sys2Proof.Machine.execMulr core dd s1 s2 s
  | .muli core dd s1 s2 => Sys2Proof.Machine.execMuli core dd s1 s2 s
  | .br core cc offset => Sys2Proof.Machine.execBr core cc offset s
  | .call core cc offset => Sys2Proof.Machine.execCall core cc offset s
  | .jr core cc ds => Sys2Proof.Machine.execJr core cc ds s
  | .loop core level ds end_ => Sys2Proof.Machine.execLoop core level ds end_ s
  | .loopi core level n end_ => Sys2Proof.Machine.execLoopi core level n end_ s
  | .ldi core code imm => Sys2Proof.Machine.execLdi core code imm s
  | .rti core => Sys2Proof.Machine.execRti core s
  | .wait core => Sys2Proof.Machine.execWait core s
  | .bdone core => Sys2Proof.Machine.execBdone core s
  | .halt core => Sys2Proof.Machine.execHalt core s
  | .mvts core spec ds => Sys2Proof.Machine.execMvts core spec ds s
  | .mvfs core dd spec => Sys2Proof.Machine.execMvfs core dd spec s
  | .mov core dst src => Sys2Proof.Machine.execMov core dst src s
  | .ldx core j pm reg => Sys2Proof.Machine.execLdx core j pm reg s
  | .stx core j pm reg => Sys2Proof.Machine.execStx core j pm reg s
  | .ldy core j pm reg => Sys2Proof.Machine.execLdy core j pm reg s
  | .sty core j pm reg => Sys2Proof.Machine.execSty core j pm reg s
  | .modx core j pm => Sys2Proof.Machine.execModx core j pm s
  | .mody core j pm => Sys2Proof.Machine.execMody core j pm s
  | .setp core j v => Sys2Proof.Machine.execSetp core j v s
  | .setm core j v => Sys2Proof.Machine.execSetm core j v s
  | .setl core j v => Sys2Proof.Machine.execSetl core j v s
  | .setd core j v => Sys2Proof.Machine.execSetd core j v s
  | .interruptEntry core => Sys2Proof.Machine.execInterruptEntry core s
  | .coreWake core slept => Sys2Proof.Machine.execCoreWake core slept s
  | .coreTimer core => Sys2Proof.Machine.execCoreTimer core s
  | .mailboxWrite q core v => Sys2Proof.Machine.execMailboxWrite q core v s
  | .evtRaise q core v => Sys2Proof.Machine.execEvtRaise q core v s
  | .coreDmaEnd core => Sys2Proof.Machine.execCoreDmaEnd core s
  | .dspEnableWrite q core on => Sys2Proof.Machine.execDspEnableWrite q core on s
  | .coreStart core => Sys2Proof.Machine.execCoreStart core s
  | .tbTick => Sys2Proof.Machine.execTbTick s
  | .incrCommit q v => Sys2Proof.Machine.execIncrCommit q v s
  | .stepCommit q v => Sys2Proof.Machine.execStepCommit q v s
  | .nowRead q => Sys2Proof.Machine.execNowRead q s
  | .latchRead q => Sys2Proof.Machine.execLatchRead q s
  | .captureEdge src rising ns part => Sys2Proof.Machine.execCaptureEdge src rising ns part s
  | .capRead q unit => Sys2Proof.Machine.execCapRead q unit s
  | .cmpArm q n => Sys2Proof.Machine.execCmpArm q n s
  | .cmpDisarm q n => Sys2Proof.Machine.execCmpDisarm q n s
  | .comparatorFire n => Sys2Proof.Machine.execComparatorFire n s
  | .evtCfgWrite q pin v => Sys2Proof.Machine.execEvtCfgWrite q pin v s
  | .evtPulseEnd pin => Sys2Proof.Machine.execEvtPulseEnd pin s
  | .refEdge r error interval high => Sys2Proof.Machine.execRefEdge r error interval high s
  | .refLoss r => Sys2Proof.Machine.execRefLoss r s
  | .refCheckEnd r => Sys2Proof.Machine.execRefCheckEnd r s
  | .refWtrEnd r => Sys2Proof.Machine.execRefWtrEnd r s
  | .refDisqEnd r => Sys2Proof.Machine.execRefDisqEnd r s
  | .refSelect => Sys2Proof.Machine.execRefSelect s
  | .holdoverRecord => Sys2Proof.Machine.execHoldoverRecord s
  | .holdoverExpire => Sys2Proof.Machine.execHoldoverExpire s
  | .tbGridWrite q v => Sys2Proof.Machine.execTbGridWrite q v s
  | .systemPllLock => Sys2Proof.Machine.execSystemPllLock s
  | .mpllLockLoss pll48 pll44 => Sys2Proof.Machine.execMpllLockLoss pll48 pll44 s
  | .faultEnd => Sys2Proof.Machine.execFaultEnd s
  | .cgEnable q cg => Sys2Proof.Machine.execCgEnable q cg s
  | .cgStart cg rate => Sys2Proof.Machine.execCgStart cg rate s
  | .cgDisable q cg => Sys2Proof.Machine.execCgDisable q cg s
  | .sgArm q g => Sys2Proof.Machine.execSgArm q g s
  | .sgDisarm q g => Sys2Proof.Machine.execSgDisarm q g s
  | .sgStart g => Sys2Proof.Machine.execSgStart g s
  | .portFrame cg slots bits rate => Sys2Proof.Machine.execPortFrame cg slots bits rate s
  | .portFillCheck cg => Sys2Proof.Machine.execPortFillCheck cg s
  | .steerUpdate cg => Sys2Proof.Machine.execSteerUpdate cg s
  | .noSck cg => Sys2Proof.Machine.execNoSck cg s
  | .noFs cg => Sys2Proof.Machine.execNoFs cg s
  | .portFadeEnd cg out => Sys2Proof.Machine.execPortFadeEnd cg out s
  | .portRecoveryEnd cg out => Sys2Proof.Machine.execPortRecoveryEnd cg out s
  | .pinBackoff pin => Sys2Proof.Machine.execPinBackoff pin s
  | .pinBackoffEnd pin => Sys2Proof.Machine.execPinBackoffEnd pin s
  | .linkUpChange port lock am hiBer => Sys2Proof.Machine.execLinkUpChange port lock am hiBer s
  | .rxFrame port frame => Sys2Proof.Machine.execRxFrame port frame s
  | .streamFadeEnd n => Sys2Proof.Machine.execStreamFadeEnd n s
  | .streamRecoveryEnd n => Sys2Proof.Machine.execStreamRecoveryEnd n s
  | .streamPortDown n port => Sys2Proof.Machine.execStreamPortDown n port s
  | .txDescriptor port ring => Sys2Proof.Machine.execTxDescriptor port ring s
  | .txFrameStart port phase => Sys2Proof.Machine.execTxFrameStart port phase s
  | .txFrameEnd port => Sys2Proof.Machine.execTxFrameEnd port s
  | .tsqRead q port => Sys2Proof.Machine.execTsqRead q port s
  | .gateInterval port => Sys2Proof.Machine.execGateInterval port s
  | .gateChange q port v => Sys2Proof.Machine.execGateChange q port v s
  | .gateChangeApply port => Sys2Proof.Machine.execGateChangeApply port s
  | .statsSnap q port v => Sys2Proof.Machine.execStatsSnap q port v s
  | .streamWrite q => Sys2Proof.Machine.execStreamWrite q s
  | .streamRead q => Sys2Proof.Machine.execStreamRead q s
  | .streamPacketQueue n => Sys2Proof.Machine.execStreamPacketQueue n s
  | .streamTxLate port => Sys2Proof.Machine.execStreamTxLate port s
  | .uhlRateFallback link => Sys2Proof.Machine.execUhlRateFallback link s
  | .laneMarker link phys lane inverted => Sys2Proof.Machine.execLaneMarker link phys lane inverted s
  | .laneFail link lane => Sys2Proof.Machine.execLaneFail link lane s
  | .linkRetrainEnd link => Sys2Proof.Machine.execLinkRetrainEnd link s
  | .laneRestore link => Sys2Proof.Machine.execLaneRestore link s
  | .uhlLinkUp link partner => Sys2Proof.Machine.execUhlLinkUp link partner s
  | .uhlLinkDown link => Sys2Proof.Machine.execUhlLinkDown link s
  | .cycleFrame link residence frame => Sys2Proof.Machine.execCycleFrame link residence frame s
  | .linkDelayMeasure link hops => Sys2Proof.Machine.execLinkDelayMeasure link hops s
  | .dlyReq link m residence => Sys2Proof.Machine.execDlyReq link m residence s
  | .dlyRsp link m residence => Sys2Proof.Machine.execDlyRsp link m residence s
  | .cmdEnum q => Sys2Proof.Machine.execCmdEnum q s
  | .enum link m => Sys2Proof.Machine.execEnum link m s
  | .rollCall => Sys2Proof.Machine.execRollCall s
  | .roll link m => Sys2Proof.Machine.execRoll link m s
  | .rollAns link m => Sys2Proof.Machine.execRollAns link m s
  | .rollAnsMiss member => Sys2Proof.Machine.execRollAnsMiss member s
  | .deputyTakeover => Sys2Proof.Machine.execDeputyTakeover s
  | .handback q => Sys2Proof.Machine.execHandback q s
  | .linkFail link m => Sys2Proof.Machine.execLinkFail link m s
  | .restoreAnnounce => Sys2Proof.Machine.execRestoreAnnounce s
  | .restore q => Sys2Proof.Machine.execRestore q s
  | .chgAtApply => Sys2Proof.Machine.execChgAtApply s
  | .stkMapWrite q v => Sys2Proof.Machine.execStkMapWrite q v s
  | .stackWindowAccess q addr wdata => Sys2Proof.Machine.execStackWindowAccess q addr wdata s
  | .regRd link m => Sys2Proof.Machine.execRegRd link m s
  | .regWr link m => Sys2Proof.Machine.execRegWr link m s
  | .regRsp link m => Sys2Proof.Machine.execRegRsp link m s
  | .remoteAccessTimeout => Sys2Proof.Machine.execRemoteAccessTimeout s
  | .followRatio link m st p rho0 => Sys2Proof.Machine.execFollowRatio link m st p rho0 s
  | .followPos link m => Sys2Proof.Machine.execFollowPos link m s
  | .vote link m => Sys2Proof.Machine.execVote link m s
  | .voteEvaluate => Sys2Proof.Machine.execVoteEvaluate s
  | .order link m => Sys2Proof.Machine.execOrder link m s
  | .handover => Sys2Proof.Machine.execHandover s
  | .ownInChange in0 in1 => Sys2Proof.Machine.execOwnInChange in0 in1 s
  | .take q => Sys2Proof.Machine.execTake q s
  | .rejoin q => Sys2Proof.Machine.execRejoin q s
  | .rejoinPhaseEnd travel digests => Sys2Proof.Machine.execRejoinPhaseEnd travel digests s
  | .snap link m => Sys2Proof.Machine.execSnap link m s
  | .snapInstall piece complete => Sys2Proof.Machine.execSnapInstall piece complete s
  | .catchupTimeout => Sys2Proof.Machine.execCatchupTimeout s
  | .alvFeed q entry v => Sys2Proof.Machine.execAlvFeed q entry v s
  | .feedB q ctx v => Sys2Proof.Machine.execFeedB q ctx v s
  | .feedW q ctx v => Sys2Proof.Machine.execFeedW q ctx v s
  | .loadInit q ctx => Sys2Proof.Machine.execLoadInit q ctx s
  | .feed q => Sys2Proof.Machine.execFeed q s
  | .feedEnd => Sys2Proof.Machine.execFeedEnd s
  | .dramRead ch => Sys2Proof.Machine.execDramRead ch s
  | .dramWrite ch => Sys2Proof.Machine.execDramWrite ch s
  | .writeBatchEnd ch timed => Sys2Proof.Machine.execWriteBatchEnd ch timed s
  | .dramRefresh ch postpone => Sys2Proof.Machine.execDramRefresh ch postpone s
  | .dramTempPoll ch hot ovr => Sys2Proof.Machine.execDramTempPoll ch hot ovr s
  | .drcEnable q ch => Sys2Proof.Machine.execDrcEnable q ch s
  | .dramTrainEnd ch ok => Sys2Proof.Machine.execDramTrainEnd ch ok s
  | .dramTracking ch ns => Sys2Proof.Machine.execDramTracking ch ns s
  | .drcDisable q ch => Sys2Proof.Machine.execDrcDisable q ch s
  | .scrubLine ch => Sys2Proof.Machine.execScrubLine ch s
  | .injArm q ch v => Sys2Proof.Machine.execInjArm q ch v s
  | .sramPatrol array word error => Sys2Proof.Machine.execSramPatrol array word error s
  | .busRequest master id rt addr len wdata => Sys2Proof.Machine.execBusRequest master id rt addr len wdata s
  | .requestAged => Sys2Proof.Machine.execRequestAged s
  | .fenceDone => Sys2Proof.Machine.execFenceDone s
  | .quiet q => Sys2Proof.Machine.execQuiet q s
  | .active q => Sys2Proof.Machine.execActive q s
  | .retain q => Sys2Proof.Machine.execRetain q s
  | .deep q => Sys2Proof.Machine.execDeep q s
  | .psComplete => Sys2Proof.Machine.execPsComplete s
  | .wakeNFall => Sys2Proof.Machine.execWakeNFall s
  | .qsCsNFall => Sys2Proof.Machine.execQsCsNFall s
  | .wakeTempSample tj => Sys2Proof.Machine.execWakeTempSample tj s
  | .aonTimerExpire => Sys2Proof.Machine.execAonTimerExpire s
  | .wakeRetain => Sys2Proof.Machine.execWakeRetain s
  | .wakeDeep straps => Sys2Proof.Machine.execWakeDeep straps s
  | .retainScrubExcursion => Sys2Proof.Machine.execRetainScrubExcursion s
  | .thermalSample sensors => Sys2Proof.Machine.execThermalSample sensors s
  | .thermalRelease => Sys2Proof.Machine.execThermalRelease s
  | .shutdownFadeEnd => Sys2Proof.Machine.execShutdownFadeEnd s
  | .shutClr q => Sys2Proof.Machine.execShutClr q s
  | .thermtrip => Sys2Proof.Machine.execThermtrip s
  | .currentLimit estimate => Sys2Proof.Machine.execCurrentLimit estimate s
  | .vddDsLow => Sys2Proof.Machine.execVddDsLow s
  | .boostHoldoffEnd => Sys2Proof.Machine.execBoostHoldoffEnd s
  | .boostGrant => Sys2Proof.Machine.execBoostGrant s
  | .shedForceWrite q v => Sys2Proof.Machine.execShedForceWrite q v s
  | .start q => Sys2Proof.Machine.execStart q s
  | .engineStartTick phase => Sys2Proof.Machine.execEngineStartTick phase s
  | .stop q => Sys2Proof.Machine.execStop q s
  | .engineStopEnd => Sys2Proof.Machine.execEngineStopEnd s
  | .oscLoss => Sys2Proof.Machine.execOscLoss s
  | .oscReturn straps => Sys2Proof.Machine.execOscReturn straps s
  | .crumbWrite page => Sys2Proof.Machine.execCrumbWrite page s
  | .lostCrumb page => Sys2Proof.Machine.execLostCrumb page s
  | .partialLineTimeout => Sys2Proof.Machine.execPartialLineTimeout s
  | .markHi q v => Sys2Proof.Machine.execMarkHi q v s
  | .flush q => Sys2Proof.Machine.execFlush q s
  | .flushEnd => Sys2Proof.Machine.execFlushEnd s
  | .cntSnap q v => Sys2Proof.Machine.execCntSnap q v s
  | .loadMeterUpdate busy => Sys2Proof.Machine.execLoadMeterUpdate busy s
  | .ocDataRead q => Sys2Proof.Machine.execOcDataRead q s
  | .tapReset => Sys2Proof.Machine.execTapReset s
  | .extest pins shift => Sys2Proof.Machine.execExtest pins shift s
  | .idcode => Sys2Proof.Machine.execIdcode s
  | .samplePreload pins shift => Sys2Proof.Machine.execSamplePreload pins shift s
  | .clamp => Sys2Proof.Machine.execClamp s
  | .highz => Sys2Proof.Machine.execHighz s
  | .extestPulse pins shift => Sys2Proof.Machine.execExtestPulse pins shift s
  | .extestTrain pins shift => Sys2Proof.Machine.execExtestTrain pins shift s
  | .bypass => Sys2Proof.Machine.execBypass s
  | .pcieLinkUp up gen width => Sys2Proof.Machine.execPcieLinkUp up gen width s

end Sys2Proof.Machine
end

