-- ==== Sys2Proof/Safety.lean ====
section
/-! DEFINITION. What the claims call a safe state and a safe step: the memories in their canonical form, and a step that
answers a next state. -/
namespace Sys2Proof.Machine

/-- A codeword's record says something: an unlisted codeword has no error. -/
def eccUnlisted (_ : Nat) : CwErr := CwErr.none

/-- The memories are in the one canonical form of their contents: addresses strictly rising, no entry at the value an unlisted
address reads as. -/
def Memory.wf (m : MemState) : Bool :=
  mwf zeroB m.dram && mwf eccUnlisted m.ecc && mwf zeroB m.shared && mwf zeroW m.keep

/-- An outcome is a next state that satisfies p. -/
def Next (o : Out) (p : State → Prop) : Prop := ∃ t, o = .next t ∧ p t

/-- A command is one of the JTAG port's (R524). -/
def isTap : Instr → Bool
  | .tapReset => true
  | .extest _ _ => true
  | .idcode => true
  | .samplePreload _ _ => true
  | .clamp => true
  | .highz => true
  | .extestPulse _ _ => true
  | .extestTrain _ _ => true
  | .bypass => true
  | _ => false

/-- A command is a power-up: VDDIO_A rises, or OSC_IN returns (R528, R557). -/
def isPowerUp : Instr → Bool
  | .vddioARise _ => true
  | .oscReturn _ => true
  | _ => false

/-- The registers in which the observation collector and the message logic record what any command raises: OBS.IRQ_RAW, OBS.STAT
and OBS.LOST_TOTAL, and the MSI-X pending bits (R60, R517). -/
def isSide (a : Nat) : Bool := a == 0x7010 || a == 0x7054 || a == 0x7058 || a == 0x3C00 || a == 0x3C04

/-- The registers in which a page records an error: PAGE_STAT, ERR_CODE and ERR_INFO (R42, R44), and those every command may
touch. -/
def isErrReg (p a : Nat) : Bool := a == ra p 0x0C || a == ra p 0x20 || a == ra p 0x24 || isSide a

/-- From f to g no register changes but those of which p speaks, nor any bank, table, holding register, clock, operation or
ring of the fabric: what a command leaves when it does no more than write registers, raise causes and be observed. -/
structure Calm (p : Nat → Prop) (f g : Fabric) : Prop where
  regs : ∀ a, ¬p a → rdR g a = rdR f a
  bank0 : g.bank0 = f.bank0
  bank1 : g.bank1 = f.bank1
  own : g.own = f.own
  hold : g.hold = f.hold
  rdata : g.rdata = f.rdata
  late : g.late = f.late
  rstWait : g.rstWait = f.rstWait
  time : g.time = f.time
  msc : g.msc = f.msc
  fifo : g.fifo = f.fifo
  cntShadow : g.cntShadow = f.cntShadow
  ring : g.ring = f.ring
  ringLine : g.ringLine = f.ringLine

/-- From f to g nothing of the fabric changes but the registers listed, and what any raised cause may touch (isSide, counters,
crumbs, messages). -/
def Touches (l : List Nat) (f g : Fabric) : Prop := Calm (fun a => isSide a = true ∨ a ∈ l) f g

/-- The commands that a device held in reset takes: its reset, supply, clock and temperature pins, and the JTAG port (R503, R509,
R524, R528, R557, R569). -/
def isPinCommand : Instr → Bool
  | .resetNAssert _ => true
  | .resetNRelease _ => true
  | .pwrgoodFall => true
  | .pwrgoodRise _ => true
  | .vddioARise _ => true
  | .thermtrip => true
  | .oscLoss => true
  | .oscReturn _ => true
  | c => isTap c

/-- The command whose register write starts an operation, with the operation and its code (R72; each operation's chapter). -/
def opOfCommand : Instr → Option (OpId × Nat)
  | .loadMerge _ => some (.ld, 1)
  | .loadReplace _ => some (.ld, 2)
  | .clear _ => some (.ld, 3)
  | .swapArm _ g => some (.swap g, 1)
  | .save _ => some (.scene, 1)
  | .recall _ => some (.scene, 2)
  | .check _ => some (.scene, 3)
  | .load _ => some (.cnvLoad, 1)
  | .quiet _ => some (.ps, 1)
  | .active _ => some (.ps, 2)
  | .retain _ => some (.ps, 3)
  | .deep _ => some (.ps, 4)
  | .start _ => some (.eng, 1)
  | .stop _ => some (.eng, 2)
  | .rejoin _ => some (.rejoin, 1)
  | .feed _ => some (.feed, 1)
  | .flush _ => some (.flush, 1)
  | _ => none

/-- The core of a command that is an instruction of a core, and the bundle that holds it alone (R262, R263, R265). -/
def bundleOf : Instr → Option (Fin 16 × Bundle)
  | .nop c => some (c, ⟨.nop, .nop, .nop⟩)
  | .mac c a x1 y1 x2 y2 n l z => some (c, ⟨(.mac a x1 y1 x2 y2 n l z), .nop, .nop⟩)
  | .adda c a b => some (c, ⟨(.adda a b), .nop, .nop⟩)
  | .suba c a b => some (c, ⟨(.suba a b), .nop, .nop⟩)
  | .rnd c d a h => some (c, ⟨(.rnd d a h.toInt), .nop, .nop⟩)
  | .mvda c a d => some (c, ⟨(.mvda a d), .nop, .nop⟩)
  | .asha c a b h => some (c, ⟨(.asha a b h.toInt), .nop, .nop⟩)
  | .clra c a => some (c, ⟨(.clra a), .nop, .nop⟩)
  | .add c d x y => some (c, ⟨(.alu .add d x y), .nop, .nop⟩)
  | .adds c d x y => some (c, ⟨(.alu .adds d x y), .nop, .nop⟩)
  | .sub c d x y => some (c, ⟨(.alu .sub d x y), .nop, .nop⟩)
  | .subs c d x y => some (c, ⟨(.alu .subs d x y), .nop, .nop⟩)
  | .and c d x y => some (c, ⟨(.alu .and d x y), .nop, .nop⟩)
  | .or c d x y => some (c, ⟨(.alu .or d x y), .nop, .nop⟩)
  | .xor c d x y => some (c, ⟨(.alu .xor d x y), .nop, .nop⟩)
  | .min c d x y => some (c, ⟨(.alu .min d x y), .nop, .nop⟩)
  | .max c d x y => some (c, ⟨(.alu .max d x y), .nop, .nop⟩)
  | .mulr c d x y => some (c, ⟨(.alu .mulr d x y), .nop, .nop⟩)
  | .muli c d x y => some (c, ⟨(.alu .muli d x y), .nop, .nop⟩)
  | .asr c d x n => some (c, ⟨(.shift .asr d x n), .nop, .nop⟩)
  | .lsr c d x n => some (c, ⟨(.shift .lsr d x n), .nop, .nop⟩)
  | .lsl c d x n => some (c, ⟨(.shift .lsl d x n), .nop, .nop⟩)
  | .abs c d x => some (c, ⟨(.abs d x), .nop, .nop⟩)
  | .neg c d x => some (c, ⟨(.neg d x), .nop, .nop⟩)
  | .cmp c x y => some (c, ⟨(.cmp x y), .nop, .nop⟩)
  | .br c k o => some (c, ⟨(.br k o.toNat), .nop, .nop⟩)
  | .call c k o => some (c, ⟨(.call k o.toNat), .nop, .nop⟩)
  | .jr c k d => some (c, ⟨(.jr k d), .nop, .nop⟩)
  | .loop c l d e => some (c, ⟨(.loop l d e), .nop, .nop⟩)
  | .loopi c l n e => some (c, ⟨(.loopi l n.toNat e), .nop, .nop⟩)
  | .ldi c k v => some (c, ⟨(.ldi k v), .nop, .nop⟩)
  | .rti c => some (c, ⟨.rti, .nop, .nop⟩)
  | .wait c => some (c, ⟨.wait, .nop, .nop⟩)
  | .bdone c => some (c, ⟨.bdone, .nop, .nop⟩)
  | .halt c => some (c, ⟨.halt, .nop, .nop⟩)
  | .mvts c p d => some (c, ⟨(.mvts p d), .nop, .nop⟩)
  | .mvfs c d p => some (c, ⟨(.mvfs d p), .nop, .nop⟩)
  | .mov c d x => some (c, ⟨.nop, .nop, (.mov d x)⟩)
  | .ldx c i p r => some (c, ⟨.nop, .nop, (.mem false false i p r)⟩)
  | .stx c i p r => some (c, ⟨.nop, .nop, (.mem false true i p r)⟩)
  | .ldy c i p r => some (c, ⟨.nop, .nop, (.mem true false i p r)⟩)
  | .sty c i p r => some (c, ⟨.nop, .nop, (.mem true true i p r)⟩)
  | .modx c i p => some (c, ⟨.nop, .nop, (.mem false false i p 0x1F)⟩)
  | .mody c i p => some (c, ⟨.nop, .nop, (.mem true false i p 0x1F)⟩)
  | .setp c i v => some (c, ⟨.nop, .nop, (.imm (0x20 + i) v.toInt)⟩)
  | .setm c i v => some (c, ⟨.nop, .nop, (.imm (0x28 + i) v.toInt)⟩)
  | .setl c i v => some (c, ⟨.nop, .nop, (.imm (0x30 + i) v.toInt)⟩)
  | .setd c i v => some (c, ⟨.nop, .nop, (.imm i v.toInt)⟩)
  | _ => none

end Sys2Proof.Machine
end

