-- ==== Sys2Proof/Certificates/Slice0/Obligations.lean ====
section
/-! DEFINITION. The statements about the model of the OXZ1024 that are put to the provers. -/
open Sys2Proof Sys2Proof.Machine

-- The machine

/-- A step with command c at the front of the queue is exec of c on the state with the queue's rest.
A step on an empty queue leaves the block idle: the model's choice (log 1). -/
def Obligations.StepRunsTheFrontCommand : Prop :=
  (∀ (c : Instr) (rest : List Instr) (s : State), s.pending = c :: rest → step s = exec c { s with pending := rest }) ∧
  (∀ s : State, s.pending = [] → step s = .next s)

/-- Every command answers a next state, and none touches the queue of the commands that wait: the rest of the queue stays, in
its order, whatever the command does. -/
def Obligations.EveryCommandLeavesTheQueue : Prop :=
  ∀ (c : Instr) (s : State), Next (exec c s) (fun t => t.pending = s.pending)

/-- What reset leaves (R28, R41, R53, R489, R509): CHIP_ID and PCI_IDS, the session at 48 kHz with B = 16 and none running, RST_CAUSE showing
POR, the device in ACTIVE and out of reset with its PLLs not in lock, no page READY, and the JTAG port at IDCODE. -/
def Obligations.ResetLeavesTheSpecifiedState : Prop :=
  rdR State.reset.fab 0x40 = 0x1024B000#32 ∧ rdR State.reset.fab 0x44 = 0x10241F9A#32 ∧
  rdR State.reset.fab 0x4C = 1#32 ∧ rdR State.reset.fab 0x100 = 0x40#32 ∧ running State.reset.fab = false ∧
  blockLen State.reset.fab = 16 ∧ fsHz State.reset.fab = 48000 ∧ State.reset.pwr.state = .active ∧
  isHeld State.reset = false ∧ State.reset.pwr.locked = false ∧ State.reset.tap.instr = .idcode ∧
  rdN State.reset.fab (ra pMTX 0) = 0x09000200 ∧ (∀ p, p < 289 → ready State.reset.fab p = false)

/-- The memories of the reset state are in their canonical form. -/
def Obligations.ResetMemoriesAreCanonical : Prop := Memory.wf State.reset.mem = true

/-- Every step keeps the memories in their canonical form: DRAM, its codewords in error, the shared SRAM and the keep SRAM. -/
def Obligations.EveryStepKeepsMemoriesCanonical : Prop :=
  ∀ s t : State, Memory.wf s.mem = true → step s = .next t → Memory.wf t.mem = true

/-- IOBANK_SEL is read while VDDIO_A rises, and no other command changes what was read (R528).
THERMTRIP_N, once low, stays low until a power-up or a RESET_N with the junction cooled (R503). -/
def Obligations.LatchedPinRecordsStay : Prop :=
  ((∀ (sel : Bool) (s : State), Next (exec (.vddioARise sel) s) (fun t => t.pwr.iobank = sel)) ∧
   ∀ (c : Instr) (s t : State), (∀ sel, c ≠ .vddioARise sel) → exec c s = .next t → t.pwr.iobank = s.pwr.iobank) ∧
  (∀ (c : Instr) (s t : State), s.pwr.tripped = true → isPowerUp c = false → c ≠ .resetNAssert false → exec c s = .next t →
     t.pwr.tripped = true)

/-- The commands of the JTAG port complete in every state, held in reset or not, and change the TAP alone (R524, R542): a reset
and IDCODE select the identification register with 0x1102_456F, its lowest bit 1 nearest TDO; EXTEST, SAMPLE/PRELOAD,
EXTEST_PULSE and EXTEST_TRAIN capture the cells and take the bits shifted in; CLAMP, HIGHZ and BYPASS select the one-bit bypass
register and keep the boundary register.
No command but those of the JTAG port and a power-up touches the TAP (R524, R542): no reset, no write and no event of the
device reaches its instruction, its boundary register or its selected data register. -/
def Obligations.JtagPortAloneSetsTheTap : Prop :=
  (∀ (s : State) (pins shift : List Bool),
     (∀ c, c = .tapReset ∨ c = .idcode → Next (exec c s) (fun t =>
       t = { s with tap := t.tap } ∧ t.tap.instr = .idcode ∧ t.tap.boundary = s.tap.boundary ∧
       t.tap.dr.length = 32 ∧ ∀ n, n < 32 → t.tap.dr[n]? = some ((0x1102456F : Nat).testBit n))) ∧
     exec (.extest pins shift) s = .next { s with tap := ⟨.extest, shift, pins⟩ } ∧
     exec (.samplePreload pins shift) s = .next { s with tap := ⟨.sample, shift, pins⟩ } ∧
     exec (.extestPulse pins shift) s = .next { s with tap := ⟨.extestPulse, shift, pins⟩ } ∧
     exec (.extestTrain pins shift) s = .next { s with tap := ⟨.extestTrain, shift, pins⟩ } ∧
     exec .clamp s = .next { s with tap := ⟨.clamp, s.tap.boundary, [false]⟩ } ∧
     exec .highz s = .next { s with tap := ⟨.highz, s.tap.boundary, [false]⟩ } ∧
     exec .bypass s = .next { s with tap := ⟨.bypass, s.tap.boundary, [false]⟩ }) ∧
  (∀ (c : Instr) (s t : State), isTap c = false → isPowerUp c = false → exec c s = .next t → t.tap = s.tap)

-- Resets, supplies and clocks

/-- A device whose islands are held in reset (PWRGOOD or RESET_N low, OSC_IN lost, or THERMTRIP_N low; R503, R509, R557, R569) takes
no command but those of its pins and of the JTAG port: nothing changes. -/
def Obligations.HeldDeviceTakesOnlyItsPins : Prop :=
  ∀ (c : Instr) (s : State), isHeld s = true → isPinCommand c = false → exec c s = .next s

/-- RESET_N_ASSERT, PWRGOOD_FALL and THERMTRIP hold the device in reset: every register returns to its reset value but
SYS.RST_CAUSE, to whose record one cause is added (bit 1, or bit 3 for THERMTRIP); DRAM and keep SRAM keep their contents, time
and MSC are 0, the banks and every unit are as State.reset has them, and the JTAG port is not touched (R53, R503, R509, R569).
That PWRGOOD_FALL sets the bit of RESET_N is the model's choice (log 78). -/
def Obligations.ResetPinsReturnTheDeviceToReset : Prop :=
  ∀ (c : Instr) (n : Nat) (s : State),
    ((∃ hot, c = .resetNAssert hot) ∧ n = 1 ∨ c = .pwrgoodFall ∧ n = 1 ∨ c = .thermtrip ∧ n = 3 ∧ s.pwr.tripped = false) →
    Next (exec c s) (fun t =>
      isHeld t = true ∧ rdN t.fab 0x4C = Nat.lor (rdN s.fab 0x4C) (2 ^ n) ∧ (∀ a, a ≠ 0x4C → rdR t.fab a = regReset a) ∧
      (∀ b a, rdB t.fab b a = regReset a) ∧ t.fab.time = 0 ∧ t.fab.msc = 0 ∧ t.mem.dram = s.mem.dram ∧ t.mem.ecc = s.mem.ecc ∧
      t.mem.keep = s.mem.keep ∧ t.mem.shared = [] ∧ t.pwr.state = .active ∧ t.pwr.locked = false ∧ t.tap = s.tap ∧
      t = { State.reset with pending := t.pending, fab := t.fab, mem := t.mem, host := t.host, pwr := t.pwr, tap := t.tap })

/-- The rises of RESET_N and PWRGOOD let the device leave reset when the other and OSC_IN are there: the straps are sampled
into SYS.STRAPS, HST and TRI, IO_STAT shows the banks as measured, and an IO bank at the wrong supply raises SYS.IRQ_RAW[1]
(R509, R527, R528, R533, R569). A rise of a pin that is already high changes nothing. OSC_IN's loss holds the device and its
return restarts it as at power-on, with POR alone in RST_CAUSE (R557); so does the rise of VDDIO_A, which leaves PWRGOOD and
RESET_N low. -/
def Obligations.DeviceLeavesResetWithItsStraps : Prop :=
  ∀ (x : Straps) (s : State),
    (∀ c, c = .resetNRelease x ∧ s.pwr.resetN = false ∧ s.pwr.pwrgood = true ∧ s.pwr.osc = true ∨
        c = .pwrgoodRise x ∧ s.pwr.pwrgood = false ∧ s.pwr.resetN = true ∧ s.pwr.osc = true ∨
        c = .oscReturn x ∧ s.pwr.osc = false ∧ s.pwr.pwrgood = true ∧ s.pwr.resetN = true →
      Next (exec c s) (fun t =>
        rdN t.fab 0x58 = x.hostSel.toNat + x.stkRole.val * 2 + x.triPos.val * 8 + s.pwr.iobank.toNat * 32 ∧
        rdN t.fab 0x5C = s.pwr.iobank.toNat + (decide (bankMode x.mvA ≠ s.pwr.iobank.toNat)).toNat * 2 + bankMode x.mvB * 16 +
          bankMode x.mvC * 256 ∧
        getB t.fab (ra pHST 0x40) 9 = x.hostSel ∧
        (bankMode x.mvA ≠ s.pwr.iobank.toNat ∨ bankMode x.mvB = 2 ∨ bankMode x.mvC = 2 → getB t.fab 0x10 1 = true) ∧
        t.pwr.pwrgood = true ∧ t.pwr.resetN = true ∧ t.pwr.osc = true)) ∧
    (s.pwr.resetN = true → exec (.resetNRelease x) s = .next s) ∧ (s.pwr.pwrgood = true → exec (.pwrgoodRise x) s = .next s) ∧
    exec .oscLoss s = .next { s with pwr := { s.pwr with osc := false } } ∧
    (s.pwr.osc = false → Next (exec (.oscReturn x) s) (fun t => rdR t.fab 0x4C = 1#32 ∧ t.mem = MemState.reset)) ∧
    (∀ sel, Next (exec (.vddioARise sel) s) (fun t => rdR t.fab 0x4C = 1#32 ∧ t.mem = MemState.reset ∧ isHeld t = true ∧
      t.tap.instr = .idcode))

/-- A write of SYS.RST_CTRL.CHIP adds bit 2 to RST_CAUSE and keeps IO_STAT, DRAM, its codewords and the keep SRAM; every other
register but SYS.STRAPS, the copies of the straps in HST and TRI and the headers of the STK and UHL pages returns to its reset
value, both banks return to theirs, no session runs, and the device stays out of reset with its PLLs to lock again (R53). While the
SYS page is not READY the write is discarded.
PERST_N, where HOST_SEL selects PCIe, returns every register of the HST page but PAGE_STAT to its reset value, stops every DMA
channel and fences the host bridge: its requests that no target has accepted are discarded, and the fence runs unless it completes
at once; register pages, banks and audio keep running (R55, R485, R486). It is ignored where HOST_SEL selects QSPI or the device is
held in reset.
The PLLs lock once after a reset (R297, R510): every populated page but the two DRC pages reads READY, a further lock changes
nothing, and no bank, no memory and no unit but the timebase and the references is touched. -/
def Obligations.ChipResetPerstAndLock : Prop :=
  (∀ (q : Req) (x : Straps) (s : State),
     (isUp s = true → takesWrites s.fab pSYS = true → Next (exec (.chipReset q x) s) (fun t =>
       rdN t.fab 0x4C = Nat.lor (rdN s.fab 0x4C) 4 ∧ rdR t.fab 0x5C = rdR s.fab 0x5C ∧ isHeld t = false ∧ t.pwr.locked = false ∧
       rdN t.fab 0x58 = x.hostSel.toNat + x.stkRole.val * 2 + x.triPos.val * 8 + s.pwr.iobank.toNat * 32 ∧
       (∀ a, a ∉ [0x4C, 0x5C, 0x58, ra pHST 0x40, triAt 0x48] → pageOf a ∉ [pSTK, pUHL 0, pUHL 1] → rdR t.fab a = regReset a) ∧
       (∀ b a, rdB t.fab b a = regReset a) ∧
       running t.fab = false ∧ t.mem.dram = s.mem.dram ∧ t.mem.ecc = s.mem.ecc ∧ t.mem.keep = s.mem.keep ∧ t.tap = s.tap)) ∧
     (isUp s = true → takesWrites s.fab pSYS = false → exec (.chipReset q x) s = .next (failOn s pSYS 1 0x48)) ∧
     ((hostQspi s.fab = true ∨ isHeld s = true) → exec .perstN s = .next s) ∧
     (hostQspi s.fab = false → isHeld s = false → Next (exec .perstN s) (fun t =>
       t = { s with fab := t.fab, host := { s.host with jobs := [] }, bus := t.bus } ∧
       (∀ a, pageOf a = pHST → a ≠ ra pHST 0x0C → isSide a = false → rdR t.fab a = regReset a) ∧
       ready t.fab pHST = ready s.fab pHST ∧ t.fab.bank0 = s.fab.bank0 ∧ t.fab.bank1 = s.fab.bank1 ∧
       (∀ a, pageOf a ≠ pHST → pageOf a ≠ pBUS → isSide a = false → rdR t.fab a = rdR s.fab a) ∧
       (s.bus.fences.contains ⟨0, none, pHST⟩ = false →
         (∀ r, r ∈ t.bus.held ↔ r ∈ s.bus.held ∧ r.master ≠ 0) ∧ getB t.fab (ra pBUS 0x10) 2 = true ∧
         (t.bus.fences = s.bus.fences ++ [⟨0, none, pHST⟩] ∧ t.bus.outst = s.bus.outst ∨
           t.bus.fences = s.bus.fences ∧ getB t.fab (ra pBUS 0x10) 3 = true ∧ ∀ o, o ∈ t.bus.outst → o.1.master ≠ 0))))) ∧
  (∀ s : State, isHeld s = false → s.pwr.state ≠ .deep →
     (s.pwr.locked = true → exec .systemPllLock s = .next s) ∧
     (s.pwr.locked = false → Next (exec .systemPllLock s) (fun t =>
       t.pwr = { s.pwr with locked := true } ∧ t = { s with fab := t.fab, pwr := t.pwr, tb := t.tb, ref := t.ref } ∧
       t.fab.bank0 = s.fab.bank0 ∧ t.fab.bank1 = s.fab.bank1 ∧
       (∀ p, p < 289 → (blockOf p).isSome = true → p ≠ 5 → p ≠ 6 → ready t.fab p = true))))

-- The register fabric

/-- R29: a write to SYS.SESSION_CFG while RUNNING or PENDING is 1, or with a reserved BLOCK code, leaves the whole register as it
is and sets SYS.SESSION_STAT.CFG_REJ; it has no other effect. -/
def Obligations.RejectedSessionConfigChangesNothing : Prop :=
  ∀ (q : Req) (v : Word) (s : State), isUp s = true → ready s.fab pSYS = true →
    (running s.fab = true ∨ startPending s.fab = true ∨ 5 < fld v 6 4) →
    exec (.sessionCfgWrite q v) s = .next { s with fab := putB s.fab 0x104 8 true } ∧
    rdR (putB s.fab 0x104 8 true) 0x100 = rdR s.fab 0x100 ∧ getB (putB s.fab 0x104 8 true) 0x104 8 = true

/-- An accepted write to SYS.SESSION_CFG stores its RATE and BLOCK fields and nothing else (R28); while the SYS page is not READY
every write is discarded with NOT_READY (R54).
A write of BANK_CTRL (R171, R172): while the unit is PENDING, LOCKED or COPYING it is rejected with REJECTED; else JOIN and GROUP
take the value and ACTIVE stays; a page that is no controller page has no such register. -/
def Obligations.SessionConfigAndBankControl : Prop :=
  (∀ (q : Req) (v : Word) (s : State), isUp s = true →
     (ready s.fab pSYS = true → running s.fab = false → startPending s.fab = false → fld v 6 4 ≤ 5 →
       exec (.sessionCfgWrite q v) s = .next { s with fab := wrR s.fab 0x100 (v &&& 0x71) }) ∧
     (ready s.fab pSYS = false → exec (.sessionCfgWrite q v) s = .next (failOn s pSYS 1 0x100))) ∧
  (∀ (q : Req) (p : Fin 1024) (v : Word) (s : State), isUp s = true →
     (isCtrlPage p = false → exec (.bankCtrlWrite q p v) s = .next s) ∧
     (isCtrlPage p = true → (getB s.fab (ra p 0x2C) 0 = true ∨ unitHeld s.fab p = true) →
       exec (.bankCtrlWrite q p v) s = .next (failOn s p 6 0x28)) ∧
     (isCtrlPage p = true → getB s.fab (ra p 0x2C) 0 = false → unitHeld s.fab p = false → Next (exec (.bankCtrlWrite q p v) s) (fun t =>
       t = { s with fab := t.fab } ∧ getF t.fab (ra p 0x28) 12 8 = fld v 12 8 ∧ actB t.fab p = actB s.fab p ∧
       Touches [ra p 0x28] s.fab t.fab)))

/-- The first error of a page loads ERR_CODE and ERR_INFO and sets ERR; a later one sets ERR_CODE.MORE and changes nothing else
(R44). Here by the writes of one register: a page that does not take writes answers NOT_READY with the register's offset (R54).
Header registers of every populated page (R14, R16, R42 to R44): a write of IRQ_RAW clears the bits that are 1; a write of IRQ_EN
stores the bits of causes the page has (that the others stay 0 is the model's choice, log 80); a write of 1 to ERR clears ERR, ERR_CODE
and ERR_INFO; one of PAGE_CTRL is a SOFT_RST where bit 1 is 1 (its ENABLE bit then ignored: the model's choice, log 81) and else a write
of ENABLE; one of BANK_CTRL is BANK_CTRL_WRITE; PAGE_ID, PAGE_CAP, IRQ_PEND, ERR_CODE, ERR_INFO, BANK_STAT and the reserved words
discard writes.
A write of a block register whose write does not act, on a page that takes writes (R14, R16, R171, R173): its RW bits take the value
and its W1C bits that are written 1 clear, in the one value, in the requester's own value, or in the shadow bank of the unit, which
becomes DIRTY, or rejects the write while it is locked or copying; nothing else changes. -/
def Obligations.HeaderRegistersAndErrors : Prop :=
  (∀ (q : Req) (a : Nat) (v : BitVec 64) (s : State), isUp s = true → a < 0x40_0000 → a % 4 = 0 → (rowOf a).isSome = true →
     0x40 ≤ offOf a → takesWrites s.fab (pageOf a) = false →
     (getB s.fab (ra (pageOf a) 0x0C) 2 = true →
       exec (.registerWrite q a .b32 v) s = .next { s with fab := putB s.fab (ra (pageOf a) 0x20) 31 true }) ∧
     (getB s.fab (ra (pageOf a) 0x0C) 2 = false → Next (exec (.registerWrite q a .b32 v) s) (fun t =>
       t = { s with fab := t.fab } ∧ rdR t.fab (ra (pageOf a) 0x20) = 1#32 ∧ rdN t.fab (ra (pageOf a) 0x24) = offOf a ∧
       getB t.fab (ra (pageOf a) 0x0C) 2 = true ∧
       Touches [ra (pageOf a) 0x0C, ra (pageOf a) 0x20, ra (pageOf a) 0x24] s.fab t.fab))) ∧
  (∀ (q : Req) (p : Nat) (b : Block) (n : Nat) (v : BitVec 64) (s : State), isUp s = true → blockOf p = some (b, n) →
     exec (.registerWrite q (ra p 0x10) .b32 v) s =
       .next { s with fab := wrR s.fab (ra p 0x10) (rdR s.fab (ra p 0x10) &&& ~~~(BitVec.ofNat 32 v.toNat)) } ∧
     Next (exec (.registerWrite q (ra p 0x14) .b32 v) s) (fun t => t = { s with fab := t.fab } ∧
       rdR t.fab (ra p 0x14) = BitVec.ofNat 32 v.toNat &&& BitVec.ofNat 32 (irqMask b n) ∧ Touches [ra p 0x14] s.fab t.fab) ∧
     (v.getLsbD 2 = true → Next (exec (.registerWrite q (ra p 0x0C) .b32 v) s) (fun t => t = { s with fab := t.fab } ∧
       getB t.fab (ra p 0x0C) 2 = false ∧ rdR t.fab (ra p 0x20) = 0 ∧ rdR t.fab (ra p 0x24) = 0 ∧
       Touches [ra p 0x0C, ra p 0x20, ra p 0x24] s.fab t.fab)) ∧
     (v.getLsbD 2 = false → exec (.registerWrite q (ra p 0x0C) .b32 v) s = .next s) ∧
     (∀ o, o ∈ [0, 4, 0x18, 0x1C, 0x20, 0x24, 0x2C, 0x30, 0x34, 0x38, 0x3C] → exec (.registerWrite q (ra p o) .b32 v) s = .next s)) ∧
  (∀ (q : Req) (p : Fin 1024) (v : BitVec 64) (s : State), isUp s = true → (blockOf p).isSome = true →
     (v.getLsbD 1 = true → exec (.registerWrite q (ra p 0x08) .b32 v) s = exec (.softRst q p) s) ∧
     (v.getLsbD 1 = false → exec (.registerWrite q (ra p 0x08) .b32 v) s = exec (.pageEnableWrite q p (v.getLsbD 0)) s) ∧
     exec (.registerWrite q (ra p 0x28) .b32 v) s = exec (.bankCtrlWrite q p (BitVec.ofNat 32 v.toNat)) s) ∧
  (∀ (q : Req) (a : Nat) (v : BitVec 64) (r : RegRow) (s : State), isUp s = true → a < 0x40_0000 → a % 4 = 0 → rowOf a = some r →
     0x40 ≤ offOf a → takesWrites s.fab (pageOf a) = true → actsOnWrite a = false →
     (r.kind = .plain ∨ r.kind = .strap → exec (.registerWrite q a .b32 v) s =
       .next { s with fab := wrR s.fab a (storeReg r (rdR s.fab a) (BitVec.ofNat 32 v.toNat)) }) ∧
     (r.kind = .own → Next (exec (.registerWrite q a .b32 v) s) (fun t => t = { s with fab := { s.fab with own := t.fab.own } } ∧
       rdO t.fab q.code a = storeReg r (rdO s.fab q.code a) (BitVec.ofNat 32 v.toNat) ∧
       ∀ k b, b < 2 ^ 24 → (k ≠ q.code ∨ b ≠ a) → rdO t.fab k b = rdO s.fab k b)) ∧
     (r.kind = .banked → shadowGate s.fab (ctrlOf (pageOf a)) ≠ 0 →
       exec (.registerWrite q a .b32 v) s = .next (failOn s (pageOf a) (shadowGate s.fab (ctrlOf (pageOf a))) (offOf a))) ∧
     (r.kind = .banked → shadowGate s.fab (ctrlOf (pageOf a)) = 0 → Next (exec (.registerWrite q a .b32 v) s) (fun t =>
       t = { s with fab := t.fab } ∧ getB t.fab (ra (ctrlOf (pageOf a)) 0x2C) 3 = true ∧
       rdB t.fab (!actB s.fab (ctrlOf (pageOf a))) a =
         storeReg r (rdB s.fab (!actB s.fab (ctrlOf (pageOf a))) a) (BitVec.ofNat 32 v.toNat) ∧
       (∀ b k, ¬(b = !actB s.fab (ctrlOf (pageOf a)) ∧ k = a) → rdB t.fab b k = rdB s.fab b k) ∧
       ∀ k, k ≠ ra (ctrlOf (pageOf a)) 0x2C → rdR t.fab k = rdR s.fab k)))

/-- Accesses of a size or alignment that R46 and R47 do not allow: a write of 8 or 16 bits, and an unaligned access, change nothing
but what records a SIZE access error (R50).
An access to an address that nothing answers reads 0, discards its write and records an UNMAPPED, NOT_READY or DRAM_RESERVED
access error of its space (R49, R50, R58, R428, R472); one that is answered is none. -/
def Obligations.AccessErrorsAreRecorded : Prop :=
  (∀ (q : Req) (a : Nat) (z : AccSize) (v : BitVec 64) (s : State), isUp s = true →
     (∀ c, (c = .registerWrite q a z v ∨ c = .windowWrite q a z v) ∧ (z = .b8 ∨ z = .b16 ∨ sizeAligned a z = false) →
       Next (exec c s) (fun t => t = { s with fab := t.fab } ∧ getB t.fab 0x10 0 = true ∧ getB t.fab 0x54 31 = true ∧
         Touches [0x10, 0x50, 0x54] s.fab t.fab ∧
         (getB s.fab 0x54 31 = false → rdR t.fab 0x50 = BitVec.ofNat 32 a ∧ getF t.fab 0x54 9 8 = 1 ∧ getB t.fab 0x54 7 = true ∧
           getF t.fab 0x54 3 0 = q.code))) ∧
     (sizeAligned a z = false → Next (exec (.pairRead q a z) s) (fun t => t = { s with fab := t.fab } ∧
       getB t.fab 0x10 0 = true ∧ getB t.fab 0x54 31 = true ∧ (∀ k, isSide k = false → k ∉ [0x10, 0x50, 0x54] → rdR t.fab k = rdR s.fab k)))) ∧
  (∀ (q : Req) (sp : Space) (a : Nat) (w : Bool) (s : State), isUp s = true →
     let k : Option AccKind := match sp with
       | .bar0 => if (if w then (busWrite s q.code (a / 4 * 4) 0).2 else (peek s q.code (a / 4 * 4)).isNone) then some .unmapped else none
       | .stackWindow => if a / 2 ^ 24 ≠ stkId s.fab ∧ !(isTimer s.fab && enabled s.fab pSTK && reachable s.fab s.stk (a / 2 ^ 24))
           then some .unmapped else none
       | .dram => dramFault s.fab a 1
     (k = none → exec (.unmappedAccess q sp a w) s = .next s) ∧
     ∀ e, k = some e → Next (exec (.unmappedAccess q sp a w) s) (fun t => t = { s with fab := t.fab } ∧
       getB t.fab 0x10 0 = true ∧ getB t.fab 0x54 31 = true ∧ (w = false → mget zeroN t.fab.rdata q.code = 0) ∧
       (∀ r, isSide r = false → r ∉ [0x10, 0x50, 0x54] → rdR t.fab r = rdR s.fab r) ∧
       (getB s.fab 0x54 31 = false → rdR t.fab 0x50 = BitVec.ofNat 32 a ∧ getF t.fab 0x54 9 8 = e.code ∧
         getF t.fab 0x54 11 10 = sp.code ∧ getB t.fab 0x54 7 = w ∧ getF t.fab 0x54 3 0 = q.code)))

/-- A 64-bit write at a multiple of 4 of a register page is two 32-bit writes, the lower address first (R46).
The other window writes (R46, R47, R49, R119, R120, R249, R291): outside every window and at the interpolator table they are
UNMAPPED; a core's memories take the word where its page is READY, but not program memory while the core starts, runs or waits
(error 0x0100); a 64-bit write is two writes of 32 bits, the lower address first, unless the low word is a praline's CTRL word that
its checks reject, which leaves both words. -/
def Obligations.WideAndOtherWindowWrites : Prop :=
  (∀ (q : Req) (a : Nat) (v : BitVec 64) (s : State), isUp s = true → a < 0x40_0000 → a % 4 = 0 →
     Next (exec (.registerWrite q a .b32 v) s) (fun u => isUp u = true →
       exec (.registerWrite q a .b64 v) s = exec (.registerWrite q (a + 4) .b32 (v >>> 32)) u)) ∧
  (∀ (q : Req) (a : Nat) (v : BitVec 64) (s : State), isUp s = true → 0x40_0000 ≤ a →
     (a % 4 = 0 → (winPlace a = .unmapped ∨ winPlace a = .reserved ∨ ∃ p k, winPlace a = .interp p k) → Next (exec (.windowWrite q a .b32 v) s) (fun t =>
       t = { s with fab := t.fab } ∧ getB t.fab 0x10 0 = true ∧ Touches [0x10, 0x50, 0x54] s.fab t.fab)) ∧
     (∀ c off, a % 4 = 0 → winPlace a = .core c off →
       (ready s.fab (pDSP c) = false → exec (.windowWrite q a .b32 v) s = .next (failOn s (pDSP c) 1 off)) ∧
       (ready s.fab (pDSP c) = true → 0x1_0000 ≤ off → off < 0x2_4000 → Next (exec (.windowWrite q a .b32 v) s) (fun t =>
         t = { s with cores := t.cores } ∧ t.cores = setCore s.cores c { coreOf s.cores c with
           x := mset zeroW (coreOf s.cores c).x ((off - 0x1_0000) / 4) (BitVec.ofNat 32 v.toNat) })) ∧
       (ready s.fab (pDSP c) = true → off < 0x1_0000 → (coreSt s.fab c = 1 ∨ coreSt s.fab c = 2 ∨ coreSt s.fab c = 3) →
         exec (.windowWrite q a .b32 v) s = .next (failOn s (pDSP c) 0x0100 off))) ∧
     (a % 8 = 0 → pairRejected s.fab a (BitVec.ofNat 32 v.toNat) = true →
       exec (.windowWrite q a .b64 v) s = exec (.windowWrite q a .b32 v) s) ∧
     (a % 8 = 0 → pairRejected s.fab a (BitVec.ofNat 32 v.toNat) = false → Next (exec (.windowWrite q a .b32 v) s) (fun u =>
       isUp u = true → exec (.windowWrite q a .b64 v) s = exec (.windowWrite q (a + 4) .b32 (v >>> 32)) u)))

/-- A 32-bit read of the low word of a pair returns it and holds the high word, as it is then, for the requester, whose next read of
that address returns what was held and uses it up; a 64-bit read returns both words at once (R46, R48). A 32-bit read of any other
word without a side effect, and one of 8 or 16 bits of any word, returns the value or its part and changes nothing else (R46, R47).
A read of OBJ_POS_X holds the three words after it, which the requester's following reads return (R147). -/
def Obligations.PairReadsHoldTheirSecondWord : Prop :=
  (∀ (q : Req) (a : Nat) (v : Word) (s : State), isUp s = true → a % 4 = 0 → peek s q.code a = some v →
    ((held s.fab q.code).any (fun w => w.1 == a)) = false →
    (a < 0x40_0000 → isPair a = true → readEffect s q.code a = none →
      Next (exec (.pairRead q a .b32) s) (fun t => t = { s with fab := t.fab } ∧ mget zeroN t.fab.rdata q.code = v.toNat ∧
        held t.fab q.code = [(a + 4, wordAfter s q.code a)] ∧ (∀ k, rdR t.fab k = rdR s.fab k) ∧
        Next (exec (.pairRead q (a + 4) .b32) t) (fun u => (rowOf (a + 4)).isSome → u = { t with fab := u.fab } ∧
          mget zeroN u.fab.rdata q.code = (wordAfter s q.code a).toNat ∧ held u.fab q.code = [])) ∧
      ((rowOf (a + 4)).isSome = true → Next (exec (.pairRead q a .b64) s) (fun t => t = { s with fab := t.fab } ∧
        mget zeroN t.fab.rdata q.code = v.toNat + (wordAfter s q.code a).toNat * 2 ^ 32 ∧ held t.fab q.code = [] ∧
        (∀ k, rdR t.fab k = rdR s.fab k)))) ∧
    ((0x40_0000 ≤ a ∨ isPair a = false ∧ readEffect s q.code a = none) →
      exec (.pairRead q a .b32) s = .next { s with fab := answer s.fab q.code v.toNat }) ∧
    (∀ j, j < 4 → exec (.pairRead q (a + j) .b8) s = .next { s with fab := answer s.fab q.code (v.toNat / 2 ^ (8 * j) % 2 ^ 8) }) ∧
    (∀ j, j < 4 → j % 2 = 0 →
      exec (.pairRead q (a + j) .b16) s = .next { s with fab := answer s.fab q.code (v.toNat / 2 ^ (8 * j) % 2 ^ 16) })) ∧
  (∀ (q : Req) (o : Fin 1024) (s : State), isUp s = true →
    let p := ra (169 + o / 128) (0x40 + 0x10 * (o % 128))
    ((held s.fab q.code).any (fun w => w.1 == p)) = false →
      Next (exec (.objPosRead q o) s) (fun t => t = { s with fab := t.fab } ∧ mget zeroN t.fab.rdata q.code = rdN s.fab p ∧
        held t.fab q.code = [4, 8, 12].map (fun d => (p + d, rdR s.fab (p + d))) ∧ (∀ k, rdR t.fab k = rdR s.fab k) ∧
        ∀ d, d ∈ [4, 8, 12] → Next (exec (.pairRead q (p + d) .b32) t) (fun u =>
          u = { t with fab := u.fab } ∧ held u.fab q.code = held t.fab q.code ∧
          mget zeroN u.fab.rdata q.code = rdN s.fab (p + d))))

/-- An accepted write of a window word goes to the shadow bank of its unit and marks it DIRTY, whatever else the banks hold (R47,
R119, R171); a unit that is locked or copying, or whose page is not READY, leaves the shadow unchanged and records BANK_LOCKED,
SHADOW_BUSY or NOT_READY (R54, R173). The CTRL word of a praline has its own checks and is stated below. -/
def Obligations.WindowWritesGoToTheShadowBank : Prop :=
  ∀ (q : Req) (a c mask : Nat) (v : BitVec 64) (s : State), isUp s = true → a % 4 = 0 → 0x40_0000 ≤ a →
    winPlace a = .bank c mask → ¬(a < 0x41_0000 ∧ a % 0x40 = 0) →
    (ready s.fab c = true → shadowGate s.fab c = 0 → mask ≠ 0 → Next (exec (.windowWrite q a .b32 v) s) (fun t =>
      t = { s with fab := t.fab } ∧ rdShd t.fab c a = BitVec.ofNat 32 v.toNat &&& BitVec.ofNat 32 mask ∧
      (∀ b k, ¬(b = !actB s.fab c ∧ k = a) → rdB t.fab b k = rdB s.fab b k) ∧ getB t.fab (ra c 0x2C) 3 = true ∧
      (∀ k, k ≠ ra c 0x2C → k ≠ ra pREN 0x74 → rdR t.fab k = rdR s.fab k))) ∧
    (ready s.fab c = true → shadowGate s.fab c = 0 → mask = 0 → exec (.windowWrite q a .b32 v) s = .next s) ∧
    (∀ e, (ready s.fab c = false ∧ e = 1 ∨ ready s.fab c = true ∧ locked s.fab c = true ∧ e = 0x01F0 ∨
        ready s.fab c = true ∧ locked s.fab c = false ∧ copying s.fab c = true ∧ e = 5) →
      exec (.windowWrite q a .b32 v) s = .next (failOn s c e (winInfo a)))

/-- A write of a praline's CTRL word is checked in the order of R123: the alignment and extent of the block, the object against
CAP_OBJ, and the demand against CAP_PATH; a word that fails one leaves the shadow unchanged, and one that passes is stored (R120). -/
def Obligations.PralineControlIsChecked : Prop :=
  ∀ (q : Req) (o : Fin 1024) (v : Word) (s : State), isUp s = true → ready s.fab pREN = true → shadowGate s.fab pREN = 0 →
    let w := v &&& 0x03FF_030F
    (fpWidth w = 0 ∨ fld w 25 16 % (fpWidth w / 64) ≠ 0 ∨ 1024 < fld w 25 16 + fpWidth w / 64 →
      exec (.pralineCtrlWrite q o v) s = .next (failOn s pREN 0x0102 (winInfo (pralineAt o)))) ∧
    (¬(fpWidth w = 0 ∨ fld w 25 16 % (fpWidth w / 64) ≠ 0 ∨ 1024 < fld w 25 16 + fpWidth w / 64) → bit w 0 = true → capObj s.fab ≤ o →
      exec (.pralineCtrlWrite q o v) s = .next (failOn s pREN 0x0101 (winInfo (pralineAt o)))) ∧
    (pralineCheck s.fab o w ≠ 0 →
      exec (.pralineCtrlWrite q o v) s = .next (failOn s pREN (pralineCheck s.fab o w) (winInfo (pralineAt o)))) ∧
    (pralineCheck s.fab o w = 0 → Next (exec (.pralineCtrlWrite q o v) s) (fun t => t = { s with fab := t.fab } ∧
      rdShd t.fab pREN (pralineAt o) = w ∧ getB t.fab (ra pREN 0x2C) 3 = true ∧
      (∀ b k, ¬(b = !actB s.fab pREN ∧ k = pralineAt o) → rdB t.fab b k = rdB s.fab b k) ∧
      (∀ k, k ≠ ra pREN 0x2C → rdR t.fab k = rdR s.fab k)))

-- Pages: ENABLE, soft resets, counters, bank control

/-- A write of PAGE_CTRL.ENABLE (R42). One that changes nothing, and any on the BUS page or an unpopulated page, has no effect. On
the pages whose unit follows ENABLE by itself it sets the bit alone. TB: armed comparators whose target was reached meanwhile fire
late (R311). REF: 0 goes to HOLDOVER from ACQUIRE, LOCKED or RELOCK, 1 re-evaluates the selection (R343). TRI: 1 shows position and
V_EFF, or takes a role in a session, 0 enters OFF (R433, R457). UHL: 1 trains the link, 0 takes it down (R429). NET: LINK_UP and the
lane follow (R397). STRM[0]: every admitted RX stream fades from its weight (R392, R398). INC[0]: every channel has a synchronising
reset or fades out (R240, R247). MTX[0]: the output fade starts (R184). DSP: 1 in STOPPED starts the core, or sheds it, 0 stops it
and drops its DMA (R287, R290, R291). CG_ENABLE, CG_DISABLE, DRC_ENABLE, DRC_DISABLE and DSP_ENABLE_WRITE are this write on their pages
(R346, R359, R472, R488). -/
def Obligations.EnableOfEveryPage : Prop :=
  ∀ (q : Req) (p : Fin 1024) (on : Bool) (s : State), isUp s = true →
    let g := putB s.fab (ra p 0x08) 0 on
    let c := Instr.pageEnableWrite q p on
    (enabled s.fab p = on → exec c s = .next s) ∧ (blockOf p = none → exec c s = .next s) ∧
    (∀ b n, blockOf p = some (b, n) → enabled s.fab p ≠ on →
      (b = .BUS → exec c s = .next s) ∧
      (b ∈ [Block.SYS, .PWR, .THM, .HST, .OBS, .CRCU, .STK, .SAP, .REN, .SPK, .CNV, .DSPSH] ∨ b ∈ [.MTX, .STRM, .INC] ∧ n ≠ 0 →
        exec c s = .next { s with fab := g }) ∧
      (b = .TB → Next (exec c s) (fun t => t = { s with fab := g, tb := t.tb } ∧ ∀ i, i < 8 →
        (cmpOf t.tb i).late = (on && cmpArmed s.fab i && cmpReached s.fab s.tb i || (cmpOf s.tb i).late))) ∧
      (b = .REF → exec c s = .next (if on = true then onRef { s with fab := g } refSelect
          else if [1, 2, 5].contains (dpllSt s.fab) = true then onRef { s with fab := g } (fun f x => enterHoldover f x false) else { s with fab := g }) ∧
        (on = false → dpllSt s.fab ∈ [1, 2, 5] → Next (exec c s) (fun t => dpllSt t.fab = 3 ∧ t.ref.sel = none))) ∧
      (b = .TRI → Next (exec c s) (fun t => t = { s with fab := t.fab, tri := t.tri } ∧ enabled t.fab p = on ∧
        (on = false → triRole t.fab = 0 ∧ getB t.fab (triAt 0x48) 16 = false ∧ opRunning t.fab .rejoin = false) ∧
        (on = true → getF t.fab (triAt 0x48) 5 4 = posSel s.fab % 4 ∧ rdN t.fab (triAt 0x50) = vEff s.fab ∧
          (running s.fab = true → triRole t.fab = if posSel s.fab = 0 ∨ triMacaron s.fab = true ∧ posSel s.fab = 3 then 0 else 4) ∧
          (running s.fab = false → t.tri = s.tri)))) ∧
      (b = .UHL → Next (exec c s) (fun t => t = { s with fab := t.fab, stk := t.stk } ∧ enabled t.fab p = on ∧
        (on = true → (linkOf t.stk n).training = true ∧ (linkOf t.stk n).trained = false ∧
          (linkOf t.stk n).rate = if getF s.fab (uhlAt n 0x40) 1 0 = 2 then 2 else 1) ∧
        (on = false → linkOf t.stk n = UhlLink.reset ∧ rdN t.fab (uhlAt n 0x44) = 0))) ∧
      (b = .NET → Next (exec c s) (fun t => t = { s with fab := t.fab, net := t.net } ∧ enabled t.fab p = on ∧
        (on = false → rdN t.fab (netAt n 0x44) = 0) ∧ (on = true → t.net = s.net ∧ rdN t.fab (netAt n 0x44) = rdN s.fab (netAt n 0x44)))) ∧
      (b = .STRM → n = 0 → Next (exec c s) (fun t => t = { s with fab := t.fab, strm := t.strm } ∧ enabled t.fab p = on ∧
        ∀ e, e ∈ rxActs s.strm → (rxOf t.strm e.1).ph = phFade (rxOf s.strm e.1).ph)) ∧
      (b = .INC → n = 0 → exec c s = .next { s with fab := g, inc := { s.inc with on := on, chs := s.inc.chs.map (fun e =>
        (e.1, if on then { e.2 with due := true } else { e.2 with fade := some s.inc.next })) } }) ∧
      (b = .MTX → n = 0 → ∀ w, w = blockStart s.fab + blockLen s.fab →
        (running s.fab = true → exec c s = .next { s with fab := g, mtx := { s.mtx with fade := ⟨w, fadeLevel s.mtx.fade (w - 1), on⟩ } }) ∧
        (running s.fab = false → exec c s = .next { s with fab := g, mtx := { s.mtx with fade := ⟨0, if on then 128 else 0, on⟩ } })) ∧
      (b = .DSP → Next (exec c s) (fun t => t = { s with fab := t.fab, cores := t.cores, bus := t.bus } ∧ enabled t.fab p = on ∧
        (on = false → coreSt t.fab n = 0 ∧ (coreOf t.cores n).dma = none ∧ getB t.fab (dspAt n 0x0C) 3 = false) ∧
        (on = true → coreSt s.fab n = 0 → coreSt t.fab n = if isShed s.fab 1 && getB s.fab (dspAt n 0x40) 1 then 6 else 1)))) ∧
    (∀ i : Fin 16, p.val = pCG i → exec (.cgEnable q i) s = exec (.pageEnableWrite q p true) s ∧
      exec (.cgDisable q i) s = exec (.pageEnableWrite q p false) s) ∧
    (∀ ch : Fin 2, p.val = pDRC ch → exec (.drcEnable q ch) s = exec (.pageEnableWrite q p true) s ∧
      exec (.drcDisable q ch) s = exec (.pageEnableWrite q p false) s) ∧
    (∀ i : Fin 16, p.val = pDSP i → exec (.dspEnableWrite q i on) s = exec (.pageEnableWrite q p on) s)

/-- ENABLE of a clock generator (R346, R349, R359): at a rate its PLL reaches it goes from OFF to WAIT and shows the M value in
force; at another it is rejected with 0x0101 and stays OFF; a written 0 clears ENABLE: from WAIT it goes OFF, from a later state it
fades out in STOPPING, or is OFF where nothing is left to fade.
ENABLE of a DRAM channel (R472, R488): a written 1 starts the training; a written 0 is rejected while a session runs, and
otherwise empties the write queue, puts the die into self-refresh and clears READY. The bytes of the other channel and the shared
and keep SRAM stay. -/
def Obligations.EnableOfClockGeneratorsAndDram : Prop :=
  (∀ (q : Req) (i : Fin 16) (s : State), isUp s = true →
     (enabled s.fab (pCG i) = false → cgSt s.fab i = 0 → rateOk s.fab i = true → Next (exec (.cgEnable q i) s) (fun t =>
       t = { s with fab := t.fab, ports := t.ports } ∧ enabled t.fab (pCG i) = true ∧ cgSt t.fab i = 1 ∧
       rdN t.fab (cgAt i 0x64) = getF s.fab (cgAt i 0x44) 12 0 ∧ rdN t.fab (cgAt i 0x68) = getF s.fab (cgAt i 0x48) 23 0 ∧
       (∀ a, pageOf a ≠ pCG i → isSide a = false → rdR t.fab a = rdR s.fab a))) ∧
     (enabled s.fab (pCG i) = false → cgSt s.fab i = 0 → rateOk s.fab i = false → Next (exec (.cgEnable q i) s) (fun t =>
       t = { s with fab := t.fab } ∧ enabled t.fab (pCG i) = false ∧ cgSt t.fab i = 0 ∧
       (getB s.fab (ra (pCG i) 0x0C) 2 = false → rdR t.fab (ra (pCG i) 0x20) = 0x101#32))) ∧
     (enabled s.fab (pCG i) = true → Next (exec (.cgDisable q i) s) (fun t =>
       t = { s with fab := t.fab, ports := t.ports } ∧ enabled t.fab (pCG i) = false ∧
       (cgSt s.fab i = 1 → cgSt t.fab i = 0) ∧ (1 < cgSt s.fab i → cgSt t.fab i = 5 ∨ cgSt t.fab i = 0)))) ∧
  (∀ (q : Req) (ch : Fin 2) (s : State), isUp s = true →
     (enabled s.fab (pDRC ch) = false → Next (exec (.drcEnable q ch) s) (fun t =>
       t = { s with fab := t.fab } ∧ enabled t.fab (pDRC ch) = true ∧ getB t.fab (ra (pDRC ch) 0x0C) 3 = true ∧
       getB t.fab (drcAt ch 0x48) 1 = false ∧ Touches [ra (pDRC ch) 0x08, ra (pDRC ch) 0x0C, drcAt ch 0x48] s.fab t.fab)) ∧
     (enabled s.fab (pDRC ch) = true → running s.fab = true → exec (.drcDisable q ch) s = .next (failOn s (pDRC ch) 6 0x08)) ∧
     (enabled s.fab (pDRC ch) = true → running s.fab = false → Next (exec (.drcDisable q ch) s) (fun t =>
       t = { s with fab := t.fab, mem := t.mem } ∧ enabled t.fab (pDRC ch) = false ∧ ready t.fab (pDRC ch) = false ∧
       (drcOf t.mem ch).wq = [] ∧ getB t.fab (drcAt ch 0x48) 5 = true ∧ drcOf t.mem (1 - ch) = drcOf s.mem (1 - ch) ∧ t.mem.shared = s.mem.shared ∧ t.mem.keep = s.mem.keep)))

/-- A soft reset of a page (R53, R54, R75, R484, R486, R488): on a DRAM page it is rejected while a session runs; else READY clears
and the master the page belongs to, but not the host bridge, is fenced, unless the fence completes at once. While a committed
operation of the page runs the reset waits and PAGE_CTRL.SOFT_RST reads 1. Otherwise the header is reset (ENABLE at its reset value,
ERR, ERR_CODE, ERR_INFO and IRQ_EN at 0), every operation of the page reads IDLE, and the unit is reset: on the pages of
THM, CRCU, TRI, STK, TB, REF, NET, CG and SAP every RW bit of a block register then reads its reset value.
SOFT_RST_DONE (R54, R75, R485): while a fence of the page, a committed operation of it, or the PLLs without lock keep the reset
waiting, nothing changes; else the page no longer waits, READY returns on every page but a DRAM page, a reset that waited has
taken place, and with none nothing else changes but what observation records. A reset of an unpopulated page does nothing. -/
def Obligations.SoftResetsOfEveryPage : Prop :=
  (∀ (q : Req) (p : Fin 1024) (b : Block) (n : Nat) (s : State), isUp s = true → blockOf p = some (b, n) →
     let s1 := fenceSoft (abandonOps s p) p
     (b = .DRC → running s.fab = true → exec (.softRst q p) s = .next (failOn s p 6 0x08)) ∧
     (¬(b = .DRC ∧ running s.fab = true) → Next (exec (.softRst q p) s) (fun t =>
       ready t.fab p = false ∧
       (∀ m l, p.val ≠ pHST → fenceOf p = some (m, l) → fenceAtOnce s1.fab s.bus ⟨m, l, p⟩ = false → (⟨m, l, p⟩ : Fence) ∈ t.bus.fences) ∧
       (opsHold s1.fab p = true → p.val ∈ t.fab.rstWait ∧ bit (pageCtrl t p) 1 = true ∧
         t = { s1 with fab := { putB s1.fab (ra p 0x0C) 0 false with rstWait := t.fab.rstWait } }) ∧
       (opsHold s1.fab p = false → (∀ o : OpId, o.page = p → opResult t.fab o = 0) ∧ enabled t.fab p = enableAfter s.fab p ∧
         getB t.fab (ra p 0x0C) 2 = false ∧ rdN t.fab (ra p 0x20) = 0 ∧ rdN t.fab (ra p 0x24) = 0 ∧ rdN t.fab (ra p 0x14) = 0 ∧
         (b ∈ [Block.THM, .CRCU, .TRI, .STK, .TB, .REF, .NET, .CG, .SAP] → ∀ a r, pageOf a = p → 0x40 ≤ offOf a → rowOf a = some r →
           rdR t.fab a &&& BitVec.ofNat 32 r.rw = BitVec.ofNat 32 r.reset &&& BitVec.ofNat 32 r.rw))))) ∧
  (∀ (p : Fin 1024) (s : State), isUp s = true →
     (blockOf p = none → exec (.softRstDone p) s = .next s ∧ ∀ q, exec (.softRst q p) s = .next s) ∧
     ∀ b n, blockOf p = some (b, n) →
       (pageFenced s.bus p = true ∨ opsHold s.fab p = true ∨ s.pwr.locked = false → exec (.softRstDone p) s = .next s) ∧
       (pageFenced s.bus p = false → opsHold s.fab p = false → s.pwr.locked = true → ready s.fab p = false → b ≠ .DRC →
         Next (exec (.softRstDone p) s) (fun t => ready t.fab p = true ∧ p.val ∉ t.fab.rstWait ∧
           (s.fab.rstWait.contains p.val = true → (∀ o : OpId, o.page = p → opResult t.fab o = 0) ∧ rdN t.fab (ra p 0x14) = 0) ∧
           (s.fab.rstWait.contains p.val = false → t = { s with fab := t.fab } ∧
             ∀ a, a ≠ ra p 0x0C → isSide a = false → rdR t.fab a = rdR s.fab a))))

/-- A write of a counter-clear register (R141): a counter that a set bit alone selects reads 0, or 1 where it is incremented in the
same cycle, and no other register changes; a page without such a register has no such write. -/
def Obligations.CountersClear : Prop :=
  ∀ (q : Req) (p : Fin 1024) (v inc : Word) (s : State), isUp s = true →
    (clearOff p = none → exec (.counterClear q p v inc) s = .next s) ∧
    (∀ off, clearOff p = some off → takesWrites s.fab p = false → exec (.counterClear q p v inc) s = .next (failOn s p 1 off)) ∧
    (∀ off, clearOff p = some off → takesWrites s.fab p = true → Next (exec (.counterClear q p v inc) s) (fun t =>
      t = { s with fab := t.fab } ∧
      (∀ a, (∀ i, i < 10 → bit v i = true → a ∉ clearList s.fab p i) → rdR t.fab a = rdR s.fab a) ∧
      (∀ i a, i < 10 → bit v i = true → a ∈ clearList s.fab p i → (∀ j, j < 10 → j ≠ i → a ∉ clearList s.fab p j) →
        rdN t.fab a = (bit inc i).toNat)))

-- The host interfaces

/-- R61: a write of v to HST.VEC_EOI re-arms vector v, and if its cause is 1 at that moment a further message is sent at once, or
its pending bit is set where the vector is masked (R60); so an event that came while the vector was disarmed is not lost. With no
cause the vector stays armed. While the HST page is not READY the write is discarded. -/
def Obligations.RearmingSendsAWaitingCause : Prop :=
  ∀ (q : Req) (v : Word) (s : State), isUp s = true →
    let n := fld v 5 0
    (ready s.fab pHST = false → exec (.vecEoi q v) s = .next (failOn s pHST 1 0x54)) ∧
    (ready s.fab pHST = true → vecCause s.fab n = false →
      exec (.vecEoi q v) s = .next { s with fab := { s.fab with armed := s.fab.armed ||| (1#64 <<< n) } }) ∧
    (ready s.fab pHST = true → vecCause s.fab n = true → Next (exec (.vecEoi q v) s) (fun t =>
      t = { s with fab := t.fab } ∧ t.fab.armed = (s.fab.armed ||| (1#64 <<< n)) &&& ~~~(1#64 <<< n) ∧
      (getB s.fab (ra pHST (0x80C + 16 * n)) 0 = false →
        t.fab.msgs = s.fab.msgs ++ [⟨n, rdN s.fab (ra pHST (0x804 + 16 * n)) * 2 ^ 32 + rdN s.fab (ra pHST (0x800 + 16 * n)),
          rdN s.fab (ra pHST (0x808 + 16 * n))⟩] ∧ ∀ a, rdR t.fab a = rdR s.fab a) ∧
      (getB s.fab (ra pHST (0x80C + 16 * n)) 0 = true →
        t.fab.msgs = s.fab.msgs ∧ getB t.fab (ra pHST (0xC00 + 4 * (n / 32))) (n % 32) = true ∧
        ∀ a, a ≠ ra pHST (0xC00 + 4 * (n / 32)) → rdR t.fab a = rdR s.fab a)))

/-- RUN of a DMA channel (R63, R65): DMA_RUN stores VECTOR and sets RUN and ACTIVE, unless DMA_SIZE lies outside 2 to 1024, which
stops the channel with ERR_KIND 6; DMA_STOP clears RUN, and ACTIVE too where no descriptor is in progress.
Descriptors (R64, R65): the channel starts the descriptor at DMA_TAIL only while RUN is 1, none is in progress and the ring is not
empty; one that cannot be read stops it with ERR_KIND 4. A started descriptor completes: it is no longer in progress, its STATUS with
COMPLETE is written back where that write succeeds, and one of bad length or address writes its code, sets ERR and ERR_KIND, clears
RUN and leaves DMA_TAIL. One whose transfer to or from DRAM succeeds leaves the memories as the transfer does and advances DMA_TAIL
around the ring; DONE is set where the descriptor asks for it. -/
def Obligations.DmaChannelsRunAndComplete : Prop :=
  (∀ (q : Req) (c : Fin 8) (n : Fin 64) (s : State), isUp s = true →
     (ready s.fab pHST = false → exec (.dmaRun q c n) s = .next (failOn s pHST 1 (offOf (dmaAt c 0x14))) ∧
       exec (.dmaStop q c n) s = .next (failOn s pHST 1 (offOf (dmaAt c 0x14)))) ∧
     (ready s.fab pHST = true →
       Next (exec (.dmaRun q c n) s) (fun t => t = { s with fab := t.fab } ∧ getF t.fab (dmaAt c 0x14) 13 8 = n ∧
         Touches [dmaAt c 0x14, dmaAt c 0x18] s.fab t.fab ∧
         (getB s.fab (dmaAt c 0x14) 0 = false → 2 ≤ getF s.fab (dmaAt c 0x08) 10 0 → getF s.fab (dmaAt c 0x08) 10 0 ≤ 1024 →
           getB t.fab (dmaAt c 0x14) 0 = true ∧ getB t.fab (dmaAt c 0x18) 0 = true) ∧
         (getB s.fab (dmaAt c 0x14) 0 = false → (getF s.fab (dmaAt c 0x08) 10 0 < 2 ∨ 1024 < getF s.fab (dmaAt c 0x08) 10 0) →
           getB t.fab (dmaAt c 0x14) 0 = false ∧ getB t.fab (dmaAt c 0x18) 0 = false ∧ getB t.fab (dmaAt c 0x18) 2 = true ∧
           getF t.fab (dmaAt c 0x18) 7 4 = 6)) ∧
       Next (exec (.dmaStop q c n) s) (fun t => t = { s with fab := t.fab } ∧ getF t.fab (dmaAt c 0x14) 13 8 = n ∧
         getB t.fab (dmaAt c 0x14) 0 = false ∧ Touches [dmaAt c 0x14, dmaAt c 0x18] s.fab t.fab ∧
         getB t.fab (dmaAt c 0x18) 0 = (getB s.fab (dmaAt c 0x18) 0 && (dmaJob s.host c).isSome)))) ∧
  (∀ (c : Fin 8) (d : Option Desc) (data : Option (List Byte)) (ok : Bool) (s : State), isUp s = true →
     let idle := getB s.fab (dmaAt c 0x14) 0 = false ∨ (dmaJob s.host c).isSome = true ∨
       getF s.fab (dmaAt c 0x0C) 9 0 = getF s.fab (dmaAt c 0x10) 9 0
     let good := 2 ≤ getF s.fab (dmaAt c 0x08) 10 0 ∧ getF s.fab (dmaAt c 0x08) 10 0 ≤ 1024
     (idle → exec (.dmaDescriptorStart c d) s = .next s) ∧
     (¬idle → good → d = none → exec (.dmaDescriptorStart c d) s = .next { s with fab := dmaError s.fab c 4 }) ∧
     (¬idle → good → ∀ x, d = some x → Next (exec (.dmaDescriptorStart c d) s) (fun t =>
       dmaJob t.host c = some ⟨x, descCode x⟩ ∧ t.mem = s.mem ∧ t.host.toHost = s.host.toHost ∧
       (bit x.ctrl 0 = false → t = { s with fab := putB s.fab (dmaAt c 0x18) 0 true, host := t.host }))) ∧
     (dmaJob s.host c = none → exec (.dmaDescriptorComplete c data ok) s = .next s) ∧
     (∀ j, dmaJob s.host c = some j → Next (exec (.dmaDescriptorComplete c data ok) s) (fun t =>
       dmaJob t.host c = none ∧
       (ok = true → ∃ a k, t.host.toHost.getLast? = some (a, leBytes 4 (2 ^ 31 + k)) ∧ (j.code ≠ 0 → k = j.code)) ∧
       (j.code ≠ 0 → t = { s with fab := t.fab, host := t.host } ∧ getB t.fab (dmaAt c 0x18) 2 = true ∧
         getF t.fab (dmaAt c 0x18) 7 4 = j.code % 16 ∧ getB t.fab (dmaAt c 0x14) 0 = false ∧
         getF t.fab (dmaAt c 0x10) 9 0 = getF s.fab (dmaAt c 0x10) 9 0) ∧
       (j.code = 0 → devAddr j.desc / 2 ^ 32 = 0 → (dmaMove s j.desc data).2 = 0 → t.mem = (dmaMove s j.desc data).1.mem ∧
         (ok = true → getF t.fab (dmaAt c 0x10) 9 0 =
           (getF s.fab (dmaAt c 0x10) 9 0 + 1) % max 1 (getF s.fab (dmaAt c 0x08) 10 0) % 1024) ∧
         (bit j.desc.ctrl 1 = true → getB t.fab (dmaAt c 0x18) 1 = true)))))

/-- The QSPI target's words (R66, R67, R69, R70): while HOST_SEL selects PCIe it serves no command; WRITE_S and WRITE_Q post their words at
consecutive addresses, or set WR_ERR where the device is not awake; STATUS and ID answer one word, whose bits are those of R67;
CLR_STATUS clears the sticky bits, and a raised CS_N ends the command and sets FRAME_ERR for a partial word.
QSPI reads and posted writes (R51, R66, R68 to R70): each word of a read command comes with preamble 0xA5, one not there within 32 µs with
0x5A, which ends the command and sets RD_TIMEOUT; a device that is not awake answers 0x5A. A posted write is performed once, oldest
first, as a write of its space by the host. -/
def Obligations.QspiCommandsReadAndWrite : Prop :=
  (∀ (a : Word) (ws : List Word) (n : Nat) (cut : Bool) (s : State),
     (qsServes s = false → ∀ c, c ∈ [Instr.writeS a ws, .writeQ a ws, .readS a n, .readQ a n, .qspiStatus, .clrStatus, .qspiId,
       .qspiCsRise cut, .qspiReadTimeout] → exec c s = .next s) ∧
     (qsServes s = true →
       (∀ c, c = .writeS a ws ∨ c = .writeQ a ws →
         (qsAwake s = true → exec c s = .next { s with host := { s.host with
           posted := s.host.posted ++ ws.zipIdx.map (fun e => ((a.toNat + 4 * e.2) % 2 ^ 32, e.1)) } }) ∧
         (qsAwake s = false → ws ≠ [] → exec c s = .next { s with host := { s.host with wrErr := true } })) ∧
       Next (exec .qspiStatus s) (fun t => t = { s with fab := t.fab, host := t.host } ∧ t.host.out = [(0, qspiStatus s)] ∧
         bit (qspiStatus s) 0 = !s.host.posted.isEmpty ∧ bit (qspiStatus s) 1 = s.host.wrErr ∧
         bit (qspiStatus s) 2 = s.host.rdTimeout ∧ bit (qspiStatus s) 3 = s.host.frameErr ∧ bit (qspiStatus s) 4 = irqN s.fab ∧
         bit (qspiStatus s) 5 = qsAwake s ∧ (∀ k, 6 ≤ k → bit (qspiStatus s) k = false)) ∧
       Next (exec .qspiId s) (fun t => t = { s with fab := t.fab, host := t.host } ∧ t.host.out = [(0, rdR s.fab 0x40)]) ∧
       exec .clrStatus s = .next { s with host := { s.host with wrErr := false, rdTimeout := false, frameErr := false } } ∧
       exec (.qspiCsRise cut) s = .next { s with host := { s.host with active := false, wait := none, frameErr := s.host.frameErr || cut } })) ∧
  (∀ (a : Word) (n : Nat) (s : State), qsServes s = true →
     (∀ c, c = .readS a n ∨ c = .readQ a n →
       (qsAwake s = false → exec c s = .next { s with host := { s.host with active := true, wait := none, out := [(0x5A, 0)], ended := true } }) ∧
       (qsAwake s = true → Next (exec c s) (fun t => t.host.active = true ∧ t.host.ended = false ∧ (∀ e, e ∈ t.host.out → e.1 = 0xA5) ∧
         (t.host.wait = none → t.host.out.length = n) ∧
         (n = 1 → a.toNat < 2 ^ 24 → s.host.posted = [] → t.host.out = [(0xA5, BitVec.ofNat 32 (lastRead
           (hostRead { s with host := { s.host with active := true, wait := none, out := [], ended := false } } 0 a.toNat .b32).1 0))])))) ∧
     ((s.host.active = false ∨ s.host.ended = true) → exec .qspiReadTimeout s = .next s) ∧
     (s.host.active = true → s.host.ended = false → exec .qspiReadTimeout s =
       .next { s with host := { s.host with out := s.host.out ++ [(0x5A, 0)], wait := none, ended := true, rdTimeout := true } }) ∧
     (isUp s = true → s.host.posted = [] → exec .qspiPostedWriteDone s = .next s) ∧
     (∀ k w r, isUp s = true → s.host.posted = (k, w) :: r → Next (exec .qspiPostedWriteDone s) (fun t => (2 ^ 24 ≤ k → t.host.posted = r) ∧
       (k < 2 ^ 24 → ∃ u, exec (.registerWrite .host k .b32 (w.setWidth 64)) { s with host := { s.host with posted := r } } = .next u ∧
         t = { u with host := { u.host with wrErr := t.host.wrErr } }))))

/-- The PCIe link shows its generation and width in HST.LINK_STAT while it is up and 0 while it is down; HOST_SEL stays (R56). -/
def Obligations.PcieLinkShowsItsState : Prop :=
  ∀ (up : Bool) (g w : Fin 5) (s : State),
    (hostQspi s.fab = true ∨ isUp s = false → exec (.pcieLinkUp up g w) s = .next s) ∧
    (hostQspi s.fab = false → isUp s = true → Next (exec (.pcieLinkUp up g w) s) (fun t =>
      t = { s with fab := t.fab } ∧ getB t.fab (ra pHST 0x40) 8 = up ∧
      getF t.fab (ra pHST 0x40) 3 0 = (if up then g.val else 0) ∧ getF t.fab (ra pHST 0x40) 6 4 = (if up then w.val else 0) ∧
      getB t.fab (ra pHST 0x40) 9 = getB s.fab (ra pHST 0x40) 9 ∧ (∀ a, a ≠ ra pHST 0x40 → rdR t.fab a = rdR s.fab a)))

-- The long operations

/-- A start of an operation (R54, R72): on a page that is not READY it is discarded with NOT_READY; while the operation is RUNNING, or
while the unit an LD or a LOAD writes is LOCKED or COPYING (R158, R203), it is rejected with OP_BUSY; and with BAD_ARG where the
operation's own check fails. A rejected start changes nothing but the page's error registers. -/
def Obligations.OperationStartsAreCheckedInOrder : Prop :=
  ∀ (c : Instr) (o : OpId) (n : Nat) (s : State), opOfCommand c = some (o, n) → isUp s = true →
    (ready s.fab o.page = false → exec c s = .next (failOn s o.page 1 (offOf o.cmd))) ∧
    (ready s.fab o.page = true → (opRunning s.fab o = true ∨ (opUnit o).any (unitHeld s.fab) = true) →
      exec c s = .next (failOn s o.page 2 (offOf o.cmd))) ∧
    (ready s.fab o.page = true → opRunning s.fab o = false → (opUnit o).any (unitHeld s.fab) = false → opBadArg s o n = true →
      exec c s = .next (failOn s o.page 4 (offOf o.cmd))) ∧
    ∀ e, (∀ a, isErrReg o.page a = false → rdR (failOn s o.page e (offOf o.cmd)).fab a = rdR s.fab a) ∧
      opResult (failOn s o.page e (offOf o.cmd)).fab o = opResult s.fab o

/-- An accepted start (R72): LD and LOAD lock their unit and run (R158, R203); SWAP_ARM in a session makes the group's units PENDING for
its boundary or fails LATE, with SWAP_AT showing that boundary (one before 0 modulo 2^64: the model's choice, log 82), and without a
session it fails NO_SESSION unless its mode is NEXT_BLOCK (R175); a scene operation
without a store fails STORE, else SAVE and RECALL run with their units locked or fail, and CHECK runs (R181, R183); PS and START run
where their checks pass and fail with the check's code otherwise (R490, R506); STOP runs in a session and is DONE without one (R508);
REJOIN, FEED and FLUSH run, but a FEED whose range is bad and a FLUSH while the trace writer is shed fail (R446, R456, R520). -/
def Obligations.AcceptedOperationsRun : Prop :=
  ∀ (q : Req) (s : State), isUp s = true →
    let free (o : OpId) (n : Nat) : Prop := ready s.fab o.page = true ∧ opRunning s.fab o = false ∧
      (opUnit o).any (unitHeld s.fab) = false ∧ opBadArg s o n = false
    let runs (o : OpId) (n r : Nat) (f : Fabric) : Prop := opLast f o = n ∧ opResult f o = r
    let fails (o : OpId) (n d : Nat) (f : Fabric) : Prop := opLast f o = n ∧ opResult f o = 5 ∧ getF f o.stat 31 16 = d
    (∀ c n, c ∈ [Instr.loadMerge q, .loadReplace q, .clear q] → opOfCommand c = some (.ld, n) → free .ld n → Next (exec c s) (fun t =>
      t = { s with fab := t.fab, mtx := { s.mtx with ldBusy := true } } ∧ runs .ld n 1 t.fab ∧ getB t.fab (ra pMTX 0x2C) 1 = true)) ∧
    (free .cnvLoad 1 → Next (exec (.load q) s) (fun t => t = { s with fab := t.fab } ∧ runs .cnvLoad 1 1 t.fab ∧
      getB t.fab (ra pCNV 0x2C) 1 = true ∧ ∀ i, i < 4 → rdR t.fab (ra pCNV (0x80 + 4 * i)) = rdR s.fab (ra pCNV (0x68 + 4 * i)))) ∧
    (∀ g, free (.swap g) 1 → running s.fab = true → Next (exec (.swapArm q g) s) (fun t => t = { s with fab := t.fab } ∧
      (swapAt t.fab g : Int) = swapBoundary s.fab g % 2 ^ 64 ∧ (swapBoundary s.fab g - 2 * (blockLen s.fab : Int) ≤ s.fab.msc.toNat → fails (.swap g) 1 1 t.fab) ∧
      (¬swapBoundary s.fab g - 2 * (blockLen s.fab : Int) ≤ s.fab.msc.toNat → runs (.swap g) 1 1 t.fab ∧
        ∀ p, p ∈ groupUnits s.fab g → getB t.fab (ra p 0x2C) 0 = true))) ∧
    (∀ g, free (.swap g) 1 → running s.fab = false → getF s.fab (0x208 + 0x20 * g) 1 0 ≠ 0 → Next (exec (.swapArm q g) s) (fun t =>
      t = { s with fab := t.fab } ∧ fails (.swap g) 1 2 t.fab)) ∧
    (∀ c n, c ∈ [Instr.save q, .recall q, .check q] → opOfCommand c = some (.scene, n) → free .scene n → Next (exec c s) (fun t =>
      (storeOk s.fab = false → t = { s with fab := t.fab } ∧ fails .scene n 1 t.fab) ∧
      (storeOk s.fab = true → n = 3 → t = { s with fab := t.fab } ∧ runs .scene n 1 t.fab) ∧
      (storeOk s.fab = true → n ≠ 3 → runs .scene n 5 t.fab ∨
        (runs .scene n 1 t.fab ∧ ∀ p, p ∈ t.pwr.sceneUnits → getB t.fab (ra p 0x2C) 1 = true)))) ∧
    (∀ c n, c ∈ [Instr.quiet q, .active q, .retain q, .deep q] → opOfCommand c = some (.ps, n) → free .ps n → Next (exec c s) (fun t =>
      t = { s with fab := t.fab, pwr := t.pwr } ∧
      (psDetail s.fab s.pwr n = 0 → runs .ps n 1 t.fab ∧ t.pwr = { s.pwr with wakePend := 0 }) ∧
      (psDetail s.fab s.pwr n ≠ 0 → fails .ps n (psDetail s.fab s.pwr n) t.fab ∧ t.pwr = s.pwr))) ∧
    (free .eng 1 → let d := startDetail s.fab s.pwr (drcReady s.fab 0 && drcReady s.fab 1)
      Next (exec (.start q) s) (fun t => t = { s with fab := t.fab, pwr := t.pwr } ∧
        (d = 0 → runs .eng 1 1 t.fab ∧ startPending t.fab = true) ∧ (d ≠ 0 → fails .eng 1 d t.fab ∧ t.pwr = s.pwr))) ∧
    (free .eng 2 → Next (exec (.stop q) s) (fun t => t = { s with fab := t.fab, pwr := t.pwr } ∧
      (running s.fab = true → runs .eng 2 1 t.fab ∧ t.pwr.stopFrom = some (blockStart s.fab + blockLen s.fab)) ∧
      (running s.fab = false → runs .eng 2 2 t.fab ∧ t.pwr = s.pwr))) ∧
    (free .rejoin 1 → Next (exec (.rejoin q) s) (fun t => t = { s with fab := t.fab, tri := t.tri } ∧ runs .rejoin 1 1 t.fab ∧
      triRole t.fab = 5 ∧ (t.tri.rejoin).isSome = true ∧ rdN t.fab (triAt 0x8C) = 1)) ∧
    (free .feed 1 → Next (exec (.feed q) s) (fun t => t = { s with fab := t.fab } ∧
      (feedInRange s.fab = true → runs .feed 1 1 t.fab) ∧ (feedInRange s.fab = false → fails .feed 1 1 t.fab))) ∧
    (free .flush 1 → Next (exec (.flush q) s) (fun t => t = { s with fab := t.fab } ∧
      (getB s.fab (ra pOBS 0x54) 1 = false → runs .flush 1 1 t.fab) ∧ (getB s.fab (ra pOBS 0x54) 1 = true → fails .flush 1 1 t.fab)))

/-- OP_ABORT (R72, R73, R75): it does nothing to an operation that is not RUNNING; before the commit point it ends the operation ABORTED
with OP_END set, and what the operation held is given back: an armed swap's PENDING, the locks, a pending start, the fade of a STOP;
after the commit point the operation goes on, marked to end LATE.
The ends of the operations (R73, R74, R159, R181, R183, R204, R456, R490, R497, R520): where the operation is not RUNNING nothing changes. A
running LD or LOAD ends and unlocks its unit: a CLEAR without a node left in the shadow bank; an LD with its checks in order and
its records written where they pass, a LOAD whose list is read with its response in the shadow bank. A scene operation ends and
unlocks its units: SAVE with the scene in its slot, RECALL with the images that were read in the shadow banks, CHECK with no bank
changed. A FEED ends with VAL fed where its bytes are read, else FAILED, and a FLUSH once nothing waits; a PS operation ends in the state it asks for, but with a wake source pending an entry to
RETAIN or DEEP fails with DETAIL 3 and the state stays. -/
def Obligations.OperationsEndOrAbort : Prop :=
  (∀ (q : Req) (o : OpId) (s : State), isUp s = true →
     (ready s.fab o.page = false → exec (.opAbort q o) s = .next (failOn s o.page 1 (offOf o.cmd))) ∧
     (ready s.fab o.page = true → opRunning s.fab o = false → exec (.opAbort q o) s = .next s) ∧
     (ready s.fab o.page = true → opRunning s.fab o = true → opCommitted s.fab o = true → Next (exec (.opAbort q o) s) (fun t =>
       t = { s with fab := { s.fab with late := t.fab.late } } ∧ o.stat ∈ t.fab.late)) ∧
     (ready s.fab o.page = true → opRunning s.fab o = true → opCommitted s.fab o = false → Next (exec (.opAbort q o) s) (fun t =>
       t = { s with fab := t.fab, mtx := t.mtx, pwr := t.pwr, tri := t.tri } ∧ opResult t.fab o = 3 ∧
       getB t.fab (ra o.page 0x10) 31 = true ∧
       (∀ g, o = .swap g → ∀ p, p ∈ armedUnits s.fab g → getB t.fab (ra p 0x2C) 0 = false) ∧
       (o = .scene → t.pwr.sceneUnits = [] ∧ ∀ p, p ∈ s.pwr.sceneUnits → getB t.fab (ra p 0x2C) 1 = false) ∧
       (o = .ld → getB t.fab (ra pMTX 0x2C) 1 = false ∧ t.mtx.ldBusy = false) ∧ (o = .cnvLoad → getB t.fab (ra pCNV 0x2C) 1 = false) ∧
       (o = .eng → opLast s.fab .eng = 1 → startPending t.fab = false) ∧ (o = .eng → opLast s.fab .eng ≠ 1 → t.pwr.stopFrom = none) ∧
       (o = .rejoin → t.tri.rejoin = none)))) ∧
  (∀ (s : State), isUp s = true →
     (∀ c o, (c, o) ∈ [(Instr.ldEnd, OpId.ld), (.loadEnd, .cnvLoad), (.sceneOpEnd, .scene), (.feedEnd, .feed), (.flushEnd, .flush),
       (.psComplete, .ps)] → opRunning s.fab o = false → exec c s = .next s) ∧
     (opRunning s.fab .ld = true → Next (exec .ldEnd s) (fun t => t = { s with fab := t.fab, mem := t.mem, mtx := t.mtx } ∧
       opRunning t.fab .ld = false ∧ getB t.fab (ra pMTX 0x2C) 1 = false ∧ t.mtx = { s.mtx with ldBusy := false } ∧
       (opLast s.fab .ld = 3 → (opResult t.fab .ld = 2 ∨ opResult t.fab .ld = 4) ∧
         ∀ i d k, i < 2048 → d < 2048 → k < 2 → rdShd t.fab pMTX (nodeKey i d + k) = regReset (nodeKey i d + k)) ∧
       (opLast s.fab .ld ≠ 3 →
         let a := rdN s.fab (ra pMTX 0x8F4)
         let n := rdN s.fab (ra pMTX 0x8F8)
         let r := dramRead s.fab s.mem 7 a (16 * n)
         let l := recordsOf (wordsOf (4 * n) (rawBytes r.2.2))
         let w := writeRecords (if opLast s.fab .ld = 2 then clearNodes r.1 else r.1) l
         let failed (d : Nat) : Prop := opResult t.fab .ld = 5 ∧ getF t.fab (OpId.ld).stat 31 16 = d
         (dramTop < a + 16 * n → failed 4) ∧ (a + 16 * n ≤ dramTop → dramReadyRange s.fab a (16 * n) = false → failed 3) ∧
         (a + 16 * n ≤ dramTop → dramReadyRange s.fab a (16 * n) = true → t.mem = r.2.1 ∧ (readOk r.2.2 = false → failed 3) ∧
           (readOk r.2.2 = true → l.all (recordOk s.fab) = false → failed 1) ∧
           (readOk r.2.2 = true → l.all (recordOk s.fab) = true → capNode s.fab < nodesShd w → failed 2) ∧
           (readOk r.2.2 = true → l.all (recordOk s.fab) = true → nodesShd w ≤ capNode s.fab →
             (opResult t.fab .ld = 2 ∨ opResult t.fab .ld = 4) ∧ t.fab.bank0 = w.bank0 ∧ t.fab.bank1 = w.bank1))))) ∧
     (opRunning s.fab .cnvLoad = true → Next (exec .loadEnd s) (fun t => t = { s with fab := t.fab, mem := t.mem } ∧
       opRunning t.fab .cnvLoad = false ∧ getB t.fab (ra pCNV 0x2C) 1 = false ∧
       (loadDetail s.fab true ≠ 0 → opResult t.fab .cnvLoad = 5 ∧ getF t.fab (OpId.cnvLoad).stat 31 16 = loadDetail s.fab true) ∧
       (loadDetail s.fab true = 0 →
         let a := rdN s.fab (ra pCNV 0x80)
         let n := getF s.fab (ra pCNV 0x88) 15 0
         let r := dramRead s.fab s.mem 7 a (4 * n)
         ((dramReadyRange s.fab a (4 * n) && readOk r.2.2) = false →
           opResult t.fab .cnvLoad = 5 ∧ getF t.fab (OpId.cnvLoad).stat 31 16 = 3) ∧
         ((dramReadyRange s.fab a (4 * n) && readOk r.2.2) = true → (opResult t.fab .cnvLoad = 2 ∨ opResult t.fab .cnvLoad = 4) ∧
           t.mem = r.2.1 ∧ t.fab.bank0 = (loadCommit r.1 (wordsOf n (rawBytes r.2.2))).bank0 ∧
           t.fab.bank1 = (loadCommit r.1 (wordsOf n (rawBytes r.2.2))).bank1)))) ∧
     (opRunning s.fab .scene = true → Next (exec .sceneOpEnd s) (fun t => t = { s with fab := t.fab, mem := t.mem, pwr := t.pwr } ∧
       opRunning t.fab .scene = false ∧ t.pwr = { s.pwr with sceneUnits := [] } ∧
       (∀ p, p ∈ s.pwr.sceneUnits → getB t.fab (ra p 0x2C) 1 = false) ∧
       (opLast s.fab .scene = 1 → (opResult t.fab .scene = 2 ∨ opResult t.fab .scene = 4) ∧
         t.mem = (dramWrite s.fab s.mem 7 (slotAt s.fab) (sceneBytes s.fab s.pwr.sceneUnits)).2 ∧
         t.fab.bank0 = s.fab.bank0 ∧ t.fab.bank1 = s.fab.bank1) ∧
       (opLast s.fab .scene = 2 →
         let r := recallRead s.fab s.mem
         let w := (r.2.2.2.1.filter (fun e => s.pwr.sceneUnits.contains e.1)).foldl imagePut s.fab
         t.mem = r.2.1 ∧ t.fab.bank0 = w.bank0 ∧ t.fab.bank1 = w.bank1 ∧
         (r.2.2.2.2 = true → opResult t.fab .scene = 2 ∨ opResult t.fab .scene = 4) ∧
         (r.2.2.2.2 = false → opResult t.fab .scene = 5 ∧ getF t.fab (OpId.scene).stat 31 16 = 3)) ∧
       (opLast s.fab .scene ∉ [1, 2] → t.fab.bank0 = s.fab.bank0 ∧ t.fab.bank1 = s.fab.bank1 ∧
         ((sceneRead s.fab s.mem).2.2.2 = none → opResult t.fab .scene = 5 ∧ getF t.fab (OpId.scene).stat 31 16 = 3) ∧
         (∀ l, (sceneRead s.fab s.mem).2.2.2 = some l → l.all (fun e => isCtrlPage e.1) = true →
           opResult t.fab .scene = 2 ∨ opResult t.fab .scene = 4)))) ∧
     (opRunning s.fab .feed = true → Next (exec .feedEnd s) (fun t => t = { s with fab := t.fab, mem := t.mem } ∧
       opRunning t.fab .feed = false ∧
       let r := feedBytes s.fab s.mem
       let c := getF s.fab 0xA054 2 0
       t.mem = r.2.1 ∧ (readOk r.2.2 = false → opResult t.fab .feed = 5 ∧ getF t.fab (OpId.feed).stat 31 16 = 2) ∧
       (readOk r.2.2 = true → enabled s.fab pCRCU = true → crcPair t.fab c 0x1C =
         crcFeeds s.fab c (rdN s.fab 0xA064 * 2 ^ 32 + rdN s.fab 0xA060) ((rawBytes r.2.2).map (fun b => b.toNat))))) ∧
     (opRunning s.fab .flush = true → Next (exec .flushEnd s) (fun t => t = { s with fab := t.fab, mem := t.mem } ∧
       (crumbsWait s.fab = false → opRunning t.fab .flush = false ∧ getB t.fab (ra pOBS 0x10) 31 = true) ∧
       (crumbsWait t.fab = false → opRunning t.fab .flush = false))) ∧
     (opRunning s.fab .ps = true → Next (exec .psComplete s) (fun t => opRunning t.fab .ps = false ∧ t.tap = s.tap ∧
       t.mem.keep = s.mem.keep ∧ (psFails s = 0 → opLast s.fab .ps = 1 → t.pwr.state = .quiet ∧ getF t.fab 0x1060 1 0 = 1) ∧
       (psFails s = 0 → opLast s.fab .ps = 2 → t.pwr.state = .active ∧ getF t.fab 0x1060 1 0 = 0) ∧
       (psFails s = 0 → opLast s.fab .ps = 3 → t.pwr.state = .retain ∧ t.host.jobs = [] ∧ t.bus = BusState.reset) ∧
       (psFails s = 0 → opLast s.fab .ps = 4 → t.pwr.state = .deep ∧ t.host.jobs = [] ∧ t.bus = BusState.reset) ∧
       (psFails s ≠ 0 → t = { s with fab := t.fab } ∧ opResult t.fab .ps = 5 ∧ getF t.fab (OpId.ps).stat 31 16 = psFails s) ∧
       (psDetail s.fab s.pwr (opLast s.fab .ps) = 0 → 2 < opLast s.fab .ps → s.pwr.wakePend ≠ 0 → psFails s = 3))))

/-- Swaps (R176 to R178): at the tick two blocks before its boundary an armed group is committed and its units LOCKED, or fails BUSY where
one of them is LOCKED or COPYING; at the boundary every unit's banks change places, and PENDING, LOCKED and DIRTY read 0; without
COPY the operation then ends, with COPY the units are COPYING, and where the copy ends each shadow word equals the active one. An
ARM for NEXT_BLOCK without a session exchanges at once (R175). -/
def Obligations.SwapsExchangeAndCopyBanks : Prop :=
  ∀ (g : Fin 16) (s : State), isUp s = true →
    let atCommit := running s.fab = true ∧ opRunning s.fab (.swap g) = true ∧ opCommitted s.fab (.swap g) = false ∧
      swapAt s.fab g ≤ s.fab.msc.toNat + 2 * blockLen s.fab ∧ s.fab.msc.toNat < swapAt s.fab g
    let us := armedUnits s.fab g
    (¬atCommit → exec (.swapCommit g) s = .next s) ∧
    (atCommit → Next (exec (.swapCommit g) s) (fun t => t = { s with fab := t.fab, stk := t.stk } ∧
      (us.any (unitHeld s.fab) = true → opResult t.fab (.swap g) = 5 ∧ getF t.fab (OpId.swap g).stat 31 16 = 4 ∧
        ∀ p, p ∈ us → getB t.fab (ra p 0x2C) 0 = false) ∧
      (us.any (unitHeld s.fab) = false → opCommitted t.fab (.swap g) = true ∧ opRunning t.fab (.swap g) = true ∧
        ∀ p, p ∈ us → getB t.fab (ra p 0x2C) 1 = true))) ∧
    (running s.fab = false → exec .bankSwap s = .next s) ∧
    (running s.fab = true → swapDue s.fab g = true → Next (exec .bankSwap s) (fun t => t.mem = s.mem ∧ t.tap = s.tap ∧
      (∀ p, p ∈ us → actB t.fab p = !actB s.fab p ∧ getF t.fab (ra p 0x2C) 1 0 = 0 ∧ getB t.fab (ra p 0x2C) 3 = false) ∧
      (getB s.fab (swapArg g) 4 = false → opRunning t.fab (.swap g) = false) ∧
      (getB s.fab (swapArg g) 4 = true → opRunning t.fab (.swap g) = true ∧ ∀ p, p ∈ us → getB t.fab (ra p 0x2C) 2 = true))) ∧
    ((opRunning s.fab (.swap g) && getB s.fab (swapArg g) 8) = false → exec (.swapCopyDone g) s = .next s) ∧
    ((opRunning s.fab (.swap g) && getB s.fab (swapArg g) 8) = true → Next (exec (.swapCopyDone g) s) (fun t =>
      t = { s with fab := t.fab } ∧ opRunning t.fab (.swap g) = false ∧
      ∀ p, p ∈ groupUnits s.fab g → getB s.fab (ra p 0x2C) 2 = true → getB t.fab (ra p 0x2C) 2 = false ∧
        ∀ r a, r ∈ unitRanges p → r.1 ≤ a → a < r.2 → rdShd t.fab p a = rdAct t.fab p a)) ∧
    (∀ q, ready s.fab pSYS = true → opRunning s.fab (.swap g) = false → running s.fab = false → getF s.fab (0x208 + 0x20 * g) 1 0 = 0 →
      (groupUnits s.fab g).any (unitHeld s.fab) = false → Next (exec (.swapArm q g) s) (fun t => t.mem = s.mem ∧ t.tap = s.tap ∧
        ∀ p, p ∈ groupUnits s.fab g → actB t.fab p = !actB s.fab p))

-- The session

/-- Sample, block and geometry ticks (R19, R33, R78, R301, R302): without the sample clock nothing changes; with it a sample tick
completes whether a session runs or not: it advances MSC by one while a session runs and only then, does the work of that sample in
the ports, the streams, the stack and the trifle, and touches no bank, no memory, no session register and no power state. A block
tick does a block's work once, when MSC reaches its first sample: the latch, the cores, conditioning and the first matrix pass, then
the renderer, the chains and the second pass; its latch holds the MSC, and it leaves MSC, memory and the session's registers. A
geometry tick evaluates the boundaries of the render stage that are due (one, or both where B is 32 and G is 16) and is otherwise
ignored. -/
def Obligations.TicksAdvanceTheSession : Prop :=
  ∀ (ph : Fin 4096) (fails : List MemFail) (s : State),
    (clocked s = false → exec (.sampleTick ph) s = .next s) ∧
    (clocked s = true → Next (exec (.sampleTick ph) s) (fun t => t = sampleTick s ph ∧
      t = { s with fab := t.fab, tb := t.tb, aud := t.aud, stk := t.stk, strm := t.strm, ports := t.ports, tri := t.tri } ∧
      t.fab.msc = s.fab.msc + BitVec.ofNat 64 (running s.fab).toNat ∧ t.fab.time = s.fab.time ∧ t.fab.bank0 = s.fab.bank0 ∧
      t.fab.bank1 = s.fab.bank1 ∧ rdR t.fab 0x104 = rdR s.fab 0x104)) ∧
    ((clocked s && isActive s && blockDue s) = false → exec (.blockTick ph fails) s = .next s) ∧
    ((clocked s && isActive s && blockDue s) = true → Next (exec (.blockTick ph fails) s) (fun t =>
      let w := s.fab.msc.toNat
      t = { blockSecond (blockFirst s ph w) fails w with pwr := { s.pwr with lastBlock := w / blockLen s.fab + 1 } } ∧
      t.fab.msc = s.fab.msc ∧ blockDue t = false ∧ rdN t.fab (ra pTB 0x8C) = w % 2 ^ 32 ∧ rdN t.fab (ra pTB 0x90) = w / 2 ^ 32 ∧
      rdR t.fab 0x104 = rdR s.fab 0x104 ∧ t.mem = s.mem ∧ t.net = s.net ∧ t.ports = s.ports ∧ t.host = s.host ∧ t.tap = s.tap)) ∧
    (∀ due, due = (clocked s && isActive s && running s.fab && decide (s.ren.nextB < blockStart s.fab + geoG s.fab)) →
      (due = false → exec .geometryTick s = .next s) ∧
      (due = true → blockLen s.fab ≤ 32 → Next (exec .geometryTick s) (fun t =>
        t = onRen s (geoStage (blockStart s.fab) (max 1 (blockLen s.fab / geoG s.fab))) ∧
        t = { s with fab := t.fab, ren := t.ren } ∧
        t.ren.nextB = s.ren.nextB + geoG s.fab * (if 2 * geoG s.fab ≤ blockLen s.fab ∧ s.ren.nextB < blockStart s.fab then 2 else 1) ∧
        t.fab.msc = s.fab.msc ∧ t.fab.bank0 = s.fab.bank0 ∧ t.fab.bank1 = s.fab.bank1)))

/-- The session begins and ends (R301, R415, R502, R507, R508): a start tick takes effect only where START is pending and what it waits
for is there; RUNNING then reads 1, PENDING 0, and MSC takes 0, or the stack's MSC where START_JOIN asks for it. The session ends at
the block boundary after the fade of STOP, or of the thermal shutdown, which also takes the device to QUIET: RUNNING reads 0 and MSC
stays. -/
def Obligations.SessionsStartAndEnd : Prop :=
  ∀ (ph : Fin 4096) (s : State), clocked s = true → isActive s = true →
    (startMsc s = none → exec (.engineStartTick ph) s = .next s) ∧
    (∀ m, startMsc s = some m → (startJoins s = false → m = 0) ∧ Next (exec (.engineStartTick ph) s) (fun t =>
      t = tickWork (startSession s m) ph m ∧ t.mem = s.mem ∧
      running t.fab = true ∧ startPending t.fab = false ∧ t.fab.msc = BitVec.ofNat 64 m ∧ opRunning t.fab .eng = false ∧ t.tap = s.tap ∧
      t.pwr = { s.pwr with stopFrom := none, shutFrom := none, lastBlock := 0, startTrig := false })) ∧
    (startPending s.fab = false → startMsc s = none) ∧
    (∀ due, due = (stopEnd s.fab s.pwr).any (fun e => running s.fab && decide (e ≤ s.fab.msc.toNat)) →
      (due = false → exec .engineStopEnd s = .next s) ∧
      (due = true → Next (exec .engineStopEnd s) (fun t => running t.fab = false ∧ t.fab.msc = s.fab.msc ∧ t.mem = s.mem ∧
        t.pwr = { s.pwr with stopFrom := none, lastBlock := 0 } ∧ getB t.fab (ra pPWR 0x10) 2 = true ∧
        (opRunning s.fab .eng = true → opLast s.fab .eng = 2 → opRunning t.fab .eng = false)))) ∧
    (∀ due, due = (s.pwr.shutFrom.isSome && (!running s.fab || (shutEnd s.fab s.pwr).any (fun e => decide (e ≤ s.fab.msc.toNat)))) →
      (due = false → exec .shutdownFadeEnd s = .next s) ∧
      (due = true → Next (exec .shutdownFadeEnd s) (fun t => running t.fab = false ∧ t.fab.msc = s.fab.msc ∧ t.mem = s.mem ∧
        t.pwr.state = .quiet ∧ t.pwr.shutFrom = none ∧ getF t.fab 0x1060 1 0 = 1)))

-- The path engine, the matrix and the chains

/-- APPEND and REPLACE (R81, R86 to R88, R144): while the REN page is not READY the push is discarded; otherwise SEG_RESULT shows the
outcome, the object and its queue level to the requester, an accepted APPEND adds the staged segment to the end of its object's queue
and an accepted REPLACE makes it the whole queue from the next boundary on; a rejected push and every other object leave the path
engine as it is. No session means NO_SESSION, and an object the row does not have is refused. -/
def Obligations.SegmentPushesAreAnswered : Prop :=
  ∀ (q : Req) (tns mf : Bool) (s : State), isUp s = true →
    let g (off : Nat) : Word := rdO s.fab q.code (ra pREN off)
    let o := fld (g 0xA0) 9 0
    let arr : Int := if tns then mscOfTime s.fab (g 0xB4).toNat else (((g 0xB8).toNat * 2 ^ 32 + (g 0xB4).toNat : Nat) : Int)
    let seg : Seg := ⟨posOf (g 0xA4), posOf (g 0xA8), posOf (g 0xAC), intOf (g 0xB0), arr⟩
    let old := objOf s.ren o
    ∀ c n, (c = Instr.append q tns mf ∧ n = 1 ∨ c = .replace q tns mf ∧ n = 2) →
      (ready s.fab pREN = false → exec c s = .next (failOn s pREN 1 0xBC)) ∧
      (ready s.fab pREN = true → Next (exec c s) (fun t =>
        let r := fld (rdO t.fab q.code (ra pREN 0xC0)) 3 0
        let new := objOf t.ren o
        t = { s with fab := t.fab, ren := t.ren } ∧ r = pushResult s.fab s.ren o tns mf n arr ∧
        fld (rdO t.fab q.code (ra pREN 0xC0)) 13 4 = o ∧
        (running s.fab = false → r = 6) ∧ (running s.fab = true → capObj s.fab ≤ o → r = 5) ∧ (r ≠ 1 → t.ren = s.ren) ∧
        (∀ p, p ≠ o → objOf t.ren p = objOf s.ren p) ∧ t.fab.bank0 = s.fab.bank0 ∧ t.fab.bank1 = s.fab.bank1 ∧
        (r = 1 → n = 1 → new.pend.getD new.segs = old.pend.getD old.segs ++ [seg]) ∧
        (r = 1 → n = 2 → new = { old with pend := some [seg] })))

/-- Map, node and express accesses (R151, R155, R156, R169, R173): each acts on the shadow bank alone. A map write that passes its checks
stores its endpoint, any other changes no bank and raises MTX.IRQ_RAW[4]; a node write of outcome DONE gives the node its gain, any other
outcome changes no bank, and NODE_RESULT and NODE_ADDR say so to the requester; a node read returns the shadow gain, or 0 outside the
matrix; an express WRITE of outcome DONE stores the staged endpoints and gain, and an express READ stages them. -/
def Obligations.MatrixAccessesActOnTheShadowBank : Prop :=
  ∀ (q : Req) (dst : Bool) (i : Fin 2048) (v g : Word) (s : State), isUp s = true →
    let banks (f h : Fabric) : Prop := h.bank0 = f.bank0 ∧ h.bank1 = f.bank1
    let a := if dst then dstMapAt i else srcMapAt i
    let ep := v.toNat % 65536
    let aw := rdO s.fab q.code (ra pMTX 0x8A0)
    let sn := fld aw 10 0
    let dn := fld aw 26 16
    let x := fld (rdO s.fab q.code (ra pMTX 0x8C0)) 8 0
    let xe := rdO s.fab q.code (ra pMTX 0x8C4)
    let xc := rdO s.fab q.code (ra pMTX 0x8CC)
    (ready s.fab (pageOf a) = false → exec (.mapWrite q dst i v) s = .next (failOn s (pageOf a) 1 (offOf a))) ∧
    (ready s.fab (pageOf a) = true → Next (exec (.mapWrite q dst i v) s) (fun t => t = { s with fab := t.fab } ∧
      (shadowGate s.fab pMTX = 0 → mapVerdict s.fab dst i ep = 0 → rdShd t.fab pMTX a = BitVec.ofNat 32 ep ∧
        ∀ b k, ¬(b = !actB s.fab pMTX ∧ k = a) → rdB t.fab b k = rdB s.fab b k) ∧
      (shadowGate s.fab pMTX ≠ 0 ∨ mapVerdict s.fab dst i ep ≠ 0 → banks s.fab t.fab ∧ getB t.fab (ra pMTX 0x10) 4 = true))) ∧
    (ready s.fab pMTX = false → exec (.nodeWrite q g) s = .next (failOn s pMTX 1 0x8A8) ∧
      exec (.xrWrite q) s = .next (failOn s pMTX 1 0x8D0) ∧ exec (.xrRead q) s = .next (failOn s pMTX 1 0x8D0)) ∧
    (ready s.fab pMTX = true → Next (exec (.nodeWrite q g) s) (fun t => t = { s with fab := t.fab } ∧
      rdO t.fab q.code (ra pMTX 0x8B0) = BitVec.ofNat 32 (nodeVerdict s.fab s.mtx sn dn g) ∧
      rdO t.fab q.code (ra pMTX 0x8A0) = nextAddr s.fab aw ∧
      (nodeVerdict s.fab s.mtx sn dn g = 1 → rdShd t.fab pMTX (nodeKey sn dn) = g ∧
        ∀ b k, ¬(b = !actB s.fab pMTX ∧ (k = nodeKey sn dn ∨ k = nodeKey sn dn + 1)) → rdB t.fab b k = rdB s.fab b k) ∧
      (nodeVerdict s.fab s.mtx sn dn g ≠ 1 → banks s.fab t.fab))) ∧
    Next (exec (.nodeRead q) s) (fun t => t = { s with fab := t.fab } ∧ banks s.fab t.fab ∧
      rdO t.fab q.code (ra pMTX 0x8A0) = nextAddr s.fab aw ∧ mget zeroN t.fab.rdata q.code =
        if sn < capLogical s.fab ∧ dn < capLogical s.fab then (rdShd s.fab pMTX (nodeKey sn dn)).toNat else 0) ∧
    (ready s.fab pMTX = true → Next (exec (.xrWrite q) s) (fun t => t = { s with fab := t.fab } ∧
      rdO t.fab q.code (ra pMTX 0x8D4) = BitVec.ofNat 32 (xrVerdict s.fab s.mtx x xe xc) ∧
      (xrVerdict s.fab s.mtx x xe xc = 1 → rdShd t.fab pMTX (xrKey x) = xe ∧
        rdShd t.fab pMTX (xrKey x + 1) = rdO s.fab q.code (ra pMTX 0x8C8) ∧
        ∀ b k, ¬(b = !actB s.fab pMTX ∧ xrKey x ≤ k ∧ k < xrKey x + 3) → rdB t.fab b k = rdB s.fab b k) ∧
      (xrVerdict s.fab s.mtx x xe xc ≠ 1 → banks s.fab t.fab ∧ getB t.fab (ra pMTX 0x10) 4 = true))) ∧
    (ready s.fab pMTX = true → Next (exec (.xrRead q) s) (fun t => t = { s with fab := t.fab } ∧ banks s.fab t.fab ∧
      rdO t.fab q.code (ra pMTX 0x8C4) = rdShd s.fab pMTX (xrKey x) ∧ rdO t.fab q.code (ra pMTX 0x8C8) = rdShd s.fab pMTX (xrKey x + 1) ∧
      rdO t.fab q.code (ra pMTX 0x8CC) = rdShd s.fab pMTX (xrKey x + 2) ∧ (∀ r, rdR t.fab r = rdR s.fab r)))

/-- CH_CTRL, CNV_CFG, CH_CFG and CH_SRC (R173, R190, R199, R240, R245): a write that the unit's state and its own checks let through goes to
its word of the shadow bank, and nothing else of the banks changes; one that takes a shared convolution pool beyond its capacity is
rejected with POOL; any other is rejected and changes no bank. RESYNC marks its channel's synchronising reset due. -/
def Obligations.ChainAndInputWritesAreChecked : Prop :=
  ∀ (q : Req) (n : Fin 1024) (src : Bool) (v : Word) (s : State), isUp s = true →
    let store (s : State) (c a : Nat) (w : Word) (t : State) : Prop := t = { s with fab := wrShd s.fab c a w }
    let kept (s t : State) : Prop := t = { s with fab := t.fab } ∧ t.fab.bank0 = s.fab.bank0 ∧ t.fab.bank1 = s.fab.bank1
    let pS := 192 + n.val / 16
    let oS := 0x40 + 0x80 * (n.val % 16)
    let w := v &&& 0x07FF_07FF
    let ovr (c a : Nat) (w : Word) : Bool := overPool s.fab (wrShd s.fab c a w)
    (ready s.fab pS = false → exec (.chCtrlWrite q n v) s = .next (failOn s pS 1 oS)) ∧
    (ready s.fab pS = true → shadowGate s.fab pSPK ≠ 0 → exec (.chCtrlWrite q n v) s = .next (failOn s pS (shadowGate s.fab pSPK) oS)) ∧
    (ready s.fab pS = true → shadowGate s.fab pSPK = 0 → Next (exec (.chCtrlWrite q n v) s) (fun t =>
      (fld w 10 6 ≤ 16 → ¬(bit w 0 = true ∧ capChain s.fab ≤ n) → ovr pSPK (spkAt n 0) w = false → store s pSPK (spkAt n 0) w t) ∧
      (fld w 10 6 ≤ 16 → ¬(bit w 0 = true ∧ capChain s.fab ≤ n) → ovr pSPK (spkAt n 0) w = true → kept s t ∧
        getB t.fab (ra pCNV 0x50) 1 = true ∧ getB t.fab (ra pCNV 0x10) 0 = true) ∧
      (16 < fld w 10 6 ∨ bit w 0 = true ∧ capChain s.fab ≤ n → kept s t ∧ getB t.fab (ra pSPK 0x10) 7 = true))) ∧
    (ready s.fab (257 + n.val / 256) = false →
      exec (.cnvCfgWrite q n v) s = .next (failOn s (257 + n.val / 256) 1 (0x40 + 8 * (n.val % 256)))) ∧
    (ready s.fab (128 + n.val / 64) = false →
      exec (.incChWrite q n src v) s = .next (failOn s (128 + n.val / 64) 1 (0x40 + 0x20 * (n.val % 64) + 4 * src.toNat)) ∧
      exec (.resync q n v) s = .next (failOn s (128 + n.val / 64) 1 (0x54 + 0x20 * (n.val % 64)))) ∧
    (let p := 257 + n.val / 256
     let bad := 12 < fld v 3 0 ∨ rate96 s.fab = false ∧ 8 < fld v 3 0 ∨ 4 < fld v 10 8 ∨ fld v 15 12 = 13 ∨ fld v 15 12 = 14
     (ready s.fab p = true → shadowGate s.fab pCNV ≠ 0 → exec (.cnvCfgWrite q n v) s =
       .next (failOn s p (shadowGate s.fab pCNV) (offOf (cnvAt n)))) ∧
     (ready s.fab p = true → shadowGate s.fab pCNV = 0 → Next (exec (.cnvCfgWrite q n v) s) (fun t =>
      (¬bad → ovr pCNV (cnvAt n) (v &&& 0x1FFF_F70F) = false → store s pCNV (cnvAt n) (v &&& 0x1FFF_F70F) t) ∧
      (bad ∨ ovr pCNV (cnvAt n) (v &&& 0x1FFF_F70F) = true → kept s t)))) ∧
    (let p := 128 + n.val / 64
     let a := incAt n (if src then 4 else 0)
     let w := if src then v &&& 0xFFFF else v &&& 0x1_FF77
     let code := if src then incVerdict s.fab n false (rdShd s.fab pINC (incAt n 0)) w.toNat
       else incVerdict s.fab n true w ((rdShd s.fab pINC (incAt n 4)).toNat % 65536)
     ready s.fab p = true → (shadowGate s.fab pINC ≠ 0 → exec (.incChWrite q n src v) s = .next (failOn s p (shadowGate s.fab pINC) (offOf a))) ∧
      (shadowGate s.fab pINC = 0 → Next (exec (.incChWrite q n src v) s) (fun t =>
        (code = 0 → store s pINC a w t) ∧ (code ≠ 0 → kept s t))) ∧
      (bit v 0 = false → exec (.resync q n v) s = .next s) ∧
      (bit v 0 = true → exec (.resync q n v) s = .next { s with inc := setCh s.inc n { incCh s.inc n with due := true } }))

/-- Transitions, rate measurement and slips (R161, R165, R166, R230, R231, R234 to R236, R241): a route whose step has waited its timeout is
marked and counted once, a chain's gain step likewise; the head of the queue takes a free slot at the next block, and exactly the
finished transitions of the key leave their slots; a conditioning channel's ACTIVE, SETTLING and RAMP bits follow its warm-up and ramp;
a measurement out of range takes the group to RANGE with GRP_STAT's bit and INC.IRQ_RAW[4], one in range takes a group in RANGE to
ACQUIRE and one in ACQUIRE to FAST at the first sample of a block; FAST ends in TRACK; a loop update moves the ratio within its limits,
at once or, where the device contributes to a stack, as a published decision, and a clamp makes a further clamp count; a complete slip
window places the slip, with its counter and INC.IRQ_RAW[0], or leaves it to be published; each acts once its time has come and not
before. -/
def Obligations.TransitionsAndRateGroups : Prop :=
  ∀ (k : RouteKey) (g : Fin 32) (c : Fin 1024) (s : State), clocked s = true → isActive s = true →
    let m := s.inc.next
    let v := incGrp s.inc g
    let late (t : Trans) : Prop := t.key = k ∧ t.route = false ∧ t.crossed = none ∧ t.timed = false ∧
      ∃ b, t.start = some b ∧ b + t.tmo ≤ nextBlock s.fab
    ((∀ t, t ∈ s.mtx.trans → ¬late t) → exec (.zcTimeout (.route k)) s = .next s) ∧
    ((∃ t, t ∈ s.mtx.trans ∧ late t) → Next (exec (.zcTimeout (.route k)) s) (fun t => t = { s with fab := t.fab, mtx := t.mtx } ∧
      getB t.fab (ra pMTX 0x10) 2 = true ∧ rdN t.fab (ra pMTX 0x878) = incSat 32 (rdN s.fab (ra pMTX 0x878)) 1 ∧
      Touches [ra pMTX 0x10, ra pMTX 0x878] s.fab t.fab ∧ ∀ u, u ∈ t.mtx.trans → u.key = k → u.timed = false → ¬late u)) ∧
    (∀ n : Fin 1024,
      let step (x : ChainState) := (mget (fun _ => Chain.reset) x.chains n.val).cur.step
      ((∀ z, step s.chains = some z → z.crossed ≠ none ∨ z.timed = true ∨ nextBlock s.fab < z.start + z.tmo) →
        exec (.zcTimeout (.chain n)) s = .next s) ∧
      (∀ z, step s.chains = some z → z.crossed = none → z.timed = false → z.start + z.tmo ≤ nextBlock s.fab →
        Next (exec (.zcTimeout (.chain n)) s) (fun t => t = { s with fab := t.fab, chains := t.chains } ∧
          step t.chains = some { z with timed := true } ∧ getB t.fab (ra pSPK 0x10) 4 = true ∧
          rdN t.fab (ra pSPK 0x858) = incSat 32 (rdN s.fab (ra pSPK 0x858)) 1 ∧
          ∀ j, j ≠ n.val → mget (fun _ => Chain.reset) t.chains.chains j = mget (fun _ => Chain.reset) s.chains.chains j))) ∧
    (nextQueued s.fab s.mtx.trans = none → exec .transitionStart s = .next s) ∧
    (∀ h, nextQueued s.fab s.mtx.trans = some h → h ∈ s.mtx.trans ∧ Next (exec .transitionStart s) (fun t =>
      t = { s with mtx := t.mtx } ∧ { h with start := some (nextBlock s.fab) } ∈ t.mtx.trans ∧
      ∀ u, u ∈ s.mtx.trans → u ≠ h → u ∈ t.mtx.trans)) ∧
    Next (exec (.transitionEnd k) s) (fun t => t = { s with mtx := { s.mtx with trans := t.mtx.trans } } ∧
      ∀ u, u ∈ t.mtx.trans ↔ u ∈ s.mtx.trans ∧ ¬(u.key = k ∧ waiting u (nextBlock s.fab - u.start.getD 0) = false ∧
        ∃ b, u.start = some b ∧ b + transLen u ≤ nextBlock s.fab)) ∧
    (∀ i, i = Instr.conditioningWarmupEnd c ∨ i = .conditioningRampEnd c → Next (exec i s) (fun t => t = { s with fab := t.fab } ∧
      (∀ a, a ≠ incAt c 8 → rdR t.fab a = rdR s.fab a) ∧ (∀ n, n = 3 ∨ n = 4 ∨ 6 ≤ n → getB t.fab (incAt c 8) n = getB s.fab (incAt c 8) n) ∧
      (let h := incCh s.inc c
       let adm := cfgEn h.cfg && !getB s.fab (incAt c 8) 6
       let st := (incGrp s.inc (cfgGrp h.cfg)).st
       let wait := decide (m - h.m0 < warmup h.cfg) || cfgMode h.cfg == 2 && (st == .acquire || st == .range)
       getB t.fab (incAt c 8) 0 = (adm && !wait) ∧ getB t.fab (incAt c 8) 1 = (adm && wait) ∧
       getB t.fab (incAt c 8) 2 = (adm && !wait && decide (m - h.m0 < warmup h.cfg + 64))))) ∧
    ((∀ b, v.fade = some b → m < b + 32) → exec (.conditioningFadeEnd g) s = .next s) ∧
    (∀ b, v.fade = some b → b + 32 ≤ m → exec (.conditioningFadeEnd g) s =
      .next { s with inc := setGrp s.inc g { v with fade := none } }) ∧
    ((v.st ≠ .acquire ∧ v.st ≠ .range ∨ m < v.since + acqLen s.fab ∨ following s.fab s.inc g = true) → exec (.asrcMeasureEnd g) s = .next s) ∧
    (¬(v.st ≠ .acquire ∧ v.st ≠ .range ∨ m < v.since + acqLen s.fab ∨ following s.fab s.inc g = true) → Next (exec (.asrcMeasureEnd g) s)
      (fun t => t = { s with fab := t.fab, inc := t.inc } ∧
        ((v.count * fsHz s.fab < 43659 * acqLen s.fab ∨ 193920 * acqLen s.fab < v.count * fsHz s.fab) → (incGrp t.inc g).st = .range ∧ (incGrp t.inc g).since = m ∧
          getB t.fab (grpAt g 4) 17 = true ∧ getB t.fab (ra pINC 0x10) 4 = true) ∧
        (¬(v.count * fsHz s.fab < 43659 * acqLen s.fab ∨ 193920 * acqLen s.fab < v.count * fsHz s.fab) →
          (v.st = .range → t = { s with inc := setGrp s.inc g (toAcquire v m) }) ∧
          (v.st = .acquire → m % blockLen s.fab ≠ 0 → t = s) ∧
          (v.st = .acquire → m % blockLen s.fab = 0 → t.fab = s.fab ∧ (incGrp t.inc g).st = .fast ∧ (incGrp t.inc g).since = m ∧
            (incGrp t.inc g).i = 0 ∧ (incGrp t.inc g).rho = (incGrp t.inc g).rho0 ∧
            (incGrp t.inc g).rho0 = rne ((v.count : Int) * 2 ^ 60) ((incGrp t.inc g).p * acqLen s.fab))))) ∧
    Next (exec (.asrcFastEnd g) s) (fun t => t = { s with inc := t.inc } ∧
      (v.st = .fast → v.since + fastLen s.fab ≤ m → following s.fab s.inc g = false → incGrp t.inc g = { v with st := .track }) ∧
      (¬(v.st = .fast ∧ v.since + fastLen s.fab ≤ m ∧ following s.fab s.inc g = false) → t = s)) ∧
    (((v.st ≠ .fast ∧ v.st ≠ .track) ∨ m % updLen s.fab ≠ 0 ∨ v.lastUpd = some m ∨ following s.fab s.inc g = true) →
      exec (.asrcLoopUpdate g) s = .next s) ∧
    (¬((v.st ≠ .fast ∧ v.st ≠ .track) ∨ m % updLen s.fab ≠ 0 ∨ v.lastUpd = some m ∨ following s.fab s.inc g = true) →
      Next (exec (.asrcLoopUpdate g) s) (fun t => t = { s with fab := t.fab, inc := t.inc } ∧ (incGrp t.inc g).lastUpd = some m ∧
        (let held (r : Int) : Prop := 0 ≤ v.rho0 → v.rho0 - rne (5 * v.rho0) 1000 ≤ r ∧ r ≤ v.rho0 + rne (5 * v.rho0) 1000
         (s.inc.pubs = false → held (incGrp t.inc g).rho ∧ t.inc.pub = s.inc.pub) ∧
         (s.inc.pubs = true → (incGrp t.inc g).rho = v.rho ∧
           ∃ z, t.inc.pub = s.inc.pub ++ [z] ∧ z.grp = g.val ∧ z.at_ = m ∧ held z.rho)) ∧
        ((incGrp t.inc g).st = v.st ∨ (incGrp t.inc g).st = .acquire ∧ 3 ≤ v.clamped ∧ getB t.fab (grpAt g 4) 16 = true ∧
          getB t.fab (ra pINC 0x10) 3 = true))) ∧
    ((v.slip = none ∨ ∃ p, v.slip = some p ∧ v.arrived < p.start + 32) → exec (.slipPlace (.group g)) s = .next s) ∧
    (∀ p, v.slip = some p → p.start + 32 ≤ v.arrived → Next (exec (.slipPlace (.group g)) s) (fun t =>
      t = { s with fab := t.fab, inc := t.inc } ∧ (incGrp t.inc g).slip = none ∧
      (s.inc.pubs = true → t.fab = s.fab ∧ ∃ z, (incGrp t.inc g).placed = some (p, z)) ∧
      (s.inc.pubs = false → getB t.fab (ra pINC 0x10) 0 = true ∧
        rdN t.fab (grpAt g (if p.drop then 0x14 else 0x18)) = incSat 32 (rdN s.fab (grpAt g (if p.drop then 0x14 else 0x18))) 1 ∧
        (incGrp t.inc g).arrived = if p.drop then v.arrived - 1 else v.arrived + 1)))

-- The Cheba cores

/-- An instruction of a core, issued alone in its bundle (R262, R264, R265, R267, R288): a core that is not RUNNING issues nothing; a
bundle that faults stops the core FAULTED with its code, its address in FAULT_PC and IRQ_RAW[0], and nothing of the core changes; any
other completes with the bundle's effect: it changes no register but its destinations, SR, the loop counters and those whose earlier results become visible, no
data memory unless it stores, and no other core but for the event SEND raises there; where no delay slot and no loop is in progress and
it is no flow control, the next address follows in one cycle. -/
def Obligations.BundlesIssueOrFault : Prop :=
  ∀ (c : Instr) (n : Fin 16) (b : Bundle) (s : State), bundleOf c = some (n, b) → isActive s = true →
    let k := coreOf s.cores n
    (coreSt s.fab n ≠ 2 → exec c s = .next s) ∧
    (coreSt s.fab n = 2 → faultOf k (some b) false ≠ 0 → Next (exec c s) (fun t => t = { s with fab := t.fab } ∧
      coreSt t.fab n = 5 ∧ getF t.fab (dspAt n 0x44) 15 8 = faultOf k (some b) false ∧ rdN t.fab (dspAt n 0x48) = k.pc % 2 ^ 32 ∧
      getB t.fab (dspAt n 0x10) 0 = true ∧ Touches [dspAt n 0x10, dspAt n 0x44, dspAt n 0x48] s.fab t.fab)) ∧
    (coreSt s.fab n = 2 → faultOf k (some b) false = 0 → Next (exec c s) (fun t =>
      let k' := coreOf t.cores n
      t = onCores s (fun f cs => perform f cs n b) ∧ t = { s with fab := t.fab, cores := t.cores } ∧ k'.lastPc = k.pc ∧ k'.pm = k.pm ∧
      (∀ j, j ≠ n.val → coreOf t.cores j = { coreOf s.cores j with evtPend := (coreOf t.cores j).evtPend }) ∧
      (∀ r, r ∉ compDests b.comp → r ∉ moveDests b.m0 → r ∉ k.pend.map (fun e => e.2.1) → r ≠ 0x41 → ¬(0x38 ≤ r ∧ r ≤ 0x3A) →
        rdReg k' r = rdReg k r) ∧
      ((∀ y i p r, b.m0 ≠ .mem y true i p r) → k'.x = k.x ∧ k'.y = k.y) ∧
      (k.delay = none → (∀ l, l < 3 → loopOn k l = false) → isFlow b.comp = false →
        k'.pc = (k.pc + 1) % 8192 ∧ k'.delay = none ∧ k'.cyc = k.cyc + 1)))

/-- The 32-bit operations (R253, R256, R257, R265), on a core that is RUNNING,
with no earlier result for SR in flight and not in the last delay slot of RTI, which restores SR:
the result of each and its flags. Z, N, V and C stand in SR[0] to SR[3], SAT in SR[4]. C of a subtraction is a carry or a borrow: the spec
leaves that open, and the model's constant decides it (log 19). -/
def Obligations.AluResultsAndFlags : Prop :=
  ∀ (n dd s1 s2 : Fin 16) (sh : Fin 32) (s : State), isActive s = true → coreSt s.fab n = 2 →
    let k := coreOf s.cores n
    let a := rdD k s1
    let b := rdD k s2
    (∀ e, e ∈ k.pend → e.2.1 ≠ 0x41) → (∀ d, k.delay = some d → d.sr = none ∨ 1 < d.left) →
    let r (t : State) : Word := rdD (coreOf t.cores n) dd
    let sr (t : State) (i : Nat) : Bool := bit (rdSr (coreOf t.cores n)) i
    let old (i : Nat) : Bool := bit (rdSr k) i
    let zn (t : State) (v : Word) : Prop := sr t 0 = (v == 0) ∧ sr t 1 = v.getLsbD 31
    let kept (t : State) : Prop := ∀ i, i < 4 → sr t i = old i
    let gives (c : Instr) (p : State → Prop) : Prop := Next (exec c s) p
    let sat (c : Instr) (v : Int) : Prop := Next (exec c s) (fun t => r t = wordOf (satS 32 v) ∧ kept t ∧
      sr t 4 = (old 4 || decide (v < -2 ^ 31 ∨ 2 ^ 31 ≤ v)))
    let logic (c : Instr) (v : Word) : Prop := Next (exec c s) (fun t => r t = v ∧ zn t v ∧ sr t 2 = false ∧ sr t 3 = old 3)
    let shift (c : Instr) (v : Word) (out : Bool) : Prop := Next (exec c s) (fun t => r t = v ∧ zn t v ∧ sr t 2 = false ∧
      sr t 3 = if sh.val = 0 then old 3 else out)
    let diff (t : State) : Prop := zn t (a - b) ∧ sr t 2 = decide (intOf a - intOf b ≠ intOf (a - b)) ∧
      sr t 3 = (decide (b.toNat ≤ a.toNat) != Config.subBorrow)
    gives (.add n dd s1 s2) (fun t => r t = a + b ∧ zn t (a + b) ∧ sr t 2 = decide (intOf a + intOf b ≠ intOf (a + b)) ∧
      sr t 3 = decide (2 ^ 32 ≤ a.toNat + b.toNat)) ∧
    gives (.sub n dd s1 s2) (fun t => r t = a - b ∧ diff t) ∧ gives (.cmp n s1 s2) (fun t => diff t ∧ ((∀ e, e ∈ k.pend → e.2.1 ≠ dd.val) → r t = rdD k dd)) ∧
    sat (.adds n dd s1 s2) (intOf a + intOf b) ∧ sat (.subs n dd s1 s2) (intOf a - intOf b) ∧
    sat (.abs n dd s1) (intOf a).natAbs ∧ sat (.neg n dd s1) (-intOf a) ∧
    sat (.mulr n dd s1 s2) (rshr (intOf a * intOf b * 2) 32) ∧
    logic (.and n dd s1 s2) (a &&& b) ∧ logic (.or n dd s1 s2) (a ||| b) ∧ logic (.xor n dd s1 s2) (a ^^^ b) ∧
    shift (.asr n dd s1 sh) (a.sshiftRight sh.val) (a.getLsbD (sh.val - 1)) ∧ shift (.lsr n dd s1 sh) (a >>> sh.val) (a.getLsbD (sh.val - 1)) ∧
    shift (.lsl n dd s1 sh) (a <<< sh.val) (a.getLsbD (32 - sh.val)) ∧
    gives (.min n dd s1 s2) (fun t => r t = (if intOf a ≤ intOf b then a else b) ∧ kept t) ∧
    gives (.max n dd s1 s2) (fun t => r t = (if intOf a ≥ intOf b then a else b) ∧ kept t) ∧
    gives (.muli n dd s1 s2) (fun t => r t = wordOf (intOf a * intOf b) ∧ kept t)

/-- The accumulator operations (R255, R256, R265), on such a core: sums and products are exact and taken modulo 2^80, with OVA (SR[5]) set by a wrap
and kept otherwise; a dual MAC works on the pair of accumulators; RND rounds to nearest even and saturates; MVDA places a register in
[63:32], and ASHA shifts arithmetically. -/
def Obligations.AccumulatorResults : Prop :=
  ∀ (n dd x1 y1 x2 y2 : Fin 16) (a e : Fin 4) (sh : BitVec 5) (h : BitVec 7) (ng cl : Bool) (s : State), isActive s = true →
    coreSt s.fab n = 2 →
    let k := coreOf s.cores n
    (∀ e, e ∈ k.pend → e.2.1 ≠ 0x41) → (∀ d, k.delay = some d → d.sr = none ∨ 1 < d.left) →
    let acc (t : State) (i : Nat) : Int := rdAcc (coreOf t.cores n) i
    let ova (t : State) : Bool := bit (rdSr (coreOf t.cores n)) 5
    let wrap (v : Int) : Int := sx 80 (ux 80 v)
    let wraps (v : Int) : Bool := decide (v < -2 ^ 79 ∨ 2 ^ 79 ≤ v)
    let old := bit (rdSr k) 5
    let prod (x y : Fin 16) : Int := intOf (rdD k x) * intOf (rdD k y) * (if bit (rdSr k) 8 then 2 else 1)
    let sum (i : Nat) (x y : Fin 16) : Int := (if cl then 0 else rdAcc k i) + (if ng then -prod x y else prod x y)
    let pair := if a.val % 2 = 0 then a.val + 1 else a.val - 1
    Next (exec (.mac n a x1 y1 x2 y2 ng cl true) s) (fun t => acc t a = wrap (sum a x1 y1) ∧ ova t = (old || wraps (sum a x1 y1)) ∧
      ((∀ e, e ∈ k.pend → e.2.1 ∉ accCodes pair) → acc t pair = rdAcc k pair)) ∧
    Next (exec (.mac n a x1 y1 x2 y2 ng cl false) s) (fun t => acc t a = wrap (sum a x1 y1) ∧ acc t pair = wrap (sum pair x2 y2) ∧
      ova t = (old || wraps (sum a x1 y1) || wraps (sum pair x2 y2))) ∧
    Next (exec (.adda n a e) s) (fun t => acc t a = wrap (rdAcc k a + rdAcc k e) ∧ ova t = (old || wraps (rdAcc k a + rdAcc k e))) ∧
    Next (exec (.suba n a e) s) (fun t => acc t a = wrap (rdAcc k a - rdAcc k e) ∧ ova t = (old || wraps (rdAcc k a - rdAcc k e))) ∧
    (let v := if 0 ≤ sh.toInt then rshr (rdAcc k e * 2 ^ sh.toInt.toNat) 32 else rshr (rdAcc k e) (32 + (-sh.toInt).toNat)
     Next (exec (.rnd n dd e sh) s) (fun t => rdD (coreOf t.cores n) dd = wordOf (satS 32 v) ∧
      bit (rdSr (coreOf t.cores n)) 4 = (bit (rdSr k) 4 || decide (v < -2 ^ 31 ∨ 2 ^ 31 ≤ v)))) ∧
    Next (exec (.mvda n a x1) s) (fun t => acc t a = intOf (rdD k x1) * 2 ^ 32 ∧ ova t = old) ∧
    Next (exec (.clra n a) s) (fun t => acc t a = 0 ∧ ova t = old) ∧
    Next (exec (.asha n a e h) s) (fun t =>
      (0 ≤ h.toInt → acc t a = wrap (rdAcc k e * 2 ^ h.toInt.toNat) ∧ ova t = (old || wraps (rdAcc k e * 2 ^ h.toInt.toNat))) ∧
      (h.toInt < 0 → acc t a = rdAcc k e / 2 ^ (-h.toInt).toNat ∧ ova t = old))

/-- Flow control and the core's own states (R265, R266, R269 to R271, R273, R274, R282, R288), on a core that
is RUNNING with no result for SR in flight: outside delay slots and the last three addresses of an active loop a taken branch leads to
its target after two delay slots, CALL saves its return address in D15, RTI returns to XPC with XSR; LOOP runs its body as often as asked, or
skips it in two cycles more for a count of 0; WAIT, BDONE and HALT; in a delay slot or near a loop's end
flow control faults FLOW; a condition code, a loop level, an active level or an end that is not allowed faults as well. -/
def Obligations.FlowControlOfTheCores : Prop :=
  ∀ (n ds : Fin 16) (cc : Fin 32) (off : BitVec 16) (l : Fin 4) (cnt : BitVec 16) (e : Fin 8192) (s : State), isActive s = true →
    coreSt s.fab n = 2 →
    let k := coreOf s.cores n
    (∀ e, e ∈ k.pend → e.2.1 ≠ 0x41) →
    let core (t : State) : Core := coreOf t.cores n
    let taken := condHolds (rdSr k) cc
    let branch (t : State) (a : Nat) : Prop := (core t).pc = (k.pc + 1) % 8192 ∧
      (core t).delay = some ⟨2, if taken then some a else none, none⟩
    let faults (c : Instr) (code : Nat) : Prop := Next (exec c s) (fun t => coreSt t.fab n = 5 ∧ getF t.fab (dspAt n 0x44) 15 8 = code)
    let loops (c : Instr) (m : Nat) : Prop := Next (exec c s) (fun t => rdReg (core t) (0x38 + l) = BitVec.ofNat 32 m ∧
      rdReg (core t) (0x3B + l) = BitVec.ofNat 32 ((k.pc + 1) % 8192) ∧ rdReg (core t) (0x3E + l) = BitVec.ofNat 32 e ∧
      (m ≠ 0 → loopOn (core t) l = true ∧ (core t).pc = (k.pc + 1) % 8192) ∧
      (m = 0 → loopOn (core t) l = false ∧ (core t).pc = (e + 1) % 8192 ∧ (core t).cyc = k.cyc + 3))
    let free := k.delay = none ∧ nearEnd k = false
    (¬free → (cc.val ≤ 10 → faults (.br n cc off) 4 ∧ faults (.call n cc off) 4 ∧ faults (.jr n cc ds) 4) ∧ faults (.rti n) 4 ∧
      faults (.wait n) 4 ∧ faults (.halt n) 4 ∧ (l.val < 3 → faults (.loop n l ds e) 4 ∧ faults (.loopi n l cnt e) 4)) ∧
    (free → cc.val ≤ 10 → Next (exec (.br n cc off) s) (fun t => branch t ((k.pc + off.toNat) % 8192)) ∧
      Next (exec (.call n cc off) s) (fun t => branch t ((k.pc + off.toNat) % 8192) ∧
        (taken = true → rdD (core t) 15 = BitVec.ofNat 32 ((k.pc + 3) % 8192)) ∧
        (taken = false → (∀ z, z ∈ k.pend → z.2.1 ≠ 15) → rdD (core t) 15 = rdD k 15)) ∧
      Next (exec (.jr n cc ds) s) (fun t => branch t ((rdD k ds).toNat % 8192))) ∧
    (10 < cc.val → faults (.br n cc off) 1 ∧ faults (.call n cc off) 1 ∧ faults (.jr n cc ds) 1) ∧
    (free → l.val < 3 → loopOn k l = false → k.pc + 1 ≤ e → loops (.loop n l ds e) ((rdD k ds).toNat % 2 ^ 16) ∧ loops (.loopi n l cnt e) cnt.toNat) ∧
    (l.val = 3 → faults (.loop n l ds e) 1 ∧ faults (.loopi n l cnt e) 1) ∧
    (free → l.val < 3 → loopOn k l = true ∨ e < k.pc + 1 → faults (.loop n l ds e) 5 ∧ faults (.loopi n l cnt e) 5) ∧
    (free → Next (exec (.rti n) s) (fun t => (core t).pc = (k.pc + 1) % 8192 ∧
      (core t).delay = some ⟨2, some (rdReg k 0x42).toNat, some (rdReg k 0x43)⟩)) ∧
    Next (exec (.nop n) s) (fun t => t.fab = s.fab ∧ (core t).x = k.x ∧ (core t).y = k.y ∧ (free → (core t).pc = (k.pc + 1) % 8192) ∧
      ∀ r, r ≠ 0x41 → ¬(0x38 ≤ r ∧ r ≤ 0x3A) → r ∉ k.pend.map (fun z => z.2.1) → rdReg (core t) r = rdReg k r) ∧
    (free → Next (exec (.wait n) s) (fun t => coreSt t.fab n = 3 ∧ (core t).pc = (k.pc + 1) % 8192)) ∧
    Next (exec (.bdone n) s) (fun t => (core t).bdone = true ∧ (k.bdone = false → (core t).cycDone = k.cyc + 1 ∧ getB t.fab (dspAt n 0x0C) 3 = false)) ∧
    (free → Next (exec (.halt n) s) (fun t => coreSt t.fab n = 4 ∧ rdN t.fab (dspAt n 0x48) = k.pc % 2 ^ 32 ∧ getB t.fab (dspAt n 0x10) 1 = true))

/-- Moves, loads, stores and special registers (R252, R253, R258, R261, R263, R267, R277 to R279, R286), on a core that is
RUNNING with no result for SR in flight and not in RTI's last delay slot: a value written with a latency of one bundle is seen at once and any other waits for the rest of its latency; a load reads and a store writes at Pi, which is then
post-modified, and an address above 0x5FFF faults; a code that names no register, and a special register that may not be read or written,
fault ILLEGAL. -/
def Obligations.MovesOfTheCores : Prop :=
  ∀ (n dd : Fin 16) (dst src : Fin 128) (v : Word) (i : Fin 8) (pm : Fin 4) (r : Fin 28) (m : BitVec 9) (sp : Fin 64) (s : State),
    isActive s = true → coreSt s.fab n = 2 →
    let k := coreOf s.cores n
    (∀ e, e ∈ k.pend → e.2.1 ≠ 0x41) → (∀ d, k.delay = some d → d.sr = none ∨ 1 < d.left) →
    let core (t : State) : Core := coreOf t.cores n
    let faults (c : Instr) (code : Nat) : Prop := Next (exec c s) (fun t => coreSt t.fab n = 5 ∧ getF t.fab (dspAt n 0x44) 15 8 = code)
    let rest := (k.pend.map (fun e => (e.1 - 1, e.2))).filter (fun e => e.1 ≠ 0)
    let moves (c : Instr) (d : Nat) (w : Word) : Prop := Next (exec c s) (fun t =>
      (moveLat d = 1 → (core t).pend = rest ∧ (d ≠ 0x41 → rdReg (core t) d = narrow d w) ∧
        (d = 0x41 → rdReg (core t) d &&& 0x113F = w &&& 0x113F)) ∧
      (moveLat d ≠ 1 → (core t).pend = rest ++ [(moveLat d - 1, d, w)]))
    let p := (rdReg k (0x20 + i)).toNat
    let step (t : State) : Prop := (pm.val ≠ 0 → rdReg (core t) (0x20 + i) = BitVec.ofNat 32 (nextP k i pm % 2 ^ 16)) ∧
      (pm.val = 0 → (∀ e, e ∈ k.pend → e.2.1 ≠ 0x20 + i.val) → rdReg (core t) (0x20 + i) = rdReg k (0x20 + i))
    (codeOk dst = true → moves (.ldi n dst v) dst v ∧ (codeOk src = true → moves (.mov n dst src) dst (rdReg k src))) ∧
    (codeOk dst = false → faults (.ldi n dst v) 1 ∧ faults (.mov n dst src) 1) ∧ (codeOk src = false → faults (.mov n dst src) 1) ∧
    moves (.setp n i m) (0x20 + i) (wordOf m.toInt) ∧ moves (.setm n i m) (0x28 + i) (wordOf m.toInt) ∧
    moves (.setl n i m) (0x30 + i) (wordOf m.toInt) ∧ moves (.setd n i m) i (wordOf m.toInt) ∧
    (∀ c, c = Instr.modx n i pm ∨ c = .mody n i pm → Next (exec c s) (fun t => step t ∧ t.fab = s.fab ∧ (core t).pend = rest)) ∧
    (p < 0x6000 →
      Next (exec (.ldx n i pm r) s) (fun t => step t ∧ (core t).pend = rest ++ [(1, r.val, (coreLoad s.fab k n false p).1)] ∧
        (p < 0x5000 → (coreLoad s.fab k n false p).1 = mget zeroW k.x p)) ∧
      Next (exec (.ldy n i pm r) s) (fun t => step t ∧ (core t).pend = rest ++ [(1, r.val, (coreLoad s.fab k n true p).1)] ∧
        (p < 0x4000 → (coreLoad s.fab k n true p).1 = mget zeroW k.y p)) ∧
      Next (exec (.stx n i pm r) s) (fun t => step t ∧ (core t).y = k.y ∧
        ∀ a, mget zeroW (core t).x a = if a = p then rdReg k r else mget zeroW k.x a) ∧
      Next (exec (.sty n i pm r) s) (fun t => step t ∧ (core t).x = k.x ∧
        (p < 0x4000 → ∀ a, mget zeroW (core t).y a = if a = p then rdReg k r else mget zeroW k.y a) ∧
        (0x4000 ≤ p → p < 0x5000 → (core t).y = k.y) ∧ (0x4000 ≤ p → p < 0x4800 → getB t.fab (dspAt n 0x44) 18 = true) ∧
        (0x4800 ≤ p → p < 0x5000 → shadowGate s.fab (pDSP n) = 0 → rdShd t.fab (pDSP n) (parAt n (p - 0x4800)) = rdReg k r) ∧
        (0x5000 ≤ p → ((p - 0x5000) / 0x800 == 1) = k.xbuf →
          ∀ a, mget zeroW (core t).y a = if a = p then rdReg k r else mget zeroW k.y a) ∧
        (0x5000 ≤ p → ((p - 0x5000) / 0x800 == 1) ≠ k.xbuf → (core t).y = k.y ∧ getB t.fab (dspAt n 0x44) 18 = true))) ∧
    (0x6000 ≤ p → ∀ c, c ∈ [Instr.ldx n i pm r, .ldy n i pm r, .stx n i pm r, .sty n i pm r] → faults c 3) ∧
    (specWritable sp = false → faults (.mvts n sp dd) 1) ∧ (specReadable sp = false → faults (.mvfs n dd sp) 1) ∧
    (specWritable sp = true → Next (exec (.mvts n sp dd) s) (fun t =>
      let x := rdD k dd
      (isDet s.fab n = true → sp.val = 1 → (core t).evtEn = BitVec.ofNat 8 x.toNat &&& 1) ∧
      (isDet s.fab n = true → sp.val ∈ [9, 12, 14, 17] → getB t.fab (dspAt n 0x44) 17 = true ∧ getB t.fab (dspAt n 0x10) 4 = true) ∧
      (sp.val = 3 → (core t).evtPend = k.evtPend &&& ~~~(BitVec.ofNat 8 x.toNat)) ∧ (sp.val = 4 → (core t).vbr = x.toNat % 8192 / 32 * 32) ∧
      (sp.val = 15 → (core t).dmaLoc = x &&& 0x1_FFFF) ∧ (sp.val = 16 → (core t).dmaBus = x &&& 0xFFFF_FFFC) ∧
      (isDet s.fab n = false → (sp.val = 1 → (core t).evtEn = BitVec.ofNat 8 x.toNat) ∧
        (sp.val = 9 → (core t).timerRld = x.toNat ∧ (core t).timerAt = (timeNow s.fab + x.toNat) % 2 ^ 40) ∧
        (sp.val = 12 → getB s.fab (dspAt n 0x60) 1 = false → rdR t.fab (dspAt n 0x5C) = x ∧ getB t.fab (dspAt n 0x60) 1 = true) ∧
        (sp.val = 12 → getB s.fab (dspAt n 0x60) 1 = true → getB t.fab (dspAt n 0x44) 19 = true ∧
          (core t).evtPend = k.evtPend ||| 16) ∧
        (sp.val = 14 → ∀ j : Fin 16, bit x j = true → (coreOf t.cores j).evtPend.getLsbD 5 = true) ∧
        (sp.val = 17 → (k.dma = none → (core t).dma.isSome = true) ∧ (k.dma ≠ none → (core t).dma = k.dma ∧ (core t).dmaRej = true))))) ∧
    (specReadable sp = true → Next (exec (.mvfs n dd sp) s) (fun t =>
      let x := rdD (core t) dd
      (isDet s.fab n = true → sp.val ∈ [8, 10, 11, 13, 18] → x = 0 ∧ getB t.fab (dspAt n 0x44) 17 = true) ∧
      (sp.val = 0 → x = BitVec.ofNat 32 n) ∧
      (sp.val = 1 → x = BitVec.ofNat 32 (if isDet s.fab n then k.evtEn &&& 1 else k.evtEn).toNat) ∧
      (sp.val = 5 → x = BitVec.ofNat 32 k.xbuf.toNat) ∧ (sp.val = 2 → x = BitVec.ofNat 32 k.evtPend.toNat) ∧ (sp.val = 4 → x = BitVec.ofNat 32 k.vbr) ∧
      (sp.val = 6 → x = BitVec.ofNat 32 k.blkMsc) ∧ (sp.val = 7 → x = BitVec.ofNat 32 (k.blkMsc / 2 ^ 32)) ∧
      (sp.val = 9 → x = BitVec.ofNat 32 k.timerRld) ∧ (sp.val = 15 → x = k.dmaLoc) ∧ (sp.val = 16 → x = k.dmaBus) ∧
      (isDet s.fab n = false → (sp.val = 8 → x = BitVec.ofNat 32 k.cyc) ∧
        (sp.val = 10 → x = if k.timerRld = 0 ∨ timerDue s.fab k then 0
          else BitVec.ofNat 32 ((k.timerAt + 2 ^ 40 - timeNow s.fab) % 2 ^ 40)) ∧
        (sp.val = 13 → x = rdR s.fab (dspAt n 0x60) &&& 3) ∧
        (sp.val = 18 → x = BitVec.ofNat 32 (k.dma.isSome.toNat + 2 * k.dmaErr.toNat + 4 * k.dmaRej.toNat + 16 * k.dmaCode)) ∧
        (sp.val = 11 → x = rdR s.fab (dspAt n 0x58) ∧ getB t.fab (dspAt n 0x60) 0 = false))))

/-- What reaches a core from outside (R262, R272 to R274, R276 to R279, R287, R288): BUNDLE_ISSUE issues the bundle that stands at PC, and one that
does not decode, or whose fetch or load meets an uncorrectable error, faults, the error being reported as the array's too; an interrupt enters at VBR + 4e for the lowest enabled pending line where R272 lets it; a waiting core wakes on
one; the timer raises line 3; MBX_IN and EVT_RAISE raise lines 1, 6 and 7; a DMA transfer ends with line 2; a core that is due starts
from PC 0 (that line 0 is then pending is the model's reading, log 33). -/
def Obligations.EventsOfTheCores : Prop :=
  ∀ (n : Fin 16) (me : Bool) (slept : Nat) (q : Req) (v : Word) (s : State),
    let k := coreOf s.cores n
    let core (t : State) : Core := coreOf t.cores n
    let l := coreLines s.fab n k
    let only (t : State) : Prop := t = { s with fab := t.fab, cores := t.cores } ∧ ∀ j, j ≠ n.val → coreOf t.cores j = coreOf s.cores j
    (isActive s = true →
      (coreSt s.fab n ≠ 2 → exec (.bundleIssue n me) s = .next s) ∧
      (coreSt s.fab n = 2 → ∀ w, w = (mget (fun _ => (0 : BitVec 64)) k.pm k.pc).toNat →
        (decodeBundle w = none → Next (exec (.bundleIssue n me) s) (fun t => only t ∧ coreSt t.fab n = 5 ∧
          getF t.fab (dspAt n 0x44) 15 8 = (if me then 6 else 1) ∧
          (me = true → getB t.fab (ra pBUS 0x10) 1 = true ∧
            rdN t.fab (ra pBUS 0xE4) = incSat 32 (rdN s.fab (ra pBUS 0xE4)) 1))) ∧
        (∀ b c, decodeBundle w = some b → bundleOf c = some (n, b) → me = false → exec (.bundleIssue n me) s = exec c s) ∧
        (∀ b, decodeBundle w = some b → faultOf k (some b) me ≠ 0 → Next (exec (.bundleIssue n me) s) (fun t => only t ∧
          coreSt t.fab n = 5 ∧ getF t.fab (dspAt n 0x44) 15 8 = faultOf k (some b) me)) ∧
        (∀ b, decodeBundle w = some b → faultOf k (some b) me = 0 → Next (exec (.bundleIssue n me) s) (fun t =>
          t = onCores s (fun f cs => perform f cs n b) ∧
          (core t).lastPc = k.pc ∧ (core t).pm = k.pm ∧ t = { s with fab := t.fab, cores := t.cores }))) ∧
      (¬(coreSt s.fab n = 2 ∧ bit (rdSr k) 12 = true ∧ l ≠ 0 ∧ inWindow k = false) → exec (.interruptEntry n) s = .next s) ∧
      (coreSt s.fab n = 2 → bit (rdSr k) 12 = true → l ≠ 0 → inWindow k = false → Next (exec (.interruptEntry n) s) (fun t => only t ∧
        t.fab = s.fab ∧ ∃ e, e < 8 ∧ l.getLsbD e = true ∧ (∀ j, j < e → l.getLsbD j = false) ∧ (core t).pc = (k.vbr + 4 * e) % 8192 ∧
          rdReg (core t) 0x43 = rdSr k ∧ rdReg (core t) 0x42 = BitVec.ofNat 32 (k.pc % 8192) ∧ bit (rdSr (core t)) 12 = false ∧
          fld (rdSr (core t)) 26 24 = e ∧ (core t).evtPend.getLsbD e = false)) ∧
      (¬(coreSt s.fab n = 3 ∧ l ≠ 0) → exec (.coreWake n slept) s = .next s) ∧
      (coreSt s.fab n = 3 → l ≠ 0 → Next (exec (.coreWake n slept) s) (fun t => only t ∧ coreSt t.fab n = 2 ∧
        (bit (rdSr k) 12 = false → core t = { k with cyc := k.cyc + slept + 14 }))) ∧
      (timerDue s.fab k = false → exec (.coreTimer n) s = .next s) ∧
      (timerDue s.fab k = true → Next (exec (.coreTimer n) s) (fun t => only t ∧ t.fab = s.fab ∧
        core t = { k with evtPend := k.evtPend ||| 8, timerAt := (k.timerAt + k.timerRld) % 2 ^ 40 })) ∧
      (k.dma = none → exec (.coreDmaEnd n) s = .next s) ∧
      (∀ j, k.dma = some j → Next (exec (.coreDmaEnd n) s) (fun t => (core t).dma = none ∧ (core t).evtPend.getLsbD 2 = true ∧
        (j.code ≠ 0 → only t ∧ (core t).dmaErr = true ∧ (core t).dmaCode = j.code ∧ getB t.fab (dspAt n 0x44) 21 = true) ∧
        ((core t).dmaCode = 0 → (core t).dmaErr = false) ∧
        (j.code = 0 → j.out = true →
          let w := coreDmaWrite s (2 + n.val / 4) j.bus (dmaLocalRead k j)
          t.mem = w.1.mem ∧ (core t).dmaErr = !w.2 ∧ (core t).dmaCode = if w.2 then 0 else 3) ∧
        (j.code = 0 → j.out = false →
          let w := coreDmaRead s (2 + n.val / 4) j.bus j.words
          t.mem = w.1.mem ∧ (core t).dmaErr = !w.2.2 ∧ (core t).x = (dmaLocalWrite (coreOf w.1.cores n) j w.2.1).x ∧
          (core t).y = (dmaLocalWrite (coreOf w.1.cores n) j w.2.1).y))) ∧
      (¬(coreSt s.fab n = 1 ∧ k.due = true) → exec (.coreStart n) s = .next s) ∧
      (coreSt s.fab n = 1 → k.due = true → Next (exec (.coreStart n) s) (fun t => only t ∧ coreSt t.fab n = 2 ∧
        core t = { coreFresh k with evtPend := 1 } ∧ (core t).pc = 0))) ∧
    (isUp s = true → ready s.fab (pDSP n) = true →
      (getB s.fab (dspAt n 0x60) 0 = true → exec (.mailboxWrite q n v) s = .next (failOn s (pDSP n) 0x0101 0x58)) ∧
      (getB s.fab (dspAt n 0x60) 0 = false → Next (exec (.mailboxWrite q n v) s) (fun t => only t ∧ rdR t.fab (dspAt n 0x58) = v ∧
        getB t.fab (dspAt n 0x60) 0 = true ∧ core t = { k with evtPend := k.evtPend ||| 2 })) ∧
      Next (exec (.evtRaise q n v) s) (fun t => only t ∧ t.fab = s.fab ∧
        core t = { k with evtPend := k.evtPend ||| (if bit v 6 then 64 else 0) ||| (if bit v 7 then 128 else 0) })) ∧
    (isUp s = true → ready s.fab (pDSP n) = false → exec (.mailboxWrite q n v) s = .next (failOn s (pDSP n) 1 0x58) ∧
      exec (.evtRaise q n v) s = .next (failOn s (pDSP n) 1 0x64))

-- Time

/-- The counter, its commits and its snapshots (R293 to R295, R298 to R300, R302): a tick adds INCR, the pending one where there is one, and a pending step, counts
the elapsed time, which no step moves, and moves nothing else of the session; a carry or a borrow of TIME_NS is a cause; INCR_NS and STEP_NS are committed at the next tick unless the
page is not READY, the counter follows the stack, the increment is out of range or a step is pending; NOW_NS and LATCH_NS latch their
sets for the requester. -/
def Obligations.TimebaseAdvances : Prop :=
  ∀ (q : Req) (v : Word) (s : State),
    let n := fld v 3 0 * 2 ^ 32 + rdN s.fab (ra pTB 0x40)
    let inc := s.tb.incrPend.getD s.tb.incr
    let sum : Int := s.fab.time.toNat + inc + s.tb.stepPend.getD 0
    (tbRuns s = false → exec .tbTick s = .next s) ∧
    (tbRuns s = true → Next (exec .tbTick s) (fun t => t = { s with fab := t.fab, tb := t.tb, ref := t.ref, net := t.net, pwr := t.pwr } ∧
      t.net = { s.net with now := s.net.now + 4 } ∧ t.pwr = { s.pwr with freqWait := s.pwr.freqWait - 1 } ∧
      t.fab.time = BitVec.ofInt 72 sum ∧ t.tb = { s.tb with incr := inc, incrPend := none, stepPend := none, ticks := s.tb.ticks + 1 } ∧
      t.fab.msc = s.fab.msc ∧
      getB t.fab (ra pTB 0x50) 0 = false ∧ getB t.fab (ra pTB 0x50) 1 = false ∧
      (2 ^ 64 ≤ s.fab.time.toNat % 2 ^ 64 + inc → s.tb.stepPend = none → getB t.fab (ra pTB 0x10) 20 = true) ∧
      (s.tb.stepPend.isSome = true → getB t.fab (ra pTB 0x10) 24 = true) ∧
      (s.tb.incrPend.isSome = true → getB t.fab (ra pTB 0x10) 25 = true))) ∧
    (isUp s = true →
      (ready s.fab pTB = false → exec (.incrCommit q v) s = .next (failOn s pTB 1 0x44) ∧
        exec (.stepCommit q v) s = .next (failOn s pTB 1 0x4C)) ∧
      (ready s.fab pTB = true → tbFollowing s.fab = true → exec (.incrCommit q v) s = .next (failOn s pTB 0x0102 0x44) ∧
        exec (.stepCommit q v) s = .next (failOn s pTB 0x0102 0x4C)) ∧
      (ready s.fab pTB = true → tbFollowing s.fab = false →
        (n < 0x3_8000_0000 ∨ 0x4_7FFF_FFFF < n → exec (.incrCommit q v) s = .next (failOn s pTB 0x0100 0x44)) ∧
        (¬(n < 0x3_8000_0000 ∨ 0x4_7FFF_FFFF < n) → Next (exec (.incrCommit q v) s) (fun t =>
          t = { s with fab := t.fab, tb := { s.tb with incrPend := some n } } ∧ getB t.fab (ra pTB 0x50) 0 = true ∧
          rdN t.fab (ra pTB 0x44) = fld v 3 0)) ∧
        (s.tb.stepPend.isSome = true → exec (.stepCommit q v) s = .next (failOn s pTB 0x0101 0x4C)) ∧
        (s.tb.stepPend = none → Next (exec (.stepCommit q v) s) (fun t =>
          t = { s with fab := t.fab, tb := { s.tb with stepPend := some (intOf v * 2 ^ 32 + rdN s.fab (ra pTB 0x48)) } } ∧
          getB t.fab (ra pTB 0x50) 1 = true))) ∧
      Next (exec (.nowRead q) s) (fun t => t = { s with fab := t.fab } ∧ mget zeroN t.fab.rdata q.code = timeNs s.fab ∧
        held t.fab q.code = snapWords (ra pTB 0x64) s.fab.time.toNat s.fab.msc.toNat ∧ ∀ a, rdR t.fab a = rdR s.fab a) ∧
      Next (exec (.latchRead q) s) (fun t => t = { s with fab := t.fab } ∧ mget zeroN t.fab.rdata q.code = rdN s.fab (ra pTB 0x80) ∧
        (held t.fab q.code).map (·.2) = [rdR s.fab (ra pTB 0x84), rdR s.fab (ra pTB 0x88), rdR s.fab (ra pTB 0x8C), rdR s.fab (ra pTB 0x90)] ∧
        ∀ a, rdR t.fab a = rdR s.fab a))

/-- Captures, comparators and event pins (R303, R305 to R314, R328): an edge is recorded, with the counter at the edge and MSC, by each enabled unit that selects its
source and edge, a PPS edge inverted where its monitor inverts it, lies past its hold-off and has counted its division, while its queue has room; a read of CAP_NS takes the oldest entry;
arming takes the target of the registers and is refused while armed; a comparator fires only while it is armed, enabled and reached,
then shows FIRED, the time and its cause, and a one-shot one disarms; a DISARM disarms, after the fire where one is due at that tick; event pins take their configuration, and a pulse ends in its
time. -/
def Obligations.CapturesAndComparators : Prop :=
  ∀ (q : Req) (src : Fin 32) (up : Bool) (ns : Fin 4) (part : Fin 1024) (k : Fin 12) (n p : Fin 8) (v : Word) (s : State),
    let cfg := rdR s.fab (capAt k 0)
    let u := capOfUnit s.tb k
    let ph := 1024 * ns.val + part.val
    let stamp := stampAt s.fab s.tb ph
    let far := ∀ l, u.last = some l → fld cfg 15 8 * 16 * 2 ^ 10 < elapsedAt s.tb ph - l
    let hears := fld cfg 4 0 = src.val ∧ bit cfg (if up != ppsInverted s.fab src then 5 else 6) = true ∧ enabled s.fab pTB = true ∧ far
    let fires := cmpArmed s.fab n && enabled s.fab pTB && (cmpReached s.fab s.tb n || (cmpOf s.tb n).late)
    let base := fld (rdR s.fab (cmpAt n 0)) 1 0
    (tbRuns s = true →
      (src.val < 8 → getB s.fab (evtAt src) 0 = true → exec (.captureEdge src up ns part) s = .next s) ∧
      (¬(src.val < 8 ∧ getB s.fab (evtAt src) 0 = true) → Next (exec (.captureEdge src up ns part) s) (fun t =>
        t = { s with fab := t.fab, tb := t.tb } ∧ t.fab.time = s.fab.time ∧
        (¬hears → capOfUnit t.tb k = u) ∧
        (hears → u.n < fld cfg 31 16 → (capOfUnit t.tb k).q = u.q ∧ (capOfUnit t.tb k).n = u.n + 1) ∧
        (hears → fld cfg 31 16 ≤ u.n → u.q.length < 4 → (capOfUnit t.tb k).q = u.q ++ [⟨stamp, s.fab.msc.toNat⟩] ∧ (capOfUnit t.tb k).n = 0 ∧
          getB t.fab (ra pTB 0x10) k = true) ∧
        (hears → fld cfg 31 16 ≤ u.n → 4 ≤ u.q.length → (capOfUnit t.tb k).q = u.q ∧ getB t.fab (capAt k 4) 8 = true ∧
          getB t.fab (ra pTB 0x10) 22 = true))) ∧
      (fires = false → exec (.comparatorFire n) s = .next s) ∧
      (fires = true → Next (exec (.comparatorFire n) s) (fun t => getB t.fab (cmpAt n 0x14) 1 = true ∧
        rdN t.fab (cmpAt n 0x1C) = timeNs s.fab ∧ getB t.fab (ra pTB 0x10) (12 + n.val) = true ∧ t.mem = s.mem ∧ t.fab.time = s.fab.time ∧
        (base = 2 → cmpArmed t.fab n = true ∧ (cmpOf t.tb n).late = false) ∧
        (base ≠ 2 → rdN s.fab (cmpAt n 0xC) = 0 → cmpArmed t.fab n = false ∧ cmpOf t.tb n = Cmp.reset) ∧
        (base ≠ 2 → rdN s.fab (cmpAt n 0xC) ≠ 0 → cmpArmed t.fab n = true ∧ (cmpOf t.tb n).late = false))) ∧
      Next (exec (.evtPulseEnd p) s) (fun t => t = { s with tb := t.tb } ∧ (∀ j, j ≠ p.val → pinOf t.tb j = pinOf s.tb j) ∧
        ((pinOf s.tb p).pulse = none → t = s) ∧ (∀ e, (pinOf s.tb p).pulse = some e →
          pinOf t.tb p = if e ≤ s.tb.ticks then EvtPin.reset else pinOf s.tb p))) ∧
    (isUp s = true →
      Next (exec (.capRead q k) s) (fun t => t = { s with fab := t.fab, tb := t.tb } ∧
        (u.q = [] → t.tb = s.tb ∧ mget zeroN t.fab.rdata q.code = 0 ∧ ∀ e, e ∈ held t.fab q.code → e.2 = 0) ∧
        (∀ e r, u.q = e :: r → (capOfUnit t.tb k).q = r ∧ mget zeroN t.fab.rdata q.code = e.time / 2 ^ 32 % 2 ^ 32 ∧
          held t.fab q.code = snapWords (capAt k 0xC) e.time e.msc ∧ getF t.fab (capAt k 4) 2 0 = r.length % 8)) ∧
      (ready s.fab pTB = false →
        (∀ c, c = Instr.cmpArm q n ∨ c = .cmpDisarm q n → exec c s = .next (failOn s pTB 1 (0x310 + 0x20 * n.val))) ∧
        exec (.evtCfgWrite q p v) s = .next (failOn s pTB 1 (0x400 + 4 * p.val))) ∧
      (ready s.fab pTB = true →
        (cmpArmed s.fab n = true → exec (.cmpArm q n) s = .next (failOn s pTB 0x0103 (0x310 + 0x20 * n.val))) ∧
        (cmpArmed s.fab n = false → Next (exec (.cmpArm q n) s) (fun t => t = { s with fab := t.fab, tb := t.tb } ∧
          cmpArmed t.fab n = true ∧ (cmpOf t.tb n).tgt = cmpTarget s.fab n ∧ (∀ j, j ≠ n.val → cmpOf t.tb j = cmpOf s.tb j) ∧
          ∀ a, a ≠ cmpAt n 0x14 → rdR t.fab a = rdR s.fab a)) ∧
        (cmpDue s.fab s.tb n = true → Next (exec (.cmpDisarm q n) s) (fun t => cmpArmed t.fab n = false ∧ cmpOf t.tb n = Cmp.reset ∧
          getB t.fab (cmpAt n 0x14) 1 = true ∧ rdN t.fab (cmpAt n 0x1C) = timeNs s.fab ∧ getB t.fab (ra pTB 0x10) (12 + n.val) = true)) ∧
        (cmpDue s.fab s.tb n = false → Next (exec (.cmpDisarm q n) s) (fun t => t = { s with fab := t.fab, tb := t.tb } ∧ cmpArmed t.fab n = false ∧
          cmpOf t.tb n = Cmp.reset ∧ (∀ j, j ≠ n.val → cmpOf t.tb j = cmpOf s.tb j) ∧ ∀ a, a ≠ cmpAt n 0x14 → rdR t.fab a = rdR s.fab a)) ∧
        Next (exec (.evtCfgWrite q p v) s) (fun t => t = { s with fab := t.fab, tb := t.tb } ∧ rdR t.fab (evtAt p) = v &&& 0xFFFF_003F ∧
          (∀ a, a ≠ evtAt p → rdR t.fab a = rdR s.fab a) ∧ (∀ j, j ≠ p.val → pinOf t.tb j = pinOf s.tb j) ∧
          (bit v 0 ≠ getB s.fab (evtAt p) 0 ∨ bit v 5 ≠ getB s.fab (evtAt p) 5 → pinOf t.tb p = EvtPin.reset) ∧
          (bit v 0 = getB s.fab (evtAt p) 0 → bit v 5 = getB s.fab (evtAt p) 5 → t.tb = s.tb))))

/-- Reference monitors (R320, R325 to R327): an edge advances its own monitor alone, but for the step of the output phase at a first acquisition, and
the first edge of a lost reference begins its check (TDMREF counts no edge while its clock generator is not in slave mode); a loss
leaves it LOST with its flag, count and cause, TBREF by TB_VALID or the counter's restart alone; a check that ends finds the frequency
out of range at any time of it and disqualifies, or finds the rate wrong and goes on, or leads to QUALIFIED or to the wait to restore,
which leads to QUALIFIED; a second of disqualification without a cause ends in a new check. Where the monitor is in another state, each does no more than the
selection that follows it. -/
def Obligations.ReferenceMonitorsChangeState : Prop :=
  ∀ (r : Fin 9) (e : Int) (iv hi : Nat) (s : State), tbRuns s = true →
    let mon := monOf s.fab r
    let rest (c : Instr) : Prop := exec c s = exec .refSelect s
    let goes (c : Instr) (m : Nat) (p : State → Prop) : Prop := Next (exec c s) (fun t => t = { s with fab := t.fab, ref := t.ref } ∧
      monOf t.fab r = m ∧ (∀ j, j < 9 → j ≠ r.val → monOf t.fab j = monOf s.fab j ∧ refMon t.ref j = refMon s.ref j) ∧ p t)
    let m := refMon s.ref r
    let wild := freqFits s.fab r = false ∨ m.farAt.isSome = true
    let unfit := rateFits s.fab r = false ∨ m.rateAt.isSome = true
    let noSource := r.val = 8 ∧ tdmSlave s.fab = false
    let stays := mon = 0 ∨ r.val = 0 ∧ tbrefGone s.fab = false
    let still := isRateRef r = true ∧ getF s.fab (refAt r 0) 6 4 ≠ 0 ∧ getF s.fab (refAt r 0) 6 4 ≠ getF s.fab (refAt r 4) 6 4 ∨
      freqFits s.fab r = false ∨ (∃ z, m.farAt = some z ∧ m.clock < z + sec256) ∨ outsGone m.outs m.clock = false
    (noSource → rest (.refEdge r e iv hi)) ∧
    (¬noSource → Next (exec (.refEdge r e iv hi) s) (fun t => t = refStep s (fun f x => refEdge f x s.tb r e iv hi) ∧
      t = { s with fab := t.fab, ref := t.ref } ∧ (refMon t.ref r).clock = m.clock + iv ∧
      (∀ j, j < 9 → j ≠ r.val → monOf t.fab j = monOf s.fab j ∧
        (¬(s.ref.sel = some r.val ∧ s.ref.fresh = true) → refMon t.ref j = refMon s.ref j)) ∧
      (mon = 0 → m.lastE = none → (r.val = 1 ∨ r.val = 2 → getB s.fab (refAt r 4) 8 = false ∧ 100 ≤ hi ∧ hi ≤ 200000000) →
        (r.val ≠ 0 ∨ getB s.fab (refAt 0 0) 9 = true) → monOf t.fab r = 1))) ∧
    (stays → rest (.refLoss r)) ∧
    (¬stays → goes (.refLoss r) 0 (fun t => getB t.fab (refAt r 4) 16 = true ∧ getB t.fab (ra pREF 0x10) 2 = true ∧
      (refMon t.ref r).lastE = none ∧ getF t.fab (refAt r 0xC) 31 16 = incSat 16 (getF s.fab (refAt r 0xC) 31 16) 1)) ∧
    (mon ≠ 1 → rest (.refCheckEnd r)) ∧
    (mon = 1 → wild → goes (.refCheckEnd r) 4 (fun t => getB t.fab (refAt r 4) 19 = true ∧ getB t.fab (ra pREF 0x10) 6 = true)) ∧
    (mon = 1 → ¬wild → unfit → Next (exec (.refCheckEnd r) s) (fun t =>
      t = onRef { s with ref := setMon s.ref r { m with checkAt := m.clock, rateAt := none } } refSelect ∧ monOf t.fab r = 1)) ∧
    (mon = 1 → ¬wild → ¬unfit → r.val = 0 → getB s.fab (refAt 0 0) 9 = false → rest (.refCheckEnd r)) ∧
    (mon = 1 → ¬wild → ¬unfit → (r.val ≠ 0 ∨ getB s.fab (refAt 0 0) 9 = true) → (m.once = false ∨ getF s.fab (ra pREF 0x50) 11 0 = 0) →
      goes (.refCheckEnd r) 3 (fun t => getB t.fab (ra pREF 0x10) 7 = true)) ∧
    (mon = 1 → ¬wild → ¬unfit → (r.val ≠ 0 ∨ getB s.fab (refAt 0 0) 9 = true) → m.once = true → getF s.fab (ra pREF 0x50) 11 0 ≠ 0 →
      goes (.refCheckEnd r) 2 (fun _ => True)) ∧
    (mon ≠ 2 → rest (.refWtrEnd r)) ∧
    (mon = 2 → goes (.refWtrEnd r) 3 (fun t => getB t.fab (ra pREF 0x10) 7 = true ∧ (refMon t.ref r).once = true)) ∧
    (mon ≠ 4 ∨ still → rest (.refDisqEnd r)) ∧
    (mon = 4 → ¬still → goes (.refDisqEnd r) 1 (fun t => (refMon t.ref r).checkAt = m.clock ∧ (refMon t.ref r).ivals = []))

/-- Selection, holdover and lock (R322, R330, R334, R335, R338, R341): the selection leaves INIT alone, and FAULT but for MANUAL on the oscillator, which leads to FREERUN; with nothing to select, a DPLL that follows a
reference enters HOLDOVER; from FREERUN a selected reference is acquired, and the reference already in use stays; each second adds a
record and ramps y in FREERUN; HO_TIME at HO_LIMIT ends in HOLDOVER_EXPIRED; a media PLL that loses lock takes the DPLL to FAULT, and the return of lock takes it out. -/
def Obligations.SelectionAndHoldover : Prop :=
  ∀ (q : Req) (v : Word) (a b : Bool) (s : State),
    let st := dpllSt s.fab
    let ctl := rdR s.fab (ra pREF 0x40)
    let free := fld ctl 1 0 = 1 ∧ fld ctl 7 4 = 9
    let w := (wanted s.fab s.ref).1
    let lim := getF s.fab (ra pREF 0x4C) 19 0
    let only (t : State) : Prop := t = { s with fab := t.fab, ref := t.ref }
    (tbRuns s = true →
      (st = 6 ∧ ¬free ∨ st = 7 → exec .refSelect s = .next s) ∧
      (st = 6 → free → Next (exec .refSelect s) (fun t => only t ∧ dpllSt t.fab = 0 ∧ t.ref.sel = none ∧ t.ref.mons = s.ref.mons)) ∧
      (st < 6 → Next (exec .refSelect s) (fun t => only t ∧ t.ref.mons = s.ref.mons ∧ t.ref.recs = s.ref.recs ∧
        (free → dpllSt t.fab = 0) ∧
        (¬free → w = none → (st = 1 ∨ st = 2 ∨ st = 5) → dpllSt t.fab = 3 ∧ t.ref.sel = none ∧ getB t.fab (ra pREF 0x10) 8 = true) ∧
        (¬free → w = none → ¬(st = 1 ∨ st = 2 ∨ st = 5) → dpllSt t.fab = st ∧ t.ref.sel = s.ref.sel) ∧
        (∀ r, ¬free → w = some r → t.ref.sel = some r ∨ (s.ref.sel = some r ∧ t.ref.sel = s.ref.sel)) ∧
        (∀ r, ¬free → w = some r → st = 0 → dpllSt t.fab = 1 ∧ getB t.fab (ra pREF 0x10) 1 = true) ∧
        (∀ r, ¬free → w = some r → (st = 1 ∨ st = 2 ∨ st = 5) → s.ref.sel = some r → dpllSt t.fab = st) ∧
        (∀ r, ¬free → w = some r → (st = 2 ∧ s.ref.sel ≠ some r ∨ st = 3 ∨ st = 4) → dpllSt t.fab = 5))) ∧
      Next (exec .holdoverRecord s) (fun t => only t ∧ t.ref.sum = 0 ∧ t.ref.num = 0 ∧ t.ref.mons = s.ref.mons ∧
        t.ref.recs = ((if s.ref.num = 0 then s.ref.y else rne s.ref.sum s.ref.num,
          st == 2 && (s.ref.allLocked || s.ref.num == 0)) :: s.ref.recs).take 4200 ∧
        (st = 0 → let o := intOf (rdR s.fab (ra pREF 0x60))
          let y := if s.ref.y < o then min o (s.ref.y + 1099512) else max o (s.ref.y - 1099512)
          t.ref.y = max (-274877907) (min 274877907 y)) ∧
        (st ≠ 0 → t.ref.y = s.ref.y) ∧
        (st = 3 ∨ st = 4 → rdN t.fab (ra pREF 0x90) = incSat 32 (rdN s.fab (ra pREF 0x90)) 1)) ∧
      (¬(st = 3 ∧ lim ≠ 0 ∧ lim ≤ rdN s.fab (ra pREF 0x90)) → exec .holdoverExpire s = .next s) ∧
      (st = 3 → lim ≠ 0 → lim ≤ rdN s.fab (ra pREF 0x90) → Next (exec .holdoverExpire s) (fun t => t = { s with fab := t.fab } ∧
        dpllSt t.fab = 4 ∧ getB t.fab (ra pREF 0x10) 9 = true ∧
        Touches [ra pREF 0x0C, ra pREF 0x10, ra pREF 0x80] s.fab t.fab))) ∧
    (isUp s = true →
      (ready s.fab pREF = false → exec (.tbGridWrite q v) s = .next (failOn s pREF 1 0x64)) ∧
      (ready s.fab pREF = true → Next (exec (.tbGridWrite q v) s) (fun t => only t ∧ rdR t.fab (ra pREF 0x64) = v ∧
        t.ref.grid = (((s.fab.time.toNat : Int) / 2 ^ 32 + sx 32 ((v.toNat + 2 ^ 32 - timeNs s.fab) % 2 ^ 32)) * 2 ^ 32) * 96000 ∧
        t.ref.mons = s.ref.mons ∧ t.ref.sel = s.ref.sel))) ∧
    (clocked s = true →
      exec (.mpllLockLoss false false) s = .next s ∧
      (a = true ∨ b = true → Next (exec (.mpllLockLoss a b) s) (fun t => t = { s with fab := t.fab, ref := t.ref, ports := t.ports } ∧
        (st < 6 → dpllSt t.fab = 6 ∧ t.ref.sel = none ∧ getB t.fab (ra pREF 0x10) 10 = true) ∧ (6 ≤ st → dpllSt t.fab = st))) ∧
      Next (exec .faultEnd s) (fun t => t = onRef (onPorts (onRef s dpllFaultEnd) portsFaultEnd) refSelect ∧ t = { s with fab := t.fab, ref := t.ref, ports := t.ports } ∧
        (st = 6 → dpllSt t.fab = 0 ∨ dpllSt t.fab = 3 ∨ dpllSt t.fab = 5) ∧ (st = 7 → dpllSt t.fab = 7)))

-- The serial ports

/-- Clock generators (R9, R345, R346, R349, R353 to R359, R361): one in WAIT begins when its start condition holds, a slave with its first
frame; a frame completes in every running state: one of a slave with the wrong number of bit periods is FRAME_ERR, counted, discarded,
and fades its directions, while the frame that begins at its edge is shifted in; a frame of a running master drives each slot of its
pins with the sample of its endpoint under the direction's weight in the slot's top bits, or with 0 or high-Z as DIR and HIZ say; a
SYNC_FS slave's frame enters its buffer with the edge that ends it, and a frame in NO_CLOCK leads back to RUN; the fill check asks for a
slip above 28 or below 4 frames; the steer update keeps its correction within its limits; a slave whose clock is absent goes to NO_CLOCK
with both directions fading; fades end in mute, recoveries in live, and a slip is placed once its window is complete. No command changes
another clock generator. -/
def Obligations.ClockGeneratorsFollowTheirFrames : Prop :=
  ∀ (i : Fin 16) (rate bits : Nat) (sl : List (Nat × Nat × Nat)) (out : Bool) (s : State), clocked s = true →
    let st := cgSt s.fab i
    let c := cgOf s.ports i
    let slave := cgSlave s.fab i
    let dir (c : Cgen) : PDir := if out then c.out else c.inp
    let now (t : State) : Cgen := cgOf t.ports i
    let only (t : State) : Prop := t = { s with fab := t.fab, ports := t.ports } ∧ ∀ j, j ≠ i.val → cgOf t.ports j = cgOf s.ports j
    let begins := st = 1 ∧ (slave = true ∨ slave = false ∧ eligible s.fab i = true ∧
      (cgStart s.fab i = 0 ∨ cgStart s.fab i = 1 ∧ c.trig = true))
    let cl := classOf s.fab i (if slave then rate else nomFs s.fab i)
    let silent := cl = 0 ∧ running s.fab = false
    let bad := bits ≠ cgN s.fab i * cgSlotW s.fab i
    let own := ownsAt s s.fab.msc.toNat
    (¬begins → exec (.cgStart i rate) s = .next s) ∧
    (begins → Next (exec (.cgStart i rate) s) (fun t => only t ∧ cgSt t.fab i = 2 ∧ now t = Cgen.reset ∧ getB t.fab (cgAt i 0x10) 12 = true ∧
      cgClass t.fab i = cl)) ∧
    (st < 2 → exec (.portFrame i sl bits rate) s = .next s) ∧
    (2 ≤ st → Next (exec (.portFrame i sl bits rate) s) (fun t => t = frameOf s i sl bits rate ∧
      t = { s with fab := t.fab, ports := t.ports, aud := t.aud } ∧ (∀ j, j ≠ i.val → cgOf t.ports j = cgOf s.ports j) ∧
      (st = 3 → cgSt t.fab i = 2 ∧ getB t.fab (cgAt i 0x10) 12 = true) ∧ (st = 2 ∨ st = 4 → (now t).chk = c.chk + 1 ∧ cgSt t.fab i = st) ∧
      (slave = true → st = 2 ∨ st = 5 → bad → getB t.fab (cgAt i 0x50) 10 = true ∧ getB t.fab (cgAt i 0x10) 7 = true ∧
        rdN t.fab (cgAt i 0x88) = incSat 32 (rdN s.fab (cgAt i 0x88)) 1 ∧ t.aud = s.aud) ∧
      (slave = true → st = 2 → (now t).part = some (frameIn s.fab i sl)) ∧
      (slave = true → st = 2 → bad → cl = cgClass s.fab i → dirUsed s.fab i false = true → (now t).inp.ph = phFade c.inp.ph) ∧
      (slave = true → st = 2 → ¬bad → cl = 0 → cgClass s.fab i = 0 → t.aud = s.aud ∧
        (now t).inp = c.part.elim c.inp (fun fr => (bufPush 32 16 c.inp (0, fr)).1)) ∧
      (slave = true → st = 2 → ¬bad → cl ≠ 0 → cl = cgClass s.fab i → ∀ fr, c.part = some fr →
        (now t).inp.ph = (phNext c.inp.ph true true).2 ∧ (now t).inp.last = (s.fab.msc.toNat, fr)) ∧
      (slave = false → st = 2 → cgSteer s.fab i = false → (now t).inp.ph = (phNext c.inp.ph true true).2 ∧
        (silent → (now t).out.ph = .mute 0) ∧ (¬silent → (now t).out.ph = (phNext c.out.ph true true).2) ∧
        ∀ p k, p < 64 → k < 32 → getF s.fab (sapAt p 0x40) 3 0 = i.val →
          (s.ports.backoff.contains (.sd p) = true → mget zeroN t.ports.drive (32 * p + k) = 0) ∧
          (s.ports.backoff.contains (.sd p) = false → driveSlot s.fab own (cgN s.fab i) p k = false →
            mget zeroN t.ports.drive (32 * p + k) = (driveZero s.fab own i p k).toNat) ∧
          (s.ports.backoff.contains (.sd p) = false → driveSlot s.fab own (cgN s.fab i) p k = true → cl = 0 → running s.fab = true →
            mget zeroN t.ports.drive (32 * p + k) = slotWord s.fab i
              (weigh (phNext c.out.ph true true).1 (sample s.aud s.fab.msc.toNat (0xB000 + 32 * p + k))) + 1)))) ∧
    ((buffered s.fab i && st == 2 && decide (16 ≤ c.chk)) = false → exec (.portFillCheck i) s = .next s) ∧
    ((buffered s.fab i && st == 2 && decide (16 ≤ c.chk)) = true → Next (exec (.portFillCheck i) s) (fun t => only t ∧ (now t).chk = 0 ∧
      (dpllSt s.fab ≠ 2 → c.inp.slip = none → dirUsed s.fab i false = true → (now t).inp = if 28 < c.inp.buf.length then bufDecide true false c.inp
        else if c.inp.buf.length < 4 then bufDecide false false c.inp else c.inp) ∧
      (dpllSt s.fab ≠ 2 → c.out.slip = none → dirUsed s.fab i true = true → (now t).out = if 28 < c.out.buf.length then bufDecide true true c.out
        else if c.out.buf.length < 4 then bufDecide false true c.out else c.out))) ∧
    ((cgSteer s.fab i && steerRuns s.fab i && decide (64 ≤ c.chk)) = false → exec (.steerUpdate i) s = .next s) ∧
    ((cgSteer s.fab i && steerRuns s.fab i && decide (64 ≤ c.chk)) = true → Next (exec (.steerUpdate i) s) (fun t => only t ∧ (now t).chk = 0 ∧
      -549755813 ≤ (now t).eps ∧ (now t).eps ≤ 549755813 ∧ (now t).inp = c.inp ∧ (now t).out = c.out ∧
      (∀ a, a ≠ cgAt i 0x64 → a ≠ cgAt i 0x68 → rdR t.fab a = rdR s.fab a) ∧
      (now t).steerI = c.steerI + ((c.out.buf.length : Int) - 32) * 2 ^ (40 - (16 + 2 * min 4 (getF s.fab (cgAt i 0x60) 2 0))))) ∧
    (∀ cmd flag cause, (cmd = Instr.noSck i ∧ flag = 8 ∧ cause = 5 ∨ cmd = .noFs i ∧ flag = 9 ∧ cause = 6) →
      (¬(slave = true ∧ 1 ≤ st ∧ st ≤ 3) → exec cmd s = .next s) ∧
      (slave = true → 1 ≤ st → st ≤ 3 → Next (exec cmd s) (fun t => only t ∧ cgSt t.fab i = 3 ∧ getB t.fab (cgAt i 0x50) flag = true ∧
        getB t.fab (cgAt i 0x10) cause = true ∧ (st ≠ 3 → (now t).part = none ∧ (now t).inp.ph = phFade c.inp.ph ∧
          (now t).out.ph = phFade c.out.ph)))) ∧
    (∀ k w, (dir c).ph = .fade k w → (32 ≤ k ∨ st = 3 ∧ (out = true ∨ running s.fab = false)) →
      Next (exec (.portFadeEnd i out) s) (fun t => only t ∧ (dir (now t)).ph = .mute 0)) ∧
    ((∀ k w, (dir c).ph = .fade k w → k < 32 ∧ ¬(st = 3 ∧ (out = true ∨ running s.fab = false))) → exec (.portFadeEnd i out) s = .next s) ∧
    (∀ k, (dir c).ph = .ramp k → 256 ≤ k → Next (exec (.portRecoveryEnd i out) s) (fun t => only t ∧ (dir (now t)).ph = .live)) ∧
    ((∀ k, (dir c).ph = .ramp k → k < 256) → exec (.portRecoveryEnd i out) s = .next s) ∧
    ((∀ p, (dir c).slip = some p → p.win.length < 32) → exec (.slipPlace (.port i out)) s = .next s) ∧
    (∀ p, (dir c).slip = some p → 32 ≤ p.win.length → Next (exec (.slipPlace (.port i out)) s) (fun t => only t ∧ (dir (now t)).slip = none ∧
      getB t.fab (cgAt i 0x10) 4 = true ∧
      rdN t.fab (cgAt i (if p.drop then 0x80 else 0x84)) = incSat 32 (rdN s.fab (cgAt i (if p.drop then 0x80 else 0x84))) 1))

/-- Start groups and pin faults (R350, R351, R360): ARM is refused for a group without members, with more than eight, with a slave or a member not started by
groups, or with one that another armed group has; at the start tick of an armed group each member in WAIT begins and the group disarms;
a pin in back-off drives nothing and is reported once, and returns when the back-off ends. -/
def Obligations.StartGroupsAndPinFaults : Prop :=
  ∀ (q : Req) (g : Fin 4) (n : Fin 64) (i : Fin 16) (s : State),
    let only (t : State) : Prop := t = { s with fab := t.fab, ports := t.ports }
    let m := sgMembers s.fab g
    let bad := m = [] ∨ 8 < m.length ∨ ∃ j, j ∈ m ∧ (cgSlave s.fab j = true ∨ cgStart s.fab j ≠ 2 ∨
      ∃ h, h < 4 ∧ h ≠ g.val ∧ sgArmed s.fab h = true ∧ j ∈ sgMembers s.fab h)
    let go := sgArmed s.fab g && (if getB s.fab (sgAt g 0) 16 then mget falseB s.ports.sgTrig g
      else running s.fab && decide (sgTarget s.fab g ≤ s.fab.msc.toNat)) && m.all (fun j => eligible s.fab j)
    (isUp s = true →
      (ready s.fab (pCG 0) = false → exec (.sgArm q g) s = .next (failOn s (pCG 0) 1 (0x10C + 0x10 * g.val)) ∧
        exec (.sgDisarm q g) s = .next (failOn s (pCG 0) 1 (0x10C + 0x10 * g.val))) ∧
      (ready s.fab (pCG 0) = true →
        (bad → exec (.sgArm q g) s = .next (failOn s (pCG 0) 0x0103 (0x10C + 0x10 * g.val))) ∧
        (¬bad → Next (exec (.sgArm q g) s) (fun t => only t ∧ sgArmed t.fab g = true ∧ mget falseB t.ports.sgTrig g = false ∧
          t.ports.cgs = s.ports.cgs ∧ (getB s.fab (sgAt g 0) 16 = false → running s.fab = true → sgTarget s.fab g ≤ s.fab.msc.toNat →
            getB t.fab (sgAt g 0xC) 10 = true ∧ getB t.fab (cgAt 0 0x10) 11 = true))) ∧
        exec (.sgDisarm q g) s = .next { s with fab := putB s.fab (sgAt g 0xC) 8 false })) ∧
    (clocked s = true →
      (go = false → exec (.sgStart g) s = .next s) ∧
      (go = true → Next (exec (.sgStart g) s) (fun t => only t ∧ sgArmed t.fab g = false ∧ getB t.fab (sgAt g 0xC) 9 = true ∧
        getB t.fab (cgAt 0 0x10) 11 = true ∧ (∀ j, j ∈ m → cgSt s.fab j = 1 → cgSt t.fab j = 2 ∧ cgOf t.ports j = Cgen.reset) ∧
        (∀ j, j ∉ m → cgOf t.ports j = cgOf s.ports j) ∧ ((∃ j, j ∈ m ∧ cgSt s.fab j ≠ 1) → getB t.fab (sgAt g 0xC) 11 = true))) ∧
      (∀ p, s.ports.backoff.contains p = true → exec (.pinBackoff p) s = .next s) ∧
      (∀ p, s.ports.backoff.contains p = false → exec (.pinBackoffEnd p) s = .next s) ∧
      (∀ p, s.ports.backoff.contains p = false → Next (exec (.pinBackoff p) s) (fun t => only t ∧ t.ports.backoff = s.ports.backoff ++ [p] ∧
        (p = .sd n → getB t.fab (sapAt n 0x50) 0 = false ∧ getB t.fab (sapAt n 0x50) 1 = true ∧ getB t.fab (sapAt n 0x50) 2 = true ∧
          getB t.fab (sapAt n 0x10) 0 = true ∧ ∀ k, k < 32 → mget zeroN t.ports.drive (32 * n.val + k) = 0) ∧
        (p = .sck i → getB t.fab (cgAt i 0x50) 11 = true ∧ getB t.fab (cgAt i 0x10) 8 = true) ∧
        (p = .fs i → getB t.fab (cgAt i 0x50) 12 = true ∧ getB t.fab (cgAt i 0x10) 8 = true) ∧
        (p = .mclk i → getB t.fab (cgAt i 0x50) 13 = true ∧ getB t.fab (cgAt i 0x10) 8 = true))) ∧
      (∀ p, s.ports.backoff.contains p = true → Next (exec (.pinBackoffEnd p) s) (fun t => only t ∧ p ∉ t.ports.backoff ∧
        (∀ r, r ≠ p → (r ∈ t.ports.backoff ↔ r ∈ s.ports.backoff)) ∧ (p = .sd n → getB t.fab (sapAt n 0x50) 1 = false))))

-- The network ports and the streams

/-- Network ports (R366, R369 to R371, R374, R376 to R384, R389 to R391): the link is up when the port is enabled and its PCS is locked, aligned and without
HI_BER, and a change of it is a cause; a received frame is counted under the first check it fails, or as good, and reaches a stream, where
a malformed packet is counted and a good one marks its port, or a management queue, where it is dropped without a descriptor; the next
descriptor of a ring with none in progress queues its frame, stops the ring, or is written back for its length, its buffer or the link; an idle port with its link up starts a frame of its queue, the
highest class first where neither gates nor credits hold one back; a frame that ends frees the port, is counted and leaves its stamp
in the stamp queue; a read of TSQ_TAG takes the oldest stamp; gates follow the operating list, which a change replaces at its instant;
STATS_CTRL.SNAP copies the counters. No command touches the other port. -/
def Obligations.NetworkPortsLinkReceiveAndSend : Prop :=
  ∀ (q : Req) (p : Fin 2) (v : Word) (lock am hi : Bool) (g : Fin 2) (ph : Fin 4096) (fr : RxIn) (s : State),
    let x := portOf s.net p
    let now (t : State) : NetPort := portOf t.net p
    let only (t : State) : Prop := t = { s with fab := t.fab, mem := t.mem, net := t.net } ∧
      ∀ o : Fin 2, o ≠ p → portOf t.net o = portOf s.net o
    let irq (t : State) (k : Nat) : Prop := getB t.fab (netAt p 0x10) k = true
    let cnt (y : NetPort) (k : Nat) : Nat := mget zeroN y.stats k
    let up := lock && (netMode s.fab p != 2 || am) && !hi
    let rings := ∀ u, u ∈ x.queue → ∀ r i tag ts b, u.body = .mgmt r i tag ts b → r = 4 ∨ r = 5
    let ring := mget (fun _ => RingSt.reset) x.rings (4 + g.val)
    let reads := ringRuns s.fab p (4 + g.val) && !ringBusy x (4 + g.val) && (ring.fetch != rdN s.fab (ringAt p (4 + g.val) 8))
    let dsc := dramRead s.fab s.mem 6 (descAt s.fab p (4 + g.val) ring.fetch) 16
    let dw (i : Nat) : Word := (wordsOf 4 (rawBytes dsc.2.2))[i]?.getD 0
    let dok := readOk dsc.2.2 = true ∧ (dw 0).toNat < dramTop
    let dlen := fld (dw 1) 13 0
    let dfits := 14 ≤ dlen ∧ dlen + 4 ≤ getF s.fab (netAt p 0x50) 13 0
    let mq := queueOf (ethOf fr.bytes) (ipOf (ethOf fr.bytes))
    let tail := rdN s.fab (ringAt p mq 0xC)
    let mqd := dramRead s.fab s.mem 6 (descAt s.fab p mq tail) 16
    let early (a : Nat) := 2 ^ 39 ≤ (time40 s.fab + 2 ^ 40 - a) % 2 ^ 40
    (clocked s = true →
      (enabled s.fab (pNET p) = false → exec (.linkUpChange p lock am hi) s = .next s) ∧
      (enabled s.fab (pNET p) = true → Next (exec (.linkUpChange p lock am hi) s) (fun t => only t ∧ t.mem = s.mem ∧
        linkUp t.fab p = up ∧ getB t.fab (netAt p 0x44) 1 = lock ∧ getB t.fab (netAt p 0x44) 2 = am ∧ getB t.fab (netAt p 0x44) 3 = hi ∧
        (up ≠ linkUp s.fab p → irq t 0) ∧ (hi = true → getB s.fab (netAt p 0x44) 3 = false → irq t 15) ∧
        (linkUp s.fab p = true → up = false → cnt (now t) 44 = (cnt x 44 + 1) % 2 ^ 64))) ∧
      (linkUp s.fab p = false → exec (.rxFrame p fr) s = .next s) ∧
      (linkUp s.fab p = true →
        (∀ c k, frameFault s.fab p fr.bytes fr.pcsErr = some (c, k) → Next (exec (.rxFrame p fr) s) (fun t => only t ∧ t.mem = s.mem ∧
          cnt (now t) c = (cnt x c + 1) % 2 ^ 64 ∧ (∀ j, k = some j → irq t j))) ∧
        (frameFault s.fab p fr.bytes fr.pcsErr = none → fr.overflow = true → Next (exec (.rxFrame p fr) s) (fun t => only t ∧
          t.fab = s.fab ∧ cnt (now t) 22 = (cnt x 22 + 1) % 2 ^ 64)) ∧
        (frameFault s.fab p fr.bytes fr.pcsErr = none → fr.overflow = false →
          matchOf s.strm p (ethOf fr.bytes) (ipOf (ethOf fr.bytes)) = none → Next (exec (.rxFrame p fr) s) (fun t => only t ∧
            cnt (now t) 0 = (cnt x 0 + 1) % 2 ^ 64 ∧ cnt (now t) 1 = (cnt x 1 + fr.bytes.length) % 2 ^ 64 ∧
            (ringRuns s.fab p mq = false ∨ tail = rdN s.fab (ringAt p mq 8) → t.mem = s.mem ∧ irq t 13 ∧
              cnt (now t) (18 + mq) = (cnt x (18 + mq) + 1) % 2 ^ 64) ∧
            (ringRuns s.fab p mq = true → tail ≠ rdN s.fab (ringAt p mq 8) → readOk mqd.2.2 = true →
              ((wordsOf 4 (rawBytes mqd.2.2))[0]?.getD 0).toNat < dramTop → irq t (7 + mq) ∧
              cnt (now t) (14 + mq) = (cnt x (14 + mq) + 1) % 2 ^ 64 ∧
              rdN t.fab (ringAt p mq 0xC) = (tail + 1) % getF s.fab (ringAt p mq 4) 10 0 % 2 ^ 32))) ∧
        (∀ e, frameFault s.fab p fr.bytes fr.pcsErr = none → fr.overflow = false →
          matchOf s.strm p (ethOf fr.bytes) (ipOf (ethOf fr.bytes)) = some e → Next (exec (.rxFrame p fr) s) (fun t =>
            t = { s with fab := t.fab, net := t.net, strm := t.strm } ∧ cnt (now t) 12 = (cnt x 12 + 1) % 2 ^ 64 ∧
            (enabled s.fab pSTRM = false → t.fab = s.fab ∧ t.strm = s.strm) ∧
            (enabled s.fab pSTRM = true → parsePacket e.2 (ethOf fr.bytes) (ipOf (ethOf fr.bytes)) = none →
              getB t.fab (rxAt e.1 0) 10 = true ∧ getB t.fab (ra pSTRM 0x10) 1 = true ∧ cnt (now t) 13 = (cnt x 13 + 1) % 2 ^ 64) ∧
            (∀ z, enabled s.fab pSTRM = true → parsePacket e.2 (ethOf fr.bytes) (ipOf (ethOf fr.bytes)) = some z →
              ¬(stFifo e.2 = false ∧ running s.fab = true ∧
                (blockStart s.fab : Int) + (if rate96 s.fab then 8192 else 4096) ≤ timedFirst s.fab s.tb e.2 z.1) →
              getB t.fab (rxAt e.1 0) (1 + p.val) = true ∧
              rdN t.fab (rxAt e.1 (4 + 4 * p.val)) = incSat 32 (rdN s.fab (rxAt e.1 (4 + 4 * p.val))) 1)))) ∧
      (reads = false → exec (.txDescriptor p g) s = .next s) ∧
      (reads = true → Next (exec (.txDescriptor p g) s) (fun t => only t ∧ (now t).cur = x.cur ∧ t.mem.shared = s.mem.shared ∧
        ((now t).queue = x.queue ∨ linkUp s.fab p = true ∧ ∃ u, (now t).queue = x.queue ++ [u] ∧ 64 ≤ u.len ∧
          u.len ≤ max 64 (getF s.fab (netAt p 0x50) 13 0) ∧ u.at_ = s.fab.msc.toNat) ∧
        (¬dok → (now t).queue = x.queue ∧ getB t.fab (ringAt p (4 + g.val) 0x14) 1 = true ∧ ringRuns t.fab p (4 + g.val) = false) ∧
        (dok → ¬dfits → (now t).queue = x.queue ∧ irq t 4 ∧ irq t (11 + g.val) ∧ cnt (now t) 39 = (cnt x 39 + 1) % 2 ^ 64) ∧
        (dok → dfits → dramBad (dw 0).toNat dlen = true ∨ linkUp s.fab p = false → (now t).queue = x.queue ∧ irq t (11 + g.val)) ∧
        (dok → dfits → dramBad (dw 0).toNat dlen = false → linkUp s.fab p = true → ∃ u, (now t).queue = x.queue ++ [u] ∧
          u.len = max 64 (dlen + 4) ∧ u.cls = fld (dw 1) 18 16 ∧ u.padded = decide (dlen < 60)))) ∧
      ((linkUp s.fab p && x.cur.isNone) = false → exec (.txFrameStart p ph) s = .next s) ∧
      ((linkUp s.fab p && x.cur.isNone) = true → Next (exec (.txFrameStart p ph) s) (fun t => only t ∧
        (∀ u, u ∈ (now t).queue → u ∈ x.queue) ∧
        ((now t).cur = none ∨ ∃ u, (now t).cur = some (u, stampAt s.fab s.tb ph / 2 ^ 24) ∧ u ∈ x.queue) ∧
        (gating s.fab p = false → x.change = none → (∀ u, u ∈ x.queue → tooLong s.fab p u = false) → (∀ c, c < 8 → getB s.fab (netAt p (0x800 + 4 * c)) 31 = false) → ∀ w, w ∈ x.queue → w.cls < 8 →
          ∃ u z, (now t).cur = some (u, z) ∧ w.cls ≤ u.cls))) ∧
      (x.cur = none → exec (.txFrameEnd p) s = .next s) ∧
      (∀ u z, x.cur = some (u, z) → Next (exec (.txFrameEnd p) s) (fun t => only t ∧ (now t).cur = none ∧ (now t).queue = x.queue ∧
        cnt (now t) 32 = (cnt x 32 + 1) % 2 ^ 64 ∧ cnt (now t) 33 = (cnt x 33 + u.len) % 2 ^ 64 ∧
        (∀ r i tag b, u.body = .mgmt r i tag true b → (x.tsq.length < 16 → irq t 5 ∧
          (now t).tsq = x.tsq ++ [⟨tag, u.cls, txStamp s.fab p z / 256 % 2 ^ 32, txStamp s.fab p z % 256⟩]) ∧
          (16 ≤ x.tsq.length → (now t).tsq = x.tsq ∧ irq t 6 ∧ getB t.fab (netAt p 0x70C) 8 = true)))) ∧
      Next (exec (.gateInterval p) s) (fun t => only t ∧ t.fab = s.fab ∧ t.mem = s.mem ∧ (gating s.fab p = false → (now t).mask = 255) ∧
        (∀ e l, gating s.fab p = true → segsFrom (operSegs s.fab x p) (cyclePos s.fab x p) = e :: l → (now t).mask = e.2) ∧
        now t = { x with credit := (now t).credit, creditAt := s.net.now, mask := (now t).mask, cycleAt := (now t).cycleAt }) ∧
      (x.change = none → exec (.gateChangeApply p) s = .next s) ∧
      (∀ a, x.change = some a → early a → exec (.gateChangeApply p) s = .next s) ∧
      (∀ a, x.change = some a → ¬early a → rings → Next (exec (.gateChangeApply p) s) (fun t => only t ∧ (now t).oper = x.admin ∧
        (now t).change = none ∧ getB t.fab (netAt p 0x844) 0 = false ∧ getB t.fab (netAt p 0x844) 1 = true ∧ irq t 14 ∧
        rdR t.fab (netAt p 0x868) = rdR s.fab (netAt p 0x848) ∧ rdR t.fab (netAt p 0x86C) = rdR s.fab (netAt p 0x850) ∧
        rdR t.fab (netAt p 0x870) = rdR s.fab (netAt p 0x854)))) ∧
    (isUp s = true →
      Next (exec (.tsqRead q p) s) (fun t => t = { s with fab := t.fab, net := t.net } ∧ only t ∧
        (x.tsq = [] → t.net = s.net ∧ mget zeroN t.fab.rdata q.code = 0 ∧ ∀ a, rdR t.fab a = rdR s.fab a) ∧
        (∀ e r, x.tsq = e :: r → (now t).tsq = r ∧ mget zeroN t.fab.rdata q.code = 2 ^ 31 + e.cls * 2 ^ 16 + e.tag ∧
          held t.fab q.code = [(netAt p 0x704, BitVec.ofNat 32 e.ns), (netAt p 0x708, BitVec.ofNat 32 (e.frac * 2 ^ 24))] ∧
          getF t.fab (netAt p 0x70C) 4 0 = r.length % 32)) ∧
      (takesWrites s.fab (pNET p) = false → exec (.gateChange q p v) s = .next (failOn s (pNET p) 1 0x840) ∧
        exec (.statsSnap q p v) s = .next (failOn s (pNET p) 1 0x580)) ∧
      (takesWrites s.fab (pNET p) = true →
        Next (exec (.gateChange q p v) s) (fun t => only t ∧ (now t).admin = x.admin ∧ (now t).oper = x.oper ∧ (rings →
          ((bit v 1 && getB s.fab (netAt p 0x844) 0) = false → getB t.fab (netAt p 0x840) 0 = bit v 0) ∧
          (bit v 1 = false → t.mem = s.mem ∧ (now t).change = x.change ∧ (now t).queue = x.queue) ∧
          (bit v 1 = true → getB s.fab (netAt p 0x844) 0 = true → t.net = s.net ∧ rdR t.fab (netAt p 0x840) = rdR s.fab (netAt p 0x840) ∧
            (getB s.fab (netAt p 0x0C) 2 = false → rdR t.fab (netAt p 0x20) = 0x103#32)) ∧
          (bit v 1 = true → getB s.fab (netAt p 0x844) 0 = false → (now t).change = some (changeInstant s.fab p) ∧
            getB t.fab (netAt p 0x844) 0 = true ∧ getB t.fab (netAt p 0x0C) 3 = true))) ∧
        Next (exec (.statsSnap q p v) s) (fun t => only t ∧ t.mem = s.mem ∧ getB t.fab (netAt p 0x580) 1 = bit v 1 ∧
          (bit v 0 = false → t.net = s.net ∧ ∀ a, a ≠ netAt p 0x580 → rdR t.fab a = rdR s.fab a) ∧
          (bit v 0 = true → (now t).stats = (if bit v 1 then [] else x.stats) ∧ ∀ i, i < 48 →
            rdN t.fab (netAt p (0x400 + 8 * i)) = cnt x i % 2 ^ 32 ∧
            rdN t.fab (netAt p (0x404 + 8 * i)) = cnt x i / 2 ^ 32 % 2 ^ 32))))

/-- The stream engine (R385, R387, R388, R391 to R394, R396): a WRITE that passes every check goes to the shadow bank, one that does not is answered
and changes no bank; a READ returns the shadow's entry; fades end in mute and recoveries in live; a port of a merged stream that
has delivered nothing for 3 packet times while the other does is DOWN; a slip is placed once its window is complete; a packet that falls due is queued on each port of its stream whose
link is up, or gated where the other device of a trifle owns the outputs; frames that wait for SPP samples or more are discarded. -/
def Obligations.StreamsAreCheckedPlayedAndSent : Prop :=
  ∀ (q : Req) (n : Fin 512) (p : Fin 2) (s : State),
    let x := rxOf s.strm n
    let sel := rdO s.fab q.code (ra pSTRM 0x40)
    let tx := bit sel 16
    let k := strKey tx (fld sel 8 0)
    let gate := shadowGate s.fab pSTRM
    let e := (upto 16).map (fun i => rdO s.fab q.code (ra pSTRM (0x80 + 4 * i)))
    let code := if gate ≠ 0 then gate else strVerdict s.fab tx (fld sel 8 0) e
    let only (t : State) : Prop := t = { s with fab := t.fab, strm := t.strm } ∧ t.strm.act = s.strm.act ∧
      ∀ m, m ≠ n.val → rxOf t.strm m = rxOf s.strm m
    let down := ((rxActs s.strm).find? (fun a => a.1 == n.val)).any (fun a => stPort a.2 0 && stPort a.2 1 &&
      getB s.fab (rxAt n 0) (1 + p.val) && !portHeard a.2 x s.net.now p && portHeard a.2 x s.net.now (1 - p.val))
    let now := s.fab.msc.toNat
    let due (k : Nat) (a : Entry) := k ∈ txSpps s.strm n ∧ k ≤ now ∧ txEntry s.strm n (now - k) = some a ∧ strmOn s.fab = true ∧
      stSpp a = k ∧ mediaCount s.fab s.tb (now - k) % max 1 k = 0
    let waits (u : TxFrame) : Bool := match u.body with
      | .mgmt _ _ _ _ _ => true
      | .stream pk _ => decide (now < u.at_ + (txEntry s.strm pk.stream pk.first).elim 0 stSpp)
    (isUp s = true →
      (takesWrites s.fab pSTRM = false → exec (.streamWrite q) s = .next (failOn s pSTRM 1 0x44) ∧
        exec (.streamRead q) s = .next (failOn s pSTRM 1 0x44)) ∧
      (takesWrites s.fab pSTRM = true →
        (code = 0 → Next (exec (.streamWrite q) s) (fun t => t = { s with fab := t.fab } ∧ getB t.fab (ra pSTRM 0x2C) 3 = true ∧
          rdO t.fab q.code (ra pSTRM 0x48) = 1 ∧ (∀ i, i < 16 → rdShd t.fab pSTRM (k + i) = rdO s.fab q.code (ra pSTRM (0x80 + 4 * i))) ∧
          ∀ b a, ¬(b = !actB s.fab pSTRM ∧ k ≤ a ∧ a < k + 16) → rdB t.fab b a = rdB s.fab b a)) ∧
        (code ≠ 0 → Next (exec (.streamWrite q) s) (fun t => t = { s with fab := t.fab } ∧ getB t.fab (ra pSTRM 0x10) 6 = true ∧
          rdO t.fab q.code (ra pSTRM 0x48) = (if code = 0x01F0 then 3 else if code = 5 then 4 else 2) ∧
          (∀ b a, rdB t.fab b a = rdB s.fab b a) ∧
          (getB s.fab (ra pSTRM 0x0C) 2 = false → rdN t.fab (ra pSTRM 0x20) = code % 2 ^ 16 ∧
            rdN t.fab (ra pSTRM 0x24) = fld sel 8 0 + tx.toNat * 2 ^ 16))) ∧
        Next (exec (.streamRead q) s) (fun t => t = { s with fab := t.fab } ∧ (∀ a, rdR t.fab a = rdR s.fab a) ∧
          (∀ i, i < 16 → rdO t.fab q.code (ra pSTRM (0x80 + 4 * i)) = rdShd s.fab pSTRM (k + i)) ∧
          rdO t.fab q.code (ra pSTRM 0x48) = 1))) ∧
    (clocked s = true →
      (∀ i w, x.ph = .fade i w → (32 ≤ i ∨ strmOn s.fab = false) → Next (exec (.streamFadeEnd n) s) (fun t => only t ∧
        rxOf t.strm n = { x with ph := .mute 0 } ∧ getB t.fab (rxAt n 0) 3 = true)) ∧
      ((∀ i w, x.ph = .fade i w → i < 32 ∧ strmOn s.fab = true) → exec (.streamFadeEnd n) s = .next s) ∧
      (∀ i, x.ph = .ramp i → 256 ≤ i → Next (exec (.streamRecoveryEnd n) s) (fun t => only t ∧ rxOf t.strm n = { x with ph := .live } ∧
        getB t.fab (rxAt n 0) 3 = false)) ∧
      ((∀ i, x.ph = .ramp i → i < 256) → exec (.streamRecoveryEnd n) s = .next s) ∧
      (down = false → exec (.streamPortDown n p) s = .next s) ∧
      (down = true → Next (exec (.streamPortDown n p) s) (fun t => t = { s with fab := t.fab } ∧ getB t.fab (rxAt n 0) (1 + p.val) = false ∧
        getB t.fab (ra pSTRM 0x10) 4 = true ∧ Touches [rxAt n 0, ra pSTRM 0x10] s.fab t.fab)) ∧
      ((∀ z, x.slip = some z → z.win.length < 32) → exec (.slipPlace (.stream n)) s = .next s) ∧
      (∀ z, x.slip = some z → 32 ≤ z.win.length → Next (exec (.slipPlace (.stream n)) s) (fun t => only t ∧ (rxOf t.strm n).slip = none ∧
        (rxOf t.strm n).ph = x.ph ∧ getB t.fab (rxAt n 0) 12 = true ∧ getB t.fab (ra pSTRM 0x10) 3 = true ∧
        getF t.fab (rxAt n 0x14) 31 16 = incSat 16 (getF s.fab (rxAt n 0x14) 31 16) 1)) ∧
      ((∀ k a, ¬due k a) → exec (.streamPacketQueue n) s = .next s) ∧
      (∀ k a, due k a → (∀ j b, due j b → j = k) → (stOwnGate a && !ownedAt s.fab s.tri (now - k)) = true →
        exec (.streamPacketQueue n) s = .next { s with fab := putB s.fab (txAt n 0) 1 true }) ∧
      (∀ k a, due k a → (∀ j b, due j b → j = k) → (stOwnGate a && !ownedAt s.fab s.tri (now - k)) = false →
        Next (exec (.streamPacketQueue n) s) (fun t =>
        t = { s with fab := putB s.fab (txAt n 0) 1 false, net := t.net } ∧
        ∀ j : Fin 2, ((stPort a j && linkUp s.fab j) = false → (portOf t.net j).queue = (portOf s.net j).queue) ∧
          ((stPort a j && linkUp s.fab j) = true → ∃ u, (portOf t.net j).queue = (portOf s.net j).queue ++ [u] ∧
            u.body = .stream (packetOf s.fab s.tb s.aud n (now - k) a)
              (wireBytes (streamBytes s.fab j a (packetOf s.fab s.tb s.aud n (now - k) a))) ∧ u.cls = fld (ew a 0) 10 8 ∧ u.len = max 64 (txLen a) ∧ u.at_ = now))) ∧
      Next (exec (.streamTxLate p) s) (fun t => t = { s with fab := t.fab, net := t.net } ∧
        (portOf t.net p).queue = (portOf s.net p).queue.filter waits ∧ (portOf t.net p).cur = (portOf s.net p).cur ∧
        (∀ o : Fin 2, o ≠ p → portOf t.net o = portOf s.net o) ∧
        ((portOf s.net p).queue.all waits = true → t = s)))

-- The Uhlyen links and the stack

/-- Uhlyen links (R399 to R402, R412): lanes that do not lock at 25.78125 Gb/s retry at 10.3125 Gb/s; a lane marker sets the lane good, its
inversion and its place; a lane that fails, and a loss of lock or alignment, take the link down and retrain it, and so do four good lanes of a
degraded link, at the rate LINK_CFG fixes, else at the link's own; a training ends on four lanes or on two; a trained link comes up with its partner's identity, and on the strapped master
enumeration starts once both links are up. The other link stays as it is. -/
def Obligations.UhlyenLinksTrainAndFail : Prop :=
  ∀ (l : Fin 2) (lane phys : Fin 4) (inv : Bool) (partner : Option Nat) (s : State), clocked s = true →
    let k := linkOf s.stk l
    let at_ (o : Nat) : Nat := uhlAt l o
    let on := enabled s.fab (pUHL l)
    let up := uhlUp s.fab l
    let deg := getB s.fab (at_ 0x44) 1
    let n := laneGood s.fab l
    let now (t : State) : UhlLink := linkOf t.stk l
    let only (t : State) : Prop := t = { s with fab := t.fab, stk := t.stk } ∧ ∀ o : Fin 2, o ≠ l → linkOf t.stk o = linkOf s.stk o
    let falls (t : State) : Prop := only t ∧ uhlUp t.fab l = false ∧ (now t).training = true ∧ (now t).trained = false ∧
      (now t).rate = trainRate s.fab s.stk l ∧ getB t.fab (at_ 0x0C) 3 = true ∧ (up = true → getB t.fab (at_ 0x10) 0 = true ∧
        rdN t.fab (at_ 0x5C) = incSat 32 (rdN s.fab (at_ 0x5C)) 1)
    let slow := on && k.training && (k.rate == 1) && (getF s.fab (at_ 0x40) 1 0 == 0) && (n != 4)
    (slow = false → exec (.uhlRateFallback l) s = .next s) ∧
    (slow = true → Next (exec (.uhlRateFallback l) s) (fun t => only t ∧ now t = { k with training := true, trained := false, rate := 2 } ∧
      t.fab = putB s.fab (at_ 0x0C) 3 true)) ∧
    (on = false → exec (.laneMarker l phys lane inv) s = .next s) ∧
    ((on && getB s.fab (at_ 0x44) (8 + lane.val)) = false → exec (.laneFail l lane) s = .next s) ∧
    ((on && getB s.fab (at_ 0x44) (8 + lane.val)) = true →
      Next (exec (.laneFail l lane) s) (fun t => falls t ∧ getB t.fab (at_ 0x44) (8 + lane.val) = false)) ∧
    (on = true → Next (exec (.laneMarker l phys lane inv) s) (fun t => t = { s with fab := t.fab } ∧
        getB t.fab (at_ 0x44) (8 + phys.val) = true ∧ getB t.fab (at_ 0x44) (12 + phys.val) = inv ∧
        getF t.fab (at_ 0x48) (2 * lane.val + 1) (2 * lane.val) = phys.val ∧
        getB t.fab (at_ 0x44) 16 = (getF t.fab (at_ 0x48) 7 0 == 0x1B) ∧
        Touches [at_ 0x44, at_ 0x48, at_ 0x60, at_ 0x10] s.fab t.fab)) ∧
    (up = false → exec (.uhlLinkDown l) s = .next s) ∧
    (up = true → Next (exec (.uhlLinkDown l) s) falls) ∧
    ((up && deg && (n == 4)) = false → exec (.laneRestore l) s = .next s) ∧
    ((up && deg && (n == 4)) = true → Next (exec (.laneRestore l) s) falls) ∧
    ((on && k.training && decide (2 ≤ n)) = false → exec (.linkRetrainEnd l) s = .next s) ∧
    ((on && k.training && decide (2 ≤ n)) = true → Next (exec (.linkRetrainEnd l) s) (fun t => only t ∧
      now t = { k with training := false, trained := true } ∧ getB t.fab (at_ 0x44) 1 = (n != 4) ∧
      getF t.fab (at_ 0x44) 6 4 = (if n = 4 then 4 else 2) ∧ getF t.fab (at_ 0x44) 3 2 = k.rate % 4 ∧
      (n ≠ 4 → deg = false → getB t.fab (at_ 0x10) 1 = true))) ∧
    ((on && k.trained && !up) = false → exec (.uhlLinkUp l partner) s = .next s) ∧
    ((on && k.trained && !up) = true → Next (exec (.uhlLinkUp l partner) s) (fun t => only t ∧ uhlUp t.fab l = true ∧
      (now t).trained = false ∧ getB t.fab (at_ 0x10) 0 = true ∧ getB t.fab (at_ 0x0C) 3 = false ∧
      getB t.fab (at_ 0x44) 24 = partner.isSome ∧ getF t.fab (at_ 0x44) 23 18 = partner.getD 0 % 64 ∧
      (enabled s.fab pSTK = true → stkRole s.fab = 3 → uhlUp s.fab (1 - l.val) = true → s.stk.enumSent = false →
        t.stk.enumSent = true ∧ stkSt t.fab = 1)))

/-- The roles and changes of a stack (R405, R407, R412, R415, R417 to R421, R427): ENUM starts the enumeration on the timing master, gives each member the next
ID and, back at its sender, fixes the number of members; a message with a wrong CRC is counted and discarded, one for another member
is passed on; ROLL is sent to every member and answered, an answer that comes counts toward presence, a third missed one ends it; a
deputy takes over a silent ring; RESTORE and HANDBACK announce a change a millisecond ahead, and an announced change applies at its
MSC, where the groups it sheds have faded. -/
def Obligations.StackRolesAndChanges : Prop :=
  ∀ (q : Req) (l : Fin 2) (i : Fin 64) (m : BitVec 128) (s : State),
    let f := s.fab
    let k := s.stk
    let only (t : State) : Prop := t = { s with fab := t.fab, stk := t.stk }
    let timer := isTimer f
    let other : Nat := 1 - l.val
    let here := idValid f && (msgDst m == stkId f)
    let mine := (msgBcast m || here) && enabled f pSTK
    let passes := ((msgBcast m && !(idValid f && (msgSrc m == stkId f))) || (!msgBcast m && !here)) && uhlUp f other
    let k' : StkState := if passes then sendX k other m else k
    let next : Nat := (k.rollNo + 1) % 2 ^ 16
    let goes := timer && (k.openLink != normalOpen k) && lineWhole f k && k.change.isNone
    let v := rollOf k (msgSrc m)
    let w := rollOf k i
    let n := msgPay m % 64
    let ovr := msgSub m != 0
    let silent := stkSt f == 8 && getB f (stkAt 0x44) 3 && enabled f pSTK && !k.heard
    let link := if (msgPay m).testBit 6 then (if n = 0 then k.count - 1 else n - 1) else n
    (isUp s = true →
      (takesWrites f pSTK = false → ∀ c, c = .cmdEnum q ∨ c = .handback q ∨ c = .restore q → exec c s = .next (failOn s pSTK 1 0x48)) ∧
      (takesWrites f pSTK = true →
        (timer = false → exec (.cmdEnum q) s = .next s) ∧
        (timer = true → Next (exec (.cmdEnum q) s) (fun t => only t ∧ stkSt t.fab = 1 ∧ stkId t.fab = 0 ∧ idValid t.fab = true ∧
          t.stk = { k with enumSent := true, out := k.out ++ [(0, mkMsg 3 0 0 false 0 1)] })) ∧
        (¬(stkSt f = 4 ∧ k.change = none) → exec (.handback q) s = .next s) ∧
        (stkSt f = 4 → k.change = none → Next (exec (.handback q) s) (fun t => only t ∧ stkSt t.fab = 4 ∧
          t.stk = { k with change := some ⟨stackMsc f + msTicks f, k.present, k.openLink, false, true⟩ })))) ∧
    (∀ c, c = .restoreAnnounce ∧ clocked s = true ∧ getB f (stkAt 0x44) 2 = true ∨ c = .restore q ∧ isUp s = true ∧ takesWrites f pSTK = true →
      (goes = false → exec c s = .next s) ∧
      (goes = true → Next (exec c s) (fun t => only t ∧ ∃ g, t.stk = { k with change := some g } ∧ g.at_ = stackMsc f + msTicks f ∧
        g.openLink = normalOpen k ∧ g.fades = true ∧ g.handback = false))) ∧
    (clocked s = true →
      (getB f (stkAt 0x44) 2 = false → exec .restoreAnnounce s = .next s) ∧
      ((timer && enabled f pSTK) = false → exec .rollCall s = .next s) ∧
      ((timer && enabled f pSTK) = true → Next (exec .rollCall s) (fun t => only t ∧ t.stk.rollNo = next ∧
        (∀ j, j < k.count → j ≠ stkId f → rollOf t.stk j = { rollOf k j with wait := some next }) ∧
        t.stk.out = k.out ++ ((upto k.count).filter (· != stkId f)).map (fun j => (portTo f k j, mkMsg 1 (stkId f) j false 0 next)))) ∧
      (∀ c ty sel, (c, ty, sel) ∈ [(Instr.roll l m, 1, true), (.rollAns l m, 2, timer), (.linkFail l m, 6, idValid f), (.regRd l m, 16, true),
          (.regWr l m, 17, true), (.regRsp l m, 18, true)] →
        ((uhlUp f l = false ∨ msgType m ≠ ty) → exec c s = .next s) ∧
        (uhlUp f l = true → msgType m = ty → msgOk m = false → Next (exec c s) (fun t => t = { s with fab := t.fab } ∧
          getB t.fab (ra (pUHL l) 0x10) 2 = true ∧ rdN t.fab (uhlAt l 0x58) = incSat 32 (rdN f (uhlAt l 0x58)) 1 ∧
          Touches [uhlAt l 0x58, ra (pUHL l) 0x10] f t.fab)) ∧
        (uhlUp f l = true → msgType m = ty → msgOk m = true → (mine && sel) = false → exec c s = .next { s with stk := k' })) ∧
      (uhlUp f l = true → msgOk m = true → mine = true →
        (msgType m = 1 → Next (exec (.roll l m) s) (fun t => t = { s with stk := t.stk } ∧ ∃ pay,
          t.stk.out = k'.out ++ [(l.val, mkMsg 2 (stkId f) (msgSrc m) false 0 pay)] ∧ pay % 2 ^ 16 = msgPay m % 2 ^ 16 ∧
          pay / 2 ^ 16 % 16 = stkSt f ∧ pay.testBit 25 = k.mismatch)) ∧
        (msgType m = 2 → timer = true → v.wait ≠ some (msgPay m % 2 ^ 16) → exec (.rollAns l m) s = .next { s with stk := k' }) ∧
        (msgType m = 2 → timer = true → v.wait = some (msgPay m % 2 ^ 16) → Next (exec (.rollAns l m) s) (fun t => only t ∧
          t.stk = setRoll k' (msgSrc m) ⟨0, min 3 (v.answers + 1), none, (msgPay m).testBit 26⟩ ∧
          (2 ≤ v.answers → memberBit t.fab 0x50 (msgSrc m) = true) ∧ memberBit t.fab 0x58 (msgSrc m) = (msgPay m).testBit 25 ∧
          ((msgPay m).testBit 25 = true → memberBit f 0x58 (msgSrc m) = false → getB t.fab (ra pSTK 0x10) 4 = true))) ∧
        (msgType m = 6 → idValid f = true → (k.count = 0 ∨ k.failed.contains link = true) →
          exec (.linkFail l m) s = .next { s with stk := k' }) ∧
        (msgType m = 6 → idValid f = true → k.count ≠ 0 → k.failed.contains link = false → Next (exec (.linkFail l m) s) (fun t =>
          only t ∧ t.stk = { k' with failed := k.failed ++ [link], openLink := if k.failed = [] then link else k.openLink } ∧
          (link ≠ k.openLink → rdN t.fab (stkAt 0x94) = incSat 32 (rdN f (stkAt 0x94)) 1)))) ∧
      ((timer && w.wait.isSome) = false → exec (.rollAnsMiss i) s = .next s) ∧
      ((timer && w.wait.isSome) = true → Next (exec (.rollAnsMiss i) s) (fun t => only t ∧
        t.stk = setRoll k i { w with misses := w.misses + 1, answers := 0, wait := none } ∧
        (w.misses = 2 → memberBit f 0x50 i = true → memberBit t.fab 0x50 i = false ∧ getB t.fab (ra pSTK 0x10) 2 = true ∧
          rdN t.fab (stkAt 0x88) = incSat 32 (rdN f (stkAt 0x88)) 1) ∧
        (¬(w.misses = 2 ∧ memberBit f 0x50 i = true) → t.fab = f))) ∧
      (silent = false → exec .deputyTakeover s = .next s) ∧
      (silent = true → Next (exec .deputyTakeover s) (fun t => t = { s with fab := t.fab } ∧ stkSt t.fab = 4 ∧
        getF t.fab (stkAt 0x40) 29 24 = stkId f ∧ getB t.fab (ra pSTK 0x10) 6 = true ∧
        rdN t.fab (stkAt 0x98) = incSat 32 (rdN f (stkAt 0x98)) 1)) ∧
      ((∀ c, k.change = some c → mscPast f c.at_ = false) → exec .chgAtApply s = .next s) ∧
      (∀ c, k.change = some c → mscPast f c.at_ = true → Next (exec .chgAtApply s) (fun t => only t ∧
        t.stk = { takePresent k c.present with openLink := c.openLink, change := none,
                                               failed := if c.openLink = k.openLink then k.failed else [] } ∧
        (c.fades = true → ∀ g, g < 160 → k.present.testBit g = true → c.present.testBit g = false →
          mget (fun _ => GrpRx.reset) t.stk.grps g = ⟨0, .mute 0⟩) ∧
        stkSt t.fab = (if c.handback = true ∧ stkSt f = 4 then 8 else if c.handback = true ∧ stkSt f = 5 then 3 else stkSt f))) ∧
      ((uhlUp f l = false ∨ msgType m ≠ 3 ∨ l.val ≠ 1) → exec (.enum l m) s = .next s) ∧
      (l.val = 1 → uhlUp f l = true → msgType m = 3 →
        (msgOk m = false → Next (exec (.enum l m) s) (fun t => t = { s with fab := t.fab } ∧ getB t.fab (ra (pUHL l) 0x10) 2 = true ∧
          Touches [uhlAt l 0x58, ra (pUHL l) 0x10] f t.fab)) ∧
        (msgOk m = true → enabled f pSTK = false → exec (.enum l m) s = .next { s with stk := sendX k 0 m }) ∧
        (msgOk m = true → enabled f pSTK = true → (timer || stkSt f == 6) = true → exec (.enum l m) s = .next s) ∧
        (msgOk m = true → enabled f pSTK = true → (timer || stkSt f == 6) = false →
          (∀ own, own = (stkSt f == 1 && idValid f && (msgSrc m == stkId f) && k.enumSent) →
            (own = true → Next (exec (.enum l m) s) (fun t => only t ∧ stkSt t.fab = (if stkRole f = 3 then 3 else 4) ∧
              t.stk.count = (if ovr = true ∨ n = 0 then 64 else n) ∧ t.stk.openLink = t.stk.count - 1 ∧ t.stk.failed = [] ∧
              t.stk.out = k.out ∧ (ovr = true → getB t.fab (ra pSTK 0x10) 7 = true))) ∧
            (own = false → (ovr = true ∨ n = 0) → Next (exec (.enum l m) s) (fun t => only t ∧ stkSt t.fab = 7 ∧ idValid t.fab = false ∧
              t.stk = sendX k 0 (mkMsg 3 (msgSrc m) 0 false 1 0))) ∧
            (own = false → ovr = false → n ≠ 0 → Next (exec (.enum l m) s) (fun t => only t ∧ stkId t.fab = n ∧ idValid t.fab = true ∧
              stkSt t.fab = (if stkRole f = 2 then 8 else if stkRole f = 3 then stkSt f else 2) ∧
              t.stk = sendX { k with count := 0, failed := [] } 0 (mkMsg 3 (msgSrc m) 0 false 0 ((n + 1) % 64))))))))

/-- Cycle frames, link delays, map writes, remote accesses and follow words of a stack (R237, R403, R404, R407, R413, R422, R423, R427, R428): a header with a wrong
CRC is counted and no part of its frame is used; of a good frame that ends in time the parts that pass their CRC are received, and a follower takes the
master's time and increment; a delay measurement sends DLY_REQ, which is answered, and the response completes it; a write of MAP_DATA goes to the
shadow bank or is answered with its failed check; an access through the window is the device's own, a message to the member, or an
access error; a response or the time-out completes it; follow words reach the group they name. -/
def Obligations.StackFramesAndRemoteAccesses : Prop :=
  ∀ (q : Req) (l : Fin 2) (m : BitVec 128) (v : Word) (res a : Nat) (w : Option Word) (fr : CycFrame) (hops : List (Nat × Nat))
    (st : GrpSt) (p : Nat) (rho0 : Int) (s : State),
    let f := s.fab
    let k := s.stk
    let only (t : State) : Prop := t = { s with fab := t.fab, stk := t.stk }
    let up := uhlUp f l
    let here := idValid f && (msgDst m == stkId f)
    let mine := (msgBcast m || here) && enabled f pSTK
    let other : Nat := 1 - l.val
    let passes := ((msgBcast m && !(idValid f && (msgSrc m == stkId f))) || (!msgBcast m && !here)) && uhlUp f other
    let k' : StkState := if passes then sendX k other m else k
    let heard := idValid f && enabled f pSTK && (msgBcast m || (msgDst m == stkId f)) && (leaderOf f s.tri (msgSub m) == msgSrc m)
    let grp := incGrp s.inc (msgSub m)
    let bad (c : Instr) : Prop := Next (exec c s) (fun t => t = { s with fab := t.fab } ∧ getB t.fab (ra (pUHL l) 0x10) 2 = true ∧
      rdN t.fab (uhlAt l 0x58) = incSat 32 (rdN f (uhlAt l 0x58)) 1)
    let sel := rdO f q.code (stkAt 0xB0)
    let idx := fld sel 12 0
    let tab := fld sel 17 16
    let gate := shadowGate f pSTK
    let code := if gate ≠ 0 then gate else mapCheck f k tab idx v
    let dest := a / 2 ^ 24
    let far := isTimer f && enabled f pSTK && reachable f k dest
    let toldErr (t : State) : Prop := getB t.fab 0x10 0 = true ∧ getB t.fab 0x54 31 = true ∧
      ∀ r, isSide r = false → r ∉ [0x10, 0x50, 0x54] → rdR t.fab r = rdR f r
    (clocked s = true →
      ((up = false ∨ hdrOk fr = true ∧ hDir fr ≠ other) → exec (.cycleFrame l res fr) s = .next s) ∧
      (up = true → hdrOk fr = false → Next (exec (.cycleFrame l res fr) s) (fun t => only t ∧ t.stk.recE = k.recE ∧ t.stk.recW = k.recW ∧
        getB t.fab (ra (pUHL l) 0x10) 2 = true ∧ rdN t.fab (uhlAt l 0x50) = incSat 32 (rdN f (uhlAt l 0x50)) 1)) ∧
      (up = true → hdrOk fr = true → hDir fr = other → Next (exec (.cycleFrame l res fr) s) (fun t =>
        t = { s with fab := t.fab, tb := t.tb, stk := t.stk } ∧
        (cycleLate f k s.net.now = false → (if l.val = 1 then t.stk.recE else t.stk.recW) = some (goodParts fr)) ∧
        (cycleLate f k s.net.now = true → (if l.val = 1 then t.stk.recE else t.stk.recW) = (if l.val = 1 then k.recE else k.recW)) ∧
        (if l.val = 1 then t.stk.recW else t.stk.recE) = (if l.val = 1 then k.recW else k.recE) ∧
        (hMasterValid fr = false → t.fab.time = f.time ∧ t.tb = s.tb) ∧
        (hMasterValid fr = true → enabled f pSTK = true → stkRole f ≠ 0 → isTimer f = false → getB f (stkAt 0x44) 1 = true →
          t.fab.time = BitVec.ofNat 72 ((hw fr 2 / 2 ^ 16 % 2 ^ 40 * 2 ^ 8 + nfld (hw fr 2) 15 8 + hCorr fr + getF f (uhlAt l 0x4C) 23 0) * 2 ^ 24 % 2 ^ 72) ∧
          getB t.fab (ra pTB 0x50) 2 = true ∧
          t.tb.incr = min 0x4_7FFF_FFFF (max 0x3_8000_0000 (Config.masterIncr f.time.toNat))))) ∧
      (up = false → exec (.linkDelayMeasure l hops) s = .next s) ∧
      (up = true → Next (exec (.linkDelayMeasure l hops) s) (fun t => only t ∧ (isTimer f = false → t.fab = f) ∧
        (linkOf t.stk l).reqAt = some (time56 f) ∧ t.stk.out = k.out ++ [(l.val, mkMsg 4 (stkId f) 0 false 0 (time56 f))])) ∧
      (∀ c ty, (c = .dlyReq l m res ∧ ty = 4 ∨ c = .dlyRsp l m res ∧ ty = 5 ∨ c = .followRatio l m st p rho0 ∧ ty = 0x30 ∨ c = .followPos l m ∧ ty = 0x31) →
        ((up = false ∨ msgType m ≠ ty) → exec c s = .next s) ∧ (up = true → msgType m = ty → msgOk m = false → bad c)) ∧
      (up = true → msgOk m = true →
        (msgType m = 4 → exec (.dlyReq l m res) s =
          .next { s with stk := sendX k l (mkMsg 5 (stkId f) 0 false 0 ((msgPay m % 2 ^ 56 + res) % 2 ^ 56)) }) ∧
        (msgType m = 5 → (linkOf k l).reqAt = none → exec (.dlyRsp l m res) s = .next s) ∧
        (msgType m = 5 → (linkOf k l).reqAt ≠ none → Next (exec (.dlyRsp l m res) s) (fun t => only t ∧ (linkOf t.stk l).reqAt = none ∧
          rdN t.fab (uhlAt l 0x4C) = (rne (((time56 f + 2 ^ 56 - msgPay m % 2 ^ 56) % 2 ^ 56 : Nat) : Int) 512).toNat % 2 ^ 24)) ∧
        (msgType m = 0x30 → heard = false → exec (.followRatio l m st p rho0) s = .next s) ∧
        (msgType m = 0x30 → heard = true → following f s.inc (msgSub m) = false → exec (.followRatio l m st p rho0) s = .next s) ∧
        (msgType m = 0x30 → heard = true → following f s.inc (msgSub m) = true → Next (exec (.followRatio l m st p rho0) s) (fun t =>
          t = { s with fab := t.fab, inc := t.inc } ∧ (∀ g, g ≠ msgSub m → incGrp t.inc g = incGrp s.inc g) ∧
          (s.inc.next ≤ updMsc f (msgPay m / 2 ^ 64) (2 ^ 16) + 2 * blockLen f → ∃ d, d ∈ (incGrp t.inc (msgSub m)).follow ∧
            d.at_ = updMsc f (msgPay m / 2 ^ 64) (2 ^ 16) ∧ d.rho = some (sx 64 (msgPay m % 2 ^ 64))))) ∧
        (msgType m = 0x31 → heard = true → following f s.inc (msgSub m) = true → Next (exec (.followPos l m) s) (fun t =>
          t = { s with fab := t.fab, inc := t.inc, tri := t.tri } ∧ (∀ g, g ≠ msgSub m → incGrp t.inc g = incGrp s.inc g) ∧
          (s.inc.next ≤ updMsc f (nfld (msgPay m) 79 72) (2 ^ 8) + 2 * blockLen f → ∃ d, d ∈ (incGrp t.inc (msgSub m)).follow ∧
            d.at_ = updMsc f (nfld (msgPay m) 79 72) (2 ^ 8) ∧ d.slip = nfld (msgPay m) 65 64 ∧ d.rho = ((grp.follow.find? (fun e =>
              e.at_ == updMsc f (nfld (msgPay m) 79 72) (2 ^ 8))).bind (·.rho))))) ∧
        (∀ c wr, (c = .regRd l m ∧ msgType m = 16 ∧ wr = false ∨ c = .regWr l m ∧ msgType m = 17 ∧ wr = true) → mine = true →
          Next (exec c s) (fun t => t.pending = s.pending ∧ t.tap = s.tap ∧ ∃ d e port id,
            t.stk.out.getLast? = some (port, mkMsg 18 id (msgSrc m) false 0
              (nfld (msgPay m) 31 24 * 2 ^ 24 + d % 2 ^ 32 * 2 ^ 32 + Bool.toNat e * 2 ^ 64)) ∧ (wr = true → d = 0))) ∧
        (msgType m = 18 → mine = true → s.host.wait = none →
          (k.remote.find? (fun r => r.tag == nfld (msgPay m) 31 24 && r.member == msgSrc m) = none →
            exec (.regRsp l m) s = .next { s with stk := k' }) ∧
          (∀ r, k.remote.find? (fun r => r.tag == nfld (msgPay m) 31 24 && r.member == msgSrc m) = some r → Next (exec (.regRsp l m) s) (fun t =>
            only t ∧ t.stk = { k' with remote := k.remote.filter (· != r) } ∧ (r.write = true → t.fab = f) ∧
            (r.write = false → t.fab = answer f r.req (nfld (msgPay m) 63 32))))))) ∧
    (isUp s = true →
      (k.remote = [] → exec .remoteAccessTimeout s = .next s) ∧
      (∀ r l, k.remote = r :: l → s.host.wait = none → Next (exec .remoteAccessTimeout s) (fun t => only t ∧
        t.stk = { k with remote := l } ∧ toldErr t ∧ (r.write = false → mget zeroN t.fab.rdata r.req = 0))) ∧
      (ready f pSTK = false → exec (.stkMapWrite q v) s = .next (failOn s pSTK 1 0xB4)) ∧
      (ready f pSTK = true →
        (code = 0 → Next (exec (.stkMapWrite q v) s) (fun t => t = { s with fab := t.fab } ∧ rdShd t.fab pSTK (stkKey tab idx) = v &&& 0xFFFF ∧
          rdO t.fab q.code (stkAt 0xB8) = 1 ∧ getB t.fab (ra pSTK 0x2C) 3 = true ∧
          ∀ b r, ¬(b = !actB f pSTK ∧ r = stkKey tab idx) → rdB t.fab b r = rdB f b r)) ∧
        (code ≠ 0 → Next (exec (.stkMapWrite q v) s) (fun t => t = { s with fab := t.fab } ∧ (∀ b r, rdB t.fab b r = rdB f b r) ∧
          rdO t.fab q.code (stkAt 0xB8) = (if code = 0x01F0 then 3 else if code = 5 then 4 else 2) ∧ getB t.fab (ra pSTK 0x10) 10 = true))) ∧
      (a % 4 ≠ 0 → Next (exec (.stackWindowAccess q a w) s) (fun t => t = { s with fab := t.fab } ∧ toldErr t)) ∧
      (a % 4 = 0 → dest = stkId f →
        exec (.stackWindowAccess q a none) s = exec (.pairRead q (a % 2 ^ 24) .b32) s ∧
        exec (.stackWindowAccess q a (some v)) s = exec (.registerWrite q (a % 2 ^ 24) .b32 (v.setWidth 64)) s) ∧
      (a % 4 = 0 → dest ≠ stkId f → far = false → Next (exec (.stackWindowAccess q a w) s) (fun t => t = { s with fab := t.fab } ∧ toldErr t ∧
        (w = none → mget zeroN t.fab.rdata q.code = 0))) ∧
      (a % 4 = 0 → dest ≠ stkId f → far = true → Next (exec (.stackWindowAccess q a w) s) (fun t => t = { s with stk := t.stk } ∧
        t.stk.remote = k.remote ++ [⟨k.nextTag, dest, q.code, a, w.isSome⟩] ∧ t.stk.nextTag = (k.nextTag + 1) % 256 ∧
        t.stk.out = k.out ++ [(portTo f k dest, match w with
          | none => mkMsg 16 (stkId f) dest false 0 (a % 2 ^ 24 + k.nextTag * 2 ^ 24)
          | some x => mkMsg 17 (stkId f) dest false 0 (a % 2 ^ 24 + k.nextTag * 2 ^ 24 + x.toNat * 2 ^ 32))])))

-- The trifle

/-- Votes and orders (R437 to R444, R447 to R450, R452): a vote of this trifle is held once for its sender and block; at the tick of a block the votes are evaluated: with all three
roles filled, three agreeing votes clear the counts of the owner and of this member, an owner in the minority is flagged and counted and, after
the limit, the alternate of a trifle in full health orders the standby to take over, a standby in the minority for the limit is demoted, and three
different values are NO_MAJORITY; at its boundary an order moves the outputs: the standby it names becomes OWNER and the old owner
CATCHUP; TAKE is the standby's, and refused in full health; OWN_IN seen by an owner without an order makes it release; the phases
of a REJOIN follow one another, its pieces are installed in their phase, and a member that stays in CATCHUP for 10 s is reported; an
alive counter that repeats or skips is flagged. -/
def Obligations.TrifleVotesAndHandsOver : Prop :=
  ∀ (q : Req) (l : Fin 2) (m : BitVec 128) (a : Fin 32) (v : Word) (in0 in1 same full : Bool) (travel : Nat) (pc : Piece) (s : State),
    let f := s.fab
    let x := s.tri
    let role := triRole f
    let up := uhlUp f l
    let heard := enabled f pSTK && idValid f && (msgBcast m || (msgDst m == stkId f))
    let ours := nfld (msgPay m) 69 64 == memberId f 1 && role != 0
    let w := msgPay m
    let src := msgSrc m
    let late := lateVote f (nfld w 47 32)
    let ballot := 256 * nfld w 47 32 + nfld w 55 48
    let twice := mget (fun _ => none) x.alive src == some ballot
    let rep := (mget (fun _ => none) x.alive src).any (fun p => p % 256 == nfld w 55 48)
    let only (t : State) : Prop := t = { s with fab := t.fab, tri := t.tri }
    let flag (t : State) (n : Nat) : Prop := getB t.fab (triAt 0x4C) n = true
    let irq (t : State) (n : Nat) : Prop := getB t.fab (ra pTRI 0x10) n = true
    let lim := getF f (triAt 0x40) 15 12
    let val := v.toNat / 2 ^ getF f (triAt (0x200 + 16 * a.val)) 28 24 % 2 ^ (getF f (triAt (0x200 + 16 * a.val)) 19 16 + 1)
    let tenS := x.catchAt + 10 * fsHz f
    let len := 2 ^ (getF f (triAt (0x200 + 16 * a.val)) 19 16 + 1)
    (clocked s = true →
      (∀ c ty, (c, ty) ∈ [(Instr.vote l m, 0x20), (.order l m, 0x20), (.snap l m, 0x21)] →
        ((up = false ∨ msgType m ≠ ty) → exec c s = .next s) ∧
        (up = true → msgType m = ty → msgOk m = false → Next (exec c s) (fun t => t = { s with fab := t.fab } ∧
          getB t.fab (ra (pUHL l) 0x10) 2 = true ∧ Touches [uhlAt l 0x58, ra (pUHL l) 0x10] f t.fab))) ∧
      (up = true → msgOk m = true →
        (msgType m = 0x20 → ((heard && (msgSub m == 0)) = false ∨ twice = true) → exec (.vote l m) s = .next s) ∧
        (msgType m = 0x20 → (heard && (msgSub m == 0)) = true → twice = false → Next (exec (.vote l m) s) (fun t => only t ∧
          mget (fun _ => none) t.tri.alive src = some ballot ∧ triRole t.fab = role ∧ t.tri.due = x.due ∧
          ((rep || late || !ours) = true → t.tri.votes = x.votes) ∧
          ((rep || late || !ours) = false → t.tri.votes =
            x.votes ++ [⟨src, nfld w 47 32, w % 2 ^ 32, nfld w 58 56, w.testBit 59, nfld w 61 60, w.testBit 62⟩]))) ∧
        (msgType m = 0x20 → (heard && (msgSub m == 1) && ours) = false → exec (.order l m) s = .next s) ∧
        (msgType m = 0x20 → (heard && (msgSub m == 1) && ours) = true → exec (.order l m) s =
          .next { s with tri := { x with due := some (atMsc f (w % 2 ^ 32), .order (nfld w 61 60)) } }) ∧
        (msgType m = 0x21 → (heard && x.rejoin.any (fun r => src == r.source)) = false → exec (.snap l m) s = .next s) ∧
        (msgType m = 0x21 → (heard && x.rejoin.any (fun r => src == r.source)) = true → exec (.snap l m) s =
          .next { s with tri := { x with snap := mset zeroN x.snap (nfld w 79 64) (w % 2 ^ 64) } })) ∧
      ((blockAt f (stackMsc f) = none ∨ role = 0 ∨ running f = false) → exec .voteEvaluate s = .next s) ∧
      (∀ b, blockAt f (stackMsc f) = some b → role ≠ 0 → running f = true → Next (exec .voteEvaluate s) (fun t =>
        t = { s with fab := t.fab, tri := t.tri, stk := t.stk } ∧ rdN t.fab (triAt 0x54) = b % 2 ^ 16 ∧
        (∀ u, u ∈ t.tri.votes → u ∈ x.votes) ∧
        (∀ o y z, (∀ r k, (r, k) ∈ [(1, o), (2, y), (3, z)] →
            (([1, 2, 3].map (fun p => counting (votesOf f x b p))).filterMap id).find? (fun u => u.role == r) = some k) →
          triMacaron f = false → x.rejoin = none → (role = 1 ∨ role = 2 ∨ role = 3) → 2 ≤ getF f (triAt 0x40) 25 16 →
          (o.check = y.check → y.check = z.check → t.tri.ownerMin = 0 ∧ t.tri.selfMin = 0 ∧ t.tri.due = x.due ∧ triRole t.fab = role) ∧
          (y.check = z.check → o.check ≠ y.check → flag t 0 ∧ irq t 2 ∧ rdN t.fab (triAt 0xA0) = incSat 32 (rdN f (triAt 0xA0)) 1 ∧
            triRole t.fab = role ∧
            (x.ownerMin + 1 < lim → t.tri.ownerMin = x.ownerMin + 1 ∧ t.tri.due = x.due) ∧
            (lim ≤ x.ownerMin + 1 → role = 3 → triHealth f = 0 →
              t.tri.due = some (boundaryAfter f (stackMsc f), .order y.pos) ∧ t.tri.ownerMin = 0)) ∧
          (o.check = z.check → o.check ≠ y.check → role = 2 → lim ≤ x.selfMin + 1 → triRole t.fab = 4) ∧
          (o.check = y.check → o.check ≠ z.check → role = 3 → lim ≤ x.selfMin + 1 → triRole t.fab = 4) ∧
          (o.check ≠ y.check → o.check ≠ z.check → y.check ≠ z.check → flag t 2 ∧ irq t 4 ∧ t.tri.due = x.due)))) ∧
      ((∀ at_ d, x.due = some (at_, d) → stackMsc f < at_) → exec .handover s = .next s) ∧
      (∀ at_, x.due = some (at_, .release) → at_ ≤ stackMsc f → Next (exec .handover s) (fun t => only t ∧ t.tri.due = none ∧
        triRole t.fab = (if role = 1 then 4 else role))) ∧
      (∀ at_ pos, x.due = some (at_, .order pos) → at_ ≤ stackMsc f → Next (exec .handover s) (fun t => only t ∧ t.tri.due = none ∧ irq t 1 ∧
        rdN t.fab (triAt 0x68) = at_ % 2 ^ 32 ∧ getF t.fab (triAt 0x48) 13 12 = pos % 4 ∧
        rdN t.fab (triAt 0xAC) = incSat 32 (rdN f (triAt 0xAC)) 1 ∧
        triRole t.fab = (if triPos f = pos ∧ role = 2 then 1 else if role = 1 ∧ triPos f ≠ pos then 4 else role) ∧
        (triPos f = pos → role = 2 → getB t.fab (triAt 0x48) 16 = true ∧ ownedAt t.fab t.tri ((at_ + 2 ^ 64 - mscOfs f) % 2 ^ 64) = true) ∧
        (role = 1 → triPos f ≠ pos → getB t.fab (triAt 0x48) 16 = false ∧ ownedAt t.fab t.tri ((at_ + 2 ^ 64 - mscOfs f) % 2 ^ 64) = false))) ∧
      Next (exec (.ownInChange in0 in1) s) (fun t => only t ∧ getB t.fab (triAt 0x48) 17 = in0 ∧ getB t.fab (triAt 0x48) 18 = in1 ∧
        triRole t.fab = role ∧ t.tri = if (in0 || in1) && role == 1 && !x.byOrder && x.due.isNone
          then { x with due := some (boundaryAfter f (stackMsc f), .release) } else x) ∧
      (x.rejoin = none → exec (.rejoinPhaseEnd travel same) s = .next s) ∧
      (∀ r, x.rejoin = some r →
        (r.phase = 1 → same = false → opRunning f .rejoin = true → Next (exec (.rejoinPhaseEnd travel same) s) (fun t => only t ∧
          opResult t.fab .rejoin = 5 ∧ getF t.fab (OpId.rejoin).stat 31 16 = 1 ∧ triRole t.fab = 4 ∧ t.tri.rejoin = none)) ∧
        ((r.phase ≠ 1 ∨ same = true) → (7 ≤ r.phase ∨ f.msc.toNat < r.since + travel + phaseWait f (r.phase + 1)) →
          exec (.rejoinPhaseEnd travel same) s = .next s) ∧
        ((r.phase ≠ 1 ∨ same = true) → r.phase < 7 → r.since + travel + phaseWait f (r.phase + 1) ≤ f.msc.toNat →
          Next (exec (.rejoinPhaseEnd travel same) s) (fun t => only t ∧ rdN t.fab (triAt 0x8C) = r.phase + 1 ∧
            t.tri.rejoin = some ⟨r.source, r.phase + 1, f.msc.toNat⟩ ∧ triRole t.fab = (if r.phase = 6 then 4 else role)))) ∧
      (role ≠ 4 ∨ f.msc.toNat < tenS ∨ (x.rejoin = none ∧ x.demoted = false) → exec .catchupTimeout s = .next s) ∧
      (role = 4 → tenS ≤ f.msc.toNat → x.rejoin = none → x.demoted = true → Next (exec .catchupTimeout s) (fun t => t = { s with fab := t.fab } ∧ flag t 6 ∧
        irq t 9 ∧ Touches [triAt 0x4C, ra pTRI 0x10] f t.fab)) ∧
      (role = 4 → tenS ≤ f.msc.toNat → x.rejoin.isSome = true → opRunning f .rejoin = true → Next (exec .catchupTimeout s) (fun t => only t ∧
        opResult t.fab .rejoin = 5 ∧ getF t.fab (OpId.rejoin).stat 31 16 = 4 ∧ t.tri.rejoin = none ∧ triRole t.fab = 4)) ∧
      (isActive s = true →
        ((∀ r, x.rejoin = some r → pc.phases.contains r.phase = false) → exec (.snapInstall pc full) s = .next s) ∧
        (∀ r, x.rejoin = some r → pc.phases.contains r.phase = true → Next (exec (.snapInstall pc full) s) (fun t =>
          t = { s with fab := t.fab, tri := { x with snap := [] }, inc := t.inc, ren := t.ren, mtx := t.mtx, chains := t.chains } ∧
          (full = false → t.inc = s.inc ∧ t.ren = s.ren ∧ t.mtx = s.mtx ∧ t.chains = s.chains ∧
            rdN t.fab (triAt 0xB0) = incSat 32 (rdN f (triAt 0xB0)) 1) ∧
          (full = true → opCommitted t.fab .rejoin = true ∧ (∀ c u, pc = .inc c u → incCh t.inc c = u ∧ t.ren = s.ren) ∧
            (∀ o u, pc = .obj o u [] → objOf t.ren o = u ∧ t.inc = s.inc) ∧ (∀ u, pc = .mtx u → t.mtx = { s.mtx with trans := u }) ∧
            (∀ u n, pc = .gen u n → t.mtx = { s.mtx with phase := u, formed := n })))))) ∧
    (isUp s = true →
      (takesWrites f pTRI = false → exec (.take q) s = .next (failOn s pTRI 1 0x70) ∧
        exec (.alvFeed q a v) s = .next (failOn s pTRI 1 (0x20C + 0x10 * a.val))) ∧
      (takesWrites f pTRI = true →
        (role ≠ 2 → exec (.take q) s = .next s) ∧
        (role = 2 → triHealth f = 0 → exec (.take q) s = .next (failOn s pTRI 0x0101 0x70)) ∧
        (role = 2 → triHealth f ≠ 0 → Next (exec (.take q) s) (fun t => t = { s with tri := t.tri, stk := t.stk } ∧ ∃ h,
          t.tri = { x with due := some (h, .order (triPos f)) } ∧ h % vEff f = 0 ∧ stackMsc f + 2 * blockLen f ≤ h ∧
          t.stk = fillSent f (fillSent f (castVote s.stk (orderMsg f h (h / vEff f) (triPos f))) 0) 1)) ∧
        (getF f (triAt (0x200 + 16 * a.val)) 1 0 ≠ 3 → exec (.alvFeed q a v) s = .next s) ∧
        (getF f (triAt (0x200 + 16 * a.val)) 1 0 = 3 → Next (exec (.alvFeed q a v) s) (fun t => only t ∧
          mget (fun _ => none) t.tri.alv a = some val ∧ t.tri = { x with alv := t.tri.alv } ∧
          ((∀ u, mget (fun _ => none) x.alv a = some u → val = (u + 1) % len) → t.fab = f) ∧
          (∀ u, mget (fun _ => none) x.alv a = some u → val ≠ (u + 1) % len → irq t 8 ∧
            getB t.fab (triAt (0x204 + 16 * a.val)) (if val = u then 0 else 1) = true)))))

-- The check-value unit

/-- R455: a write to FEED_B feeds bits [7:0] of the word to VAL, a write to FEED_W its four bytes, bits [7:0] first, and a write to CMD.LOAD_INIT
sets VAL to INIT. The context is shared by every requester: the effect does not depend on who writes, and of two feeds the second
continues from the first. The page must take writes and be enabled, the context must be free of a running FEED, and its WIDTH is at
most 64, as every accepted write of CTX_CFG makes it. -/
def Obligations.CheckValuesAreFed : Prop :=
  ∀ (q q' : Req) (c : Fin 8) (v w : Word) (s : State), isUp s = true → takesWrites s.fab pCRCU = true → enabled s.fab pCRCU = true →
    ¬(opRunning s.fab .feed = true ∧ getF s.fab 0xA054 2 0 = c.val) → crcW s.fab c ≤ 64 →
    let val (f : Fabric) : Nat := crcPair f c 0x1C
    let frame (t : State) : Prop := t = { s with fab := t.fab } ∧ Touches [crcAt c 0x1C, crcAt c 0x20] s.fab t.fab
    let bytes (u : Word) : List Nat := [u.toNat % 256, u.toNat / 2 ^ 8 % 256, u.toNat / 2 ^ 16 % 256, u.toNat / 2 ^ 24]
    Next (exec (.feedB q c v) s) (fun t => frame t ∧ val t.fab = crcFeeds s.fab c (val s.fab) [v.toNat % 256] ∧
      Next (exec (.feedB q' c w) t) (fun u => val u.fab = crcFeeds s.fab c (val s.fab) [v.toNat % 256, w.toNat % 256])) ∧
    Next (exec (.feedW q c v) s) (fun t => frame t ∧ val t.fab = crcFeeds s.fab c (val s.fab) (bytes v) ∧
      Next (exec (.feedW q' c w) t) (fun u => val u.fab = crcFeeds s.fab c (val s.fab) (bytes v ++ bytes w))) ∧
    Next (exec (.loadInit q c) s) (fun t => frame t ∧ val t.fab = crcPair s.fab c 0x0C) ∧
    exec (.feedB q c v) s = exec (.feedB q' c v) s ∧ exec (.feedW q c v) s = exec (.feedW q' c v) s ∧
    exec (.loadInit q c) s = exec (.loadInit q' c) s

-- The memories and the bus matrix

/-- The DRAM controllers and the SRAM (R464, R465, R469, R471 to R476): a channel that is not READY serves nothing; the oldest write that is whole
puts its bytes into DRAM, every other byte stays, and its response returns; a read returns the bytes of DRAM; a batch ended by time
with reads waiting gives them their turn; refreshes are postponed at most four times while there is other work; the die's refresh rate
and the end of training are shown with their causes; tracking waits for a batch to end; the scrubber passes over the channel line by
line, leaves the data, corrects a line none of whose codewords is uncorrectable and changes no other; an injection is armed with a pattern that is not 0; errors of an SRAM array are counted, and the first uncorrectable one is recorded. -/
def Obligations.MemoriesServeAndReport : Prop :=
  ∀ (q : Req) (ch : Fin 2) (r : BusReq) (bytes : List Byte) (yes hot ovr : Bool) (ns word : Nat) (arr : Fin 26) (v : Word) (s : State),
    isUp s = true →
    let f := s.fab
    let d := drcOf s.mem ch
    let live := drcReady f ch
    let at_ (o : Nat) : Nat := drcAt ch o
    let irq (t : State) (n : Nat) : Prop := getB t.fab (at_ 0x10) n = true
    let whole := r.addr % 64 + r.len ≤ 64 ∧ r.addr < dramTop ∧ targetOf r.addr = some ch.val ∧ isFenced s.bus r.master r.id = false
    let alone := s.bus.held = [] ∧ s.bus.outst = [(r, none)]
    let idle := s.bus.held = [] ∧ s.bus.outst = []
    let clean := ∀ k, k / 4 = r.addr / 64 → cwErr s.mem k = CwErr.none
    let c := rdN f (at_ 0x50)
    let scrubbed (j : Nat) : CwErr := cwErr s.mem (dramAddr ch c / 16 + j)
    let scrubs := getB f (at_ 0x4C) 0 && live
    ((live = false ∨ d.batch = true) → exec (.dramRead ch) s = .next s) ∧
    (live = true → d.batch = false → nextRead f d = none → exec (.dramRead ch) s = .next { s with mem := dueFirst s.mem ch }) ∧
    (live = true → d.batch = false → d.wq = [] → nextRead f d = some r → r.wdata = none → whole → alone → clean →
      Next (exec (.dramRead ch) s) (fun t => t = { s with fab := t.fab, mem := t.mem, bus := t.bus } ∧ t.bus.outst = [] ∧
        (drcOf t.mem ch).rq = d.rq.erase r ∧ t.mem.dram = s.mem.dram ∧
        t.bus.rsp.getLast? = some ⟨r.master, r.id, r.addr, mgets zeroB s.mem.dram r.addr r.len, false⟩)) ∧
    ((live = false ∨ d.batch = false ∧ d.rq ≠ [] ∨ d.wq = []) → exec (.dramWrite ch) s = .next s) ∧
    (∀ rest, d.wq = r :: rest → wholeReq r = false → exec (.dramWrite ch) s = .next s) ∧
    (live = true → (d.batch = true ∨ d.rq = []) → d.wq = [r] → r.wdata = some (bytes.map (fun b => (b, true))) → r.len = bytes.length →
      whole → alone → clean → getB f (at_ 0x70) 0 = false →
      Next (exec (.dramWrite ch) s) (fun t => t = { s with fab := t.fab, mem := t.mem, bus := t.bus } ∧ (drcOf t.mem ch).wq = [] ∧
        (∀ a, mget zeroB t.mem.dram a = if r.addr ≤ a ∧ a < r.addr + r.len then bytes[a - r.addr]?.getD 0 else mget zeroB s.mem.dram a) ∧
        t.mem.shared = s.mem.shared ∧ t.mem.keep = s.mem.keep ∧ t.bus.outst = [] ∧
        t.bus.rsp.getLast? = some ⟨r.master, r.id, r.addr, [], false⟩)) ∧
    (idle → Next (exec (.writeBatchEnd ch yes) s) (fun t => t = { s with fab := t.fab, mem := t.mem } ∧ t.mem.dram = s.mem.dram ∧
      (drcOf t.mem ch).wq = d.wq ∧ (drcOf t.mem ch).rq = d.rq ∧
      (yes = true → d.batch = true → d.rq ≠ [] → (drcOf t.mem ch).batch = false ∧ (drcOf t.mem ch).readsFirst = true) ∧
      (yes = false → d.batch = true → d.wq.length ≤ getF f (at_ 0x44) 14 8 → d.wq.length < getF f (at_ 0x44) 6 0 →
        (drcOf t.mem ch).batch = false) ∧
      (yes = false → d.batch = true → getF f (at_ 0x44) 14 8 < d.wq.length → (drcOf t.mem ch).batch = true))) ∧
    (live = false → ∀ cmd, cmd = .dramRefresh ch yes ∨ cmd = .dramTempPoll ch hot ovr ∨ cmd = .dramTracking ch ns → exec cmd s = .next s) ∧
    (live = true →
      (yes = true → d.postponed < 4 → (d.rq ≠ [] ∨ d.batch = true) → exec (.dramRefresh ch yes) s =
        .next { s with mem := setDrc s.mem ch { d with postponed := d.postponed + 1 } }) ∧
      ((yes = false ∨ 4 ≤ d.postponed ∨ d.rq = [] ∧ d.batch = false) → exec (.dramRefresh ch yes) s =
        .next { s with mem := setDrc s.mem ch { d with refBank := (d.refBank + d.postponed + 1) % 16, postponed := 0 } }) ∧
      Next (exec (.dramTempPoll ch hot ovr) s) (fun t => t = { s with fab := t.fab } ∧ getB t.fab (at_ 0x48) 6 = (hot || ovr) ∧
        getB t.fab (at_ 0x48) 7 = ovr ∧ ((hot || ovr) ≠ getB f (at_ 0x48) 6 → irq t 4) ∧
        (ovr = true → irq t 5) ∧ Touches [at_ 0x48, at_ 0x10] f t.fab) ∧
      (d.batch = true → exec (.dramTracking ch ns) s = .next { s with mem := setDrc s.mem ch { d with track := some ns } }) ∧
      (d.batch = false → Next (exec (.dramTracking ch ns) s) (fun t =>
        t = { s with fab := t.fab, mem := setDrc s.mem ch { d with track := none } } ∧
        getF t.fab (at_ 0x74) 15 0 = min ns 1000 ∧ Touches [at_ 0x74] f t.fab))) ∧
    (training f ch = false → pageFenced s.bus (pDRC ch) = true → exec (.dramTrainEnd ch yes) s = .next s) ∧
    (training f ch = true → Next (exec (.dramTrainEnd ch yes) s) (fun t => t = { s with fab := t.fab } ∧ drcReady t.fab ch = yes ∧
      ready t.fab (pDRC ch) = (yes || ready f (pDRC ch)) ∧ getB t.fab (at_ 0x0C) 3 = false ∧
      (yes = true → getB t.fab (at_ 0x48) 1 = true ∧ irq t 3) ∧
      (yes = false → getB t.fab (at_ 0x48) 2 = true ∧ irq t 2 ∧ (getB f (at_ 0x0C) 2 = false → rdR t.fab (at_ 0x20) = 0x102#32)))) ∧
    (scrubs = false → exec (.scrubLine ch) s = .next s) ∧
    (scrubs = true → Next (exec (.scrubLine ch) s) (fun t => t = { s with fab := t.fab, mem := t.mem } ∧
      rdN t.fab (at_ 0x50) = (if c + 64 = chanLines then 0 else (c + 64) % 2 ^ 32) ∧
      (c + 64 = chanLines → irq t 6 ∧ rdN t.fab (at_ 0x54) = incSat 32 (rdN f (at_ 0x54)) 1) ∧
      (d.wq = [] → t.mem.dram = s.mem.dram ∧
        (∀ j, j < 4 → cwBad (scrubbed j) = true → t.mem.ecc = s.mem.ecc) ∧
        ((∀ j, j < 4 → cwBad (scrubbed j) = false) → getB f (at_ 0x70) 0 = false →
          ∀ j, j < 4 → cwErr t.mem (dramAddr ch c / 16 + j) = CwErr.none)))) ∧
    (takesWrites f (pDRC ch) = false → exec (.injArm q ch v) s = .next (failOn s (pDRC ch) 1 0x70)) ∧
    (takesWrites f (pDRC ch) = true →
      (fld v 27 24 = 0 → exec (.injArm q ch v) s = .next (failOn s (pDRC ch) 0x0100 0x70)) ∧
      (fld v 27 24 ≠ 0 → Next (exec (.injArm q ch v) s) (fun t => t = { s with fab := t.fab } ∧ Touches [at_ 0x70] f t.fab ∧
        getB t.fab (at_ 0x70) 0 = (bit v 0 || getB f (at_ 0x70) 0) ∧ getF t.fab (at_ 0x70) 13 8 = fld v 13 8 ∧
        getF t.fab (at_ 0x70) 27 16 = fld v 27 16 - fld v 23 23 * 2 ^ 7))) ∧
    exec (.sramPatrol arr word none) s = .next s ∧
    Next (exec (.sramPatrol arr word (some yes)) s) (fun t => t = { s with fab := t.fab } ∧
      getB t.fab (ra pBUS 0x10) (if yes then 0 else 1) = true ∧
      rdN t.fab (ra pBUS (if yes then 0xE0 else 0xE4)) = incSat 32 (rdN f (ra pBUS (if yes then 0xE0 else 0xE4))) 1 ∧
      (yes = false → getB f (ra pBUS 0xE8) 31 = false → getB t.fab (ra pBUS 0xE8) 31 = true ∧ getF t.fab (ra pBUS 0xE8) 28 24 = arr.val ∧
        getF t.fab (ra pBUS 0xE8) 23 0 = word % 2 ^ 24) ∧
      Touches [ra pBUS 0x10, ra pBUS 0xE0, ra pBUS 0xE4, ra pBUS 0xE8] f t.fab)

/-- The bus matrix (R472, R477 to R482, R484 to R486): a request to no target, without a path, or of a fenced ID is refused; one to a DRAM channel
that is not READY is answered at once, a read with zeros; one that is granted enters its channel's queue in order, or is performed at the
shared SRAM and answered; a request that has waited past AGE_LIMIT is aged and counted; a fence that completes leaves none of its
requests and delivers no response for them; with each, a tracking that
waits takes place where no batch runs. -/
def Obligations.BusServesItsMasters : Prop :=
  ∀ (m : Fin 10) (id : Nat) (rt : Bool) (a len : Nat) (w : Option (List (Byte × Bool))) (s : State), isUp s = true →
    let f := s.fab
    let r : BusReq := ⟨m, id, rt, a, len, w, false⟩
    let idle := s.bus.held = [] ∧ s.bus.outst = []
    let send := exec (.busRequest m id rt a len w) s
    let room := 0 < getF f (ra pBUS (0x40 + 8 * m.val)) 14 8
    let only (t : State) : Prop := t = { s with fab := t.fab, mem := t.mem, bus := t.bus }
    let off := a - 0xF000_0000
    let settled (m : MemState) : MemState := (trackGo f (trackGo f m 0).2 1).2
    (idle → targetOf a = none → send = .next s) ∧
    (∀ tgt, targetOf a = some tgt → idle →
      ((pathOk m rt tgt = false ∨ isFenced s.bus m id = true) → send = .next s) ∧
      (pathOk m rt tgt = true → isFenced s.bus m id = false →
        (tgt < 2 → drcReady f tgt = false → Next send (fun t => only t ∧ t.mem = settled s.mem ∧ t.bus.outst = [] ∧
          t.bus.rsp.getLast? = some ⟨m, id, a, if w.isSome then [] else List.replicate len 0, false⟩)) ∧
        (tgt < 2 → drcReady f tgt = true → room → w = none → (drcOf s.mem tgt).rq.length < 64 → Next send (fun t => only t ∧
          t.bus.outst = [(r, none)] ∧ t.bus.held = [] ∧ (drcOf t.mem tgt).rq = (drcOf s.mem tgt).rq ++ [r] ∧ t.mem.dram = s.mem.dram ∧
          drcOf t.mem (1 - tgt) = drcOf (settled s.mem) (1 - tgt))) ∧
        (tgt < 2 → drcReady f tgt = true → room → w.isSome = true → (drcOf s.mem tgt).wq.length < 64 → Next send (fun t => only t ∧
          t.bus.outst = [(r, none)] ∧ t.bus.held = [] ∧ (drcOf t.mem tgt).wq = (drcOf s.mem tgt).wq ++ [r] ∧ t.mem.dram = s.mem.dram ∧
          drcOf t.mem (1 - tgt) = drcOf (settled s.mem) (1 - tgt))) ∧
        (tgt = 2 → room → w = none → Next send (fun t => only t ∧ t.mem = settled s.mem ∧ t.bus.outst = [] ∧ t.bus.held = [] ∧
          t.bus.rsp.getLast? = some ⟨m, id, a, mgets zeroB s.mem.shared off len, false⟩)) ∧
        (∀ d, tgt = 2 → room → w = some d → d.length = len → Next send (fun t => only t ∧ t.bus.outst = [] ∧ t.mem.dram = s.mem.dram ∧
          t.bus.rsp.getLast? = some ⟨m, id, a, [], false⟩ ∧
          ∀ k, mget zeroB t.mem.shared k = if off ≤ k ∧ k < off + len ∧ (d[k - off]?.any (fun e => e.2)) = true
            then (d[k - off]?.elim 0 (fun e => e.1)) else mget zeroB s.mem.shared k)))) ∧
    (idle → Next (exec .requestAged s) (fun t => t = { s with fab := t.fab, mem := settled s.mem } ∧
      ((drcOf s.mem 0).track = none → (drcOf s.mem 1).track = none → t.fab = showBus f s.bus))) ∧
    (∀ (x : BusReq) (ch : Fin 2), s.bus.held = [] → s.bus.outst = [(x, none)] → x.wdata = none → x.aged = false →
      (x.master ≠ 7 ∨ x.rt = false) → targetOf x.addr = some ch.val → drcReady f ch = true → x ∈ (drcOf s.mem ch).rq → Next (exec .requestAged s) (fun t => only t ∧
        t.bus.outst = [({ x with aged := true }, none)] ∧ { x with aged := true } ∈ (drcOf t.mem ch).rq ∧ t.mem.dram = s.mem.dram ∧
        getB t.fab (ra pBUS 0x10) 4 = true ∧ rdN t.fab (ra pBUS 0xD0) = incSat 32 (rdN f (ra pBUS 0xD0)) 1)) ∧
    (s.bus.fences = [] → exec .fenceDone s = .next s) ∧
    (∀ c rest, s.bus.fences = c :: rest → s.bus.held = [] →
      (∀ o, o ∈ s.bus.outst → fenceHas c o.1.master o.1.id = true ∧ (targetOf o.1.addr).any (fun t => decide (t < 2)) = true) →
      Next (exec .fenceDone s) (fun t => only t ∧ t.bus.fences = rest ∧ t.bus.outst = [] ∧ t.bus.rsp = s.bus.rsp ∧
        getB t.fab (ra pBUS 0x10) 3 = true ∧ t.mem.shared = s.mem.shared ∧ (s.bus.outst = [] → t.mem = settled s.mem)))

-- Power, temperature, boost

/-- Wake sources, the governor and boost (R492 to R497, R499 to R502, R504, R505): an enabled source becomes pending in RETAIN or DEEP and while they are entered, and
a pending one wakes: from RETAIN to ACTIVE with its cause and its count, from DEEP through a reset that keeps DRAM and keep SRAM;
an excursion in RETAIN scrubs the kept lines; a conversion shows the sensors and TJ and goes up to the highest level reached, at 4
latching the shutdown; levels are left after 10 s, and SHUT_CLR clears the latch at or below 100 °C; SHED_STAT follows the level and
SHED_FORCE; boost is granted under every condition of R505 and goes with the current limit, the low supply or a lost condition, and
each change of the clock pauses the cores. -/
def Obligations.PowerFollowsWakeHeatAndCurrent : Prop :=
  ∀ (q : Req) (tj : BitVec 16) (x : Straps) (sen : List Int) (est : Nat) (v : Word) (s : State),
    let f := s.fab
    let p := s.pwr
    let entry := opRunning f .ps && (opLast f .ps == 3 || opLast f .ps == 4)
    let takes (n : Nat) : Bool := getB f 0x1064 n && (entry || p.state = .retain || p.state = .deep)
    let note (n : Nat) : PwrState := if takes n then { p with wakePend := p.wakePend ||| BitVec.ofNat 5 (2 ^ n) } else p
    let only (t : State) : Prop := t = { s with fab := t.fab, pwr := t.pwr, cores := t.cores }
    let codes := (upto 8).map (fun i => satS 16 (sen.getD i 0))
    let top := codes.foldl max (codes.headD 0)
    let old := thmLevel f
    let new := levelFor top
    let pause := min 50 Config.freqPause
    let hits := getF f 0x1094 9 0 ≠ 0 ∧ getF f 0x1094 9 0 < est
    let shows (t : State) : Prop := getF t.fab 0x10A4 2 0 = shedNow t.fab
    let unboosts (t : State) : Prop := t.pwr.boost = false ∧ getB t.fab (ra pDSH 0x44) 0 = false ∧ rdN t.fab (ra pDSH 0x48) = 1000 ∧
      rdN t.fab (ra pDSH 0x54) = incSat 32 (rdN f (ra pDSH 0x54)) 1 ∧ getB t.fab (ra pDSH 0x10) 0 = true
    (isHeld s = false →
      exec .wakeNFall s = .next { s with pwr := note 0 } ∧ exec .qsCsNFall s = .next { s with pwr := note 1 } ∧
      (sx 16 (getF f 0x206C 15 0) ≤ tj.toInt → exec (.wakeTempSample tj) s = .next { s with pwr := note 3 }) ∧
      (tj.toInt < sx 16 (getF f 0x206C 15 0) → exec (.wakeTempSample tj) s = .next s) ∧
      (rdN f 0x106C = 0 → exec .aonTimerExpire s = .next s) ∧
      (rdN f 0x106C ≠ 0 → exec .aonTimerExpire s = .next { s with fab := wrN f 0x106C 0, pwr := note 4 }) ∧
      (¬(p.state = .retain ∧ p.wakePend ≠ 0) → exec .wakeRetain s = .next s) ∧
      (p.state = .retain → p.wakePend ≠ 0 → Next (exec .wakeRetain s) (fun t => t.pwr = { p with state := .active, wakePend := 0 } ∧
        rdN t.fab 0x1068 = p.wakePend.toNat ∧ rdN t.fab 0x10B8 = incSat 32 (rdN f 0x10B8) 1 ∧ getB t.fab 0x1010 0 = true ∧
        getF t.fab 0x1060 1 0 = 0 ∧ t.mem.dram = s.mem.dram ∧ t.mem.keep = s.mem.keep ∧ t.mem.shared = [] ∧ t.tap = s.tap ∧
        t.fab.time = f.time ∧ t.fab.bank0 = f.bank0 ∧ t.fab.bank1 = f.bank1 ∧
        ∀ ch : Fin 2, enabled f (pDRC ch) = true → drcReady t.fab ch = true)) ∧
      (¬(p.state = .deep ∧ p.wakePend ≠ 0) → exec (.wakeDeep x) s = .next s) ∧
      (p.state = .deep → p.wakePend ≠ 0 → Next (exec (.wakeDeep x) s) (fun t => t.pwr.state = .active ∧ t.pwr.locked = false ∧
        isHeld t = false ∧ t.pwr.wakePend = 0 ∧ rdN t.fab 0x4C = Nat.lor (rdN f 0x4C) 16 ∧ rdN t.fab 0x1068 = p.wakePend.toNat ∧
        t.mem.dram = s.mem.dram ∧ t.mem.ecc = s.mem.ecc ∧ t.mem.keep = s.mem.keep ∧ t.mem.shared = [] ∧ t.tap = s.tap ∧
        rdN t.fab 0x58 = x.hostSel.toNat + x.stkRole.val * 2 + x.triPos.val * 8 + p.iobank.toNat * 32)) ∧
      (p.state ≠ .retain → exec .retainScrubExcursion s = .next s) ∧
      (p.state = .retain → Next (exec .retainScrubExcursion s) (fun t => t = { s with fab := t.fab, mem := t.mem } ∧ t.mem.dram = s.mem.dram ∧
        t.mem.keep = s.mem.keep ∧ ∀ l, l ∈ keptLines f → ∀ i j, i < 4 → j < 4 →
          (cwBad (cwErr s.mem (l / 16 + i)) = true → cwErr t.mem (l / 16 + j) = cwErr s.mem (l / 16 + j)) ∧
          ((∀ n, n < 4 → cwBad (cwErr s.mem (l / 16 + n)) = false) → getB f (drcAt (dramChan l) 0x70) 0 = false →
            cwErr t.mem (l / 16 + j) = CwErr.none)))) ∧
    (isUp s = true →
      Next (exec (.thermalSample sen) s) (fun t => only t ∧ rdN t.fab 0x2040 = ux 16 top ∧ thmLevel t.fab = max old new ∧
        (∀ i, i < 8 → rdN t.fab (0x2048 + 4 * i) = ux 16 (codes.getD i 0)) ∧
        (sx 16 (getF f 0x2044 15 0) < top → rdN t.fab 0x2044 = ux 16 top) ∧ (top ≤ sx 16 (getF f 0x2044 15 0) → rdR t.fab 0x2044 = rdR f 0x2044) ∧
        (sx 16 (getF f 0x2068 15 0) ≤ top → getB t.fab 0x2010 1 = true) ∧ (old < new → getB t.fab 0x2010 0 = true) ∧ shows t ∧
        (old < 4 → new = 4 → shutLatch t.fab = true ∧ getB t.fab 0x2010 2 = true ∧ t.pwr.shutFrom.isSome = true ∧ startPending t.fab = false) ∧
        getB t.fab 0x2074 9 = alertNow t.fab ∧
        t.pwr.relMs = [relStep top 1 (p.relMs.getD 0 none), relStep top 2 (p.relMs.getD 1 none), relStep top 3 (p.relMs.getD 2 none)]) ∧
      Next (exec .thermalRelease s) (fun t => only t ∧ thmLevel t.fab = levelAfter p old ∧ levelAfter p old ≤ old ∧ shows t ∧
        (levelAfter p old ≠ old → getB t.fab 0x2010 0 = true) ∧ t.pwr.relMs = p.relMs ∧ shutLatch t.fab = shutLatch f) ∧
      (takesWrites f pTHM = false → exec (.shutClr q) s = .next (failOn s pTHM 1 0x78)) ∧
      (takesWrites f pTHM = true → 800 < tjOf f → exec (.shutClr q) s = .next (failOn s pTHM 0x0100 0x78)) ∧
      (takesWrites f pTHM = true → tjOf f ≤ 800 → shutLatch f = false → exec (.shutClr q) s = .next s) ∧
      (takesWrites f pTHM = true → tjOf f ≤ 800 → shutLatch f = true → Next (exec (.shutClr q) s) (fun t => only t ∧
        shutLatch t.fab = false ∧ thmLevel t.fab = levelAfter p 3 ∧ shows t)) ∧
      (takesWrites f pPWR = false → exec (.shedForceWrite q v) s = .next (failOn s pPWR 1 0xA0)) ∧
      (takesWrites f pPWR = true → Next (exec (.shedForceWrite q v) s) (fun t => only t ∧ rdR t.fab 0x10A0 = v &&& 7 ∧ shows t ∧
        (∀ k, k < 3 → bit v k = true → getB t.fab 0x10A4 k = true) ∧
        (shedNow t.fab ≠ getF f 0x10A4 2 0 → getB t.fab 0x1010 4 = true ∧ getB t.fab (ra pOBS 0x54) 1 = getB t.fab 0x10A4 1))) ∧
      Next (exec (.currentLimit est) s) (fun t => t = { s with fab := t.fab, pwr := t.pwr } ∧ getF t.fab 0x1098 9 0 = min 1023 est ∧
        (hits → p.boost = true → t.pwr = { p with boost := false, holdoff := true, freqWait := pause } ∧ unboosts t) ∧
        (hits → p.boost = false → t.pwr = { p with holdoff := true } ∧ Touches [0x1098] f t.fab) ∧
        (¬hits → t.pwr = p ∧ Touches [0x1098] f t.fab)) ∧
      (p.boost = false → exec .vddDsLow s = .next s) ∧
      (p.boost = true → Next (exec .vddDsLow s) (fun t => t = { s with fab := t.fab, pwr := { p with boost := false, freqWait := pause } } ∧ unboosts t ∧
        getB t.fab 0x1010 3 = true)) ∧
      exec .boostHoldoffEnd s = .next { s with pwr := { p with holdoff := false } }) ∧
    ((isActive s && !p.boost && boostOk f p) = false → exec .boostGrant s = .next s) ∧
    ((isActive s && !p.boost && boostOk f p) = true → Next (exec .boostGrant s) (fun t =>
      t = { s with fab := t.fab, pwr := { p with boost := true, freqWait := pause } } ∧ getB t.fab (ra pDSH 0x44) 0 = true ∧ getB t.fab (ra pDSH 0x44) 1 = false ∧
      rdN t.fab (ra pDSH 0x48) = 1200 ∧ getB t.fab (ra pDSH 0x10) 1 = true ∧
      Touches [ra pDSH 0x44, ra pDSH 0x48, ra pDSH 0x10] f t.fab))

-- Observation

/-- The collector, marks, counters and meters (R515 to R517, R519, R521, R522): serving a page moves its oldest crumb to the FIFO and the FIFO's head
to the ring, and while the trace writer is shed the FIFO alone fills; a LOST crumb is queued where crumbs were lost and its queue has
room; a partial line is written at its time-out and the index passes over its crumbs; MARK_HI queues a crumb of both words; SNAP
copies the counters and clears them where asked; the meters take the busy fractions and keep the peaks, AON reading 0; a read of
OC_DATA latches the whole crumb. -/
def Obligations.ObservationCollectsAndCounts : Prop :=
  ∀ (q : Req) (pg : Fin 1024) (v : Word) (busy : List Nat) (s : State), isUp s = true →
    let f := s.fab
    let obs (o : Nat) : Nat := ra pOBS o
    let shed := getB f (obs 0x54) 1
    let src := crumbsOf f pg
    let only (t : State) : Prop := t = { s with fab := t.fab, mem := t.mem }
    let lost := mget zeroN f.lost pg
    let i := ringNext f
    let mark := mkCrumb f (srcCode pOBS) 0x30 q.code (v.toNat * 2 ^ 32 + (rdO f q.code (obs 0x80)).toNat)
    (src = [] → f.fifo = [] → exec (.crumbWrite pg) s = .next { s with fab := showFifo f }) ∧
    (∀ c l, src = c :: l →
      ((shed || ringFull f) = true → f.fifo.length < 256 → Next (exec (.crumbWrite pg) s) (fun t => only t ∧ t.mem = s.mem ∧
        t.fab.fifo = f.fifo ++ [c] ∧ crumbsOf t.fab pg = l ∧ t.fab.ring = f.ring ∧
        getF t.fab (obs 0x54) 15 8 = min 255 (f.fifo.length + 1))) ∧
      ((shed || ringFull f) = true → 256 ≤ f.fifo.length → Next (exec (.crumbWrite pg) s) (fun t => only t ∧ t.fab.fifo = f.fifo ∧
        crumbsOf t.fab pg = src)) ∧
      ((shed || ringFull f) = false → f.fifo = [] → f.ringLine = [] → getB f (obs 0x40) 0 = false → Next (exec (.crumbWrite pg) s) (fun t =>
        only t ∧ t.mem = s.mem ∧ t.fab.fifo = [] ∧ (pg.val ≠ pOBS → crumbsOf t.fab pg = l) ∧ mget (fun _ => 0) t.fab.ring i = c ∧
        (∀ j, j ≠ i → mget (fun _ => 0) t.fab.ring j = mget (fun _ => 0) f.ring j) ∧
        getF t.fab (obs 0x4C) 23 0 = (getF f (obs 0x4C) 23 0 + 1) % 4096))) ∧
    ((shed = true ∨ enabled f pOBS = false ∨ lost = 0 ∨ 4 ≤ src.length) → exec (.lostCrumb pg) s = .next s) ∧
    (shed = false → enabled f pOBS = true → lost ≠ 0 → src.length < 4 → Next (exec (.lostCrumb pg) s) (fun t => t = { s with fab := t.fab } ∧
      crumbsOf t.fab pg = src ++ [mkCrumb f 0x70 0x3F (srcCode pg) lost] ∧ mget zeroN t.fab.lost pg = 0 ∧
      (∀ o, o ≠ pg.val → crumbsOf t.fab o = crumbsOf f o ∧ mget zeroN t.fab.lost o = mget zeroN f.lost o) ∧
      ∀ a, rdR t.fab a = rdR f a)) ∧
    ((shed = true ∨ f.ringLine = []) → exec .partialLineTimeout s = .next s) ∧
    (∀ e l, shed = false → f.ringLine = e :: l → Next (exec .partialLineTimeout s) (fun t => only t ∧ t.fab.ringLine = [] ∧
      getF t.fab (obs 0x4C) 23 0 = (getF f (obs 0x4C) 23 0 + (l.length + 1)) % ringN f % 2 ^ 24 ∧
      t.mem = (dramWrite { f with ringLine := [] } s.mem 8 (rdN f (obs 0x44) + 16 * e.1)
        ((e :: l).flatMap (fun c => leBytes 16 c.2.toNat))).2)) ∧
    (takesWrites f pOBS = false → exec (.markHi q v) s = .next (failOn s pOBS 1 0x84) ∧
      exec (.cntSnap q v) s = .next (failOn s pOBS 1 0xC0)) ∧
    (takesWrites f pOBS = true →
      (enabled f pOBS = false → Next (exec (.markHi q v) s) (fun t => t = { s with fab := t.fab } ∧ t.fab.crumbQ = f.crumbQ ∧
        ∀ a, rdR t.fab a = rdR f a)) ∧
      (enabled f pOBS = true → shed = false → f.fifo.length < 256 → (crumbsOf f pOBS).length < 4 → mget zeroN f.lost pOBS = 0 →
        Next (exec (.markHi q v) s) (fun t => t = { s with fab := t.fab } ∧ crumbsOf t.fab pOBS = crumbsOf f pOBS ++ [mark] ∧
          ∀ a, rdR t.fab a = rdR f a)) ∧
      Next (exec (.cntSnap q v) s) (fun t => t = { s with fab := t.fab } ∧ rdR t.fab (obs 0xC0) = v &&& 2 ∧ Touches [obs 0xC0]
          { f with cntShadow := t.fab.cntShadow } t.fab ∧
        (bit v 0 = true → t.fab.cntShadow = f.cnt ∧ t.fab.cnt = if bit v 1 then [] else f.cnt) ∧
        (bit v 0 = false → t.fab.cntShadow = f.cntShadow ∧ t.fab.cnt = f.cnt))) ∧
    Next (exec (.loadMeterUpdate busy) s) (fun t => t = { s with fab := t.fab } ∧
      (∀ k, k < 9 → getF t.fab (obs (0x100 + 4 * k)) 15 0 = (if k = 0 then 0 else min 65535 (busy.getD k 0)) ∧
        getF t.fab (obs (0x100 + 4 * k)) 31 16 = max (if k = 0 then 0 else min 65535 (busy.getD k 0)) (getF f (obs (0x100 + 4 * k)) 31 16)) ∧
      ∀ a, (∀ k, k < 9 → a ≠ obs (0x100 + 4 * k)) → rdR t.fab a = rdR f a) ∧
    Next (exec (.ocDataRead q) s) (fun t => t = { s with fab := t.fab } ∧ mget zeroN t.fab.rdata q.code = (ocWord f 0).toNat ∧
      held t.fab q.code = [(obs 0xA8, ocWord f 1), (obs 0xAC, ocWord f 2), (obs 0xB0, ocWord f 3)] ∧ ∀ a, rdR t.fab a = rdR f a)
end

