-- ==== Sys2Proof/Laws/Bits.lean ====
section
/-! SUPPORT. Laws of the bit fields: a field or a bit read after a field or a bit is set. -/
namespace Sys2Proof.Machine

theorem bit_eq (w : Word) (n : Nat) : bit w n = w.getLsbD n := rfl

/-- The number a word holds after a field is set: what lies above, the field, what lies below. -/
theorem setFld_nat (w : Word) (hi lo v : Nat) (h : lo ≤ hi) (hh : hi < 32) :
    (setFld w hi lo v).toNat =
      w.toNat / 2 ^ (hi + 1) * 2 ^ (hi + 1) + (v % 2 ^ (hi + 1 - lo) * 2 ^ lo + w.toNat % 2 ^ lo) := by
  have e : 2 ^ (hi + 1) = 2 ^ (hi + 1 - lo) * 2 ^ lo := by rw [← pow_add]; congr 1; omega
  have hw : w.toNat < 2 ^ 32 := w.isLt
  have e32 : 2 ^ 32 = 2 ^ (32 - (hi + 1)) * 2 ^ (hi + 1) := by rw [← pow_add]; congr 1; omega
  set p := 2 ^ lo with hp
  set m := 2 ^ (hi + 1 - lo) with hm
  have hp0 : 0 < p := by positivity
  have hm0 : 0 < m := by positivity
  have hv : v % m < m := Nat.mod_lt _ hm0
  have hx : w.toNat % p < p := Nat.mod_lt _ hp0
  have d1 : w.toNat = w.toNat / p * p + w.toNat % p := (Nat.div_add_mod' _ _).symm
  have d2 : w.toNat / p = w.toNat / p / m * m + w.toNat / p % m := (Nat.div_add_mod' _ _).symm
  have d3 : w.toNat / p / m = w.toNat / 2 ^ (hi + 1) := by rw [Nat.div_div_eq_div_mul, e, Nat.mul_comm]
  have hf : fld w hi lo = w.toNat / p % m := by simp [fld, Nat.shiftRight_eq_div_pow, hp, hm]
  have hlow : v % m * p + w.toNat % p < m * p := by nlinarith
  have hq : w.toNat / 2 ^ (hi + 1) < 2 ^ (32 - (hi + 1)) := by
    rw [Nat.div_lt_iff_lt_mul (by positivity), ← e32]; exact hw
  have htot : w.toNat / 2 ^ (hi + 1) * 2 ^ (hi + 1) + (v % m * p + w.toNat % p) < 2 ^ 32 := by
    rw [e32]
    have : (w.toNat / 2 ^ (hi + 1) + 1) * 2 ^ (hi + 1) ≤ 2 ^ (32 - (hi + 1)) * 2 ^ (hi + 1) := Nat.mul_le_mul_right _ hq
    rw [e] at this ⊢
    nlinarith
  have key : w.toNat - (w.toNat / p % m) * p + v % m * p
      = w.toNat / 2 ^ (hi + 1) * 2 ^ (hi + 1) + (v % m * p + w.toNat % p) := by
    have : w.toNat = w.toNat / 2 ^ (hi + 1) * 2 ^ (hi + 1) + (w.toNat / p % m) * p + w.toNat % p := by
      conv_lhs => rw [d1, d2, d3]
      rw [e]; ring
    omega
  unfold setFld
  rw [hf, Nat.shiftLeft_eq, Nat.shiftLeft_eq, ← hp, ← hm, key, BitVec.toNat_ofNat, Nat.mod_eq_of_lt htot]

/-- A bit after a field is set. -/
theorem bit_setFld (w : Word) (hi lo v n : Nat) (h : lo ≤ hi) (hh : hi < 32) :
    bit (setFld w hi lo v) n = if lo ≤ n ∧ n ≤ hi then v.testBit (n - lo) else bit w n := by
  have e : 2 ^ (hi + 1) = 2 ^ lo * 2 ^ (hi + 1 - lo) := by rw [← pow_add]; congr 1; omega
  have hx : w.toNat % 2 ^ lo < 2 ^ lo := Nat.mod_lt _ (by positivity)
  have hv : v % 2 ^ (hi + 1 - lo) < 2 ^ (hi + 1 - lo) := Nat.mod_lt _ (by positivity)
  have hlow : v % 2 ^ (hi + 1 - lo) * 2 ^ lo + w.toNat % 2 ^ lo < 2 ^ (hi + 1) := by
    have := Nat.mul_le_mul_right (2 ^ lo) hv
    rw [e, Nat.mul_comm (2 ^ lo) (2 ^ (hi + 1 - lo))]
    rw [Nat.succ_mul] at this
    omega
  unfold bit
  rw [setFld_nat w hi lo v h hh, Nat.mul_comm (w.toNat / 2 ^ (hi + 1)), Nat.testBit_two_pow_mul_add _ hlow,
    Nat.mul_comm (v % _) (2 ^ lo), Nat.testBit_two_pow_mul_add _ hx]
  by_cases h1 : n < hi + 1
  · by_cases h2 : n < lo
    · have : ¬lo ≤ n := by omega
      simp [h1, h2, this, Nat.testBit_mod_two_pow]
    · have h3 : lo ≤ n := by omega
      have h4 : n ≤ hi := by omega
      have h5 : n - lo < hi + 1 - lo := by omega
      simp [h1, h2, h3, h4, h5, Nat.testBit_mod_two_pow]
  · have h4 : ¬n ≤ hi := by omega
    simp only [h1, h4, if_false, and_false]
    rw [Nat.testBit_div_two_pow]; congr 1; omega

/-- A bit after a bit is set. -/
theorem bit_setBit (w : Word) (k n : Nat) (b : Bool) (hk : k < 32) :
    bit (setBit w k b) n = if n = k then b else bit w n := by
  unfold setBit
  rw [bit_setFld w k k _ n le_rfl hk]
  by_cases h : n = k
  · subst h; cases b <;> simp
  · have : ¬(k ≤ n ∧ n ≤ k) := by omega
    simp [h, this]

/-- The bits of a field. -/
theorem testBit_fld (w : Word) (hi lo n : Nat) : (fld w hi lo).testBit n = (decide (n < hi + 1 - lo) && bit w (lo + n)) := by
  simp [fld, bit, Nat.testBit_mod_two_pow, Nat.testBit_shiftRight]

/-- A field after it is set. -/
theorem fld_setFld (w : Word) (hi lo v : Nat) (h : lo ≤ hi) (hh : hi < 32) :
    fld (setFld w hi lo v) hi lo = v % 2 ^ (hi + 1 - lo) := by
  apply Nat.eq_of_testBit_eq
  intro n
  rw [testBit_fld, bit_setFld w hi lo v _ h hh, Nat.testBit_mod_two_pow]
  by_cases hn : n < hi + 1 - lo
  · have h1 : lo ≤ lo + n ∧ lo + n ≤ hi := by omega
    simp [hn, h1.2]
  · simp [hn]

/-- A field after another field, apart from it, is set. -/
theorem fld_setFld_ne (w : Word) (hi lo hi' lo' v : Nat) (h : lo ≤ hi) (hh : hi < 32) (hd : hi' < lo ∨ hi < lo') :
    fld (setFld w hi lo v) hi' lo' = fld w hi' lo' := by
  apply Nat.eq_of_testBit_eq
  intro n
  rw [testBit_fld, testBit_fld, bit_setFld w hi lo v _ h hh]
  by_cases hn : n < hi' + 1 - lo'
  · have h1 : ¬(lo ≤ lo' + n ∧ lo' + n ≤ hi) := by omega
    simp [hn, h1]
  · simp [hn]

/-- A field after a bit apart from it is set. -/
theorem fld_setBit_ne (w : Word) (k hi lo : Nat) (b : Bool) (hk : k < 32) (hd : hi < k ∨ k < lo) :
    fld (setBit w k b) hi lo = fld w hi lo := fld_setFld_ne w k k hi lo _ le_rfl hk hd

/-- Two words with the same bits are equal. -/
theorem word_ext (a b : Word) (h : ∀ n, n < 32 → bit a n = bit b n) : a = b :=
  BitVec.eq_of_getLsbD_eq (fun i hi => h i hi)

theorem bit_and (a b : Word) (n : Nat) : bit (a &&& b) n = (bit a n && bit b n) := by simp [bit_eq]
theorem bit_or (a b : Word) (n : Nat) : bit (a ||| b) n = (bit a n || bit b n) := by simp [bit_eq]
theorem bit_high (w : Word) (n : Nat) (h : 32 ≤ n) : bit w n = false := by simp [bit_eq, BitVec.getLsbD_of_ge _ _ h]

theorem fld_lt (w : Word) (hi lo : Nat) : fld w hi lo < 2 ^ (hi + 1 - lo) := Nat.mod_lt _ (by positivity)

end Sys2Proof.Machine
end

