-- ==== Sys2Proof/Laws/FabricFields.lean ====
section
/-! SUPPORT. What the fabric's named writes leave of each field of the fabric, one lemma for each field and write. -/
namespace Sys2Proof.Machine

@[simp] theorem wrR_bank0 (f : Fabric) (a : Nat) (w : Word) : (wrR f a w).bank0 = f.bank0 := rfl
@[simp] theorem wrR_bank1 (f : Fabric) (a : Nat) (w : Word) : (wrR f a w).bank1 = f.bank1 := rfl
@[simp] theorem wrR_own (f : Fabric) (a : Nat) (w : Word) : (wrR f a w).own = f.own := rfl
@[simp] theorem wrR_hold (f : Fabric) (a : Nat) (w : Word) : (wrR f a w).hold = f.hold := rfl
@[simp] theorem wrR_rdata (f : Fabric) (a : Nat) (w : Word) : (wrR f a w).rdata = f.rdata := rfl
@[simp] theorem wrR_armed (f : Fabric) (a : Nat) (w : Word) : (wrR f a w).armed = f.armed := rfl
@[simp] theorem wrR_msgs (f : Fabric) (a : Nat) (w : Word) : (wrR f a w).msgs = f.msgs := rfl
@[simp] theorem wrR_late (f : Fabric) (a : Nat) (w : Word) : (wrR f a w).late = f.late := rfl
@[simp] theorem wrR_rstWait (f : Fabric) (a : Nat) (w : Word) : (wrR f a w).rstWait = f.rstWait := rfl
@[simp] theorem wrR_time (f : Fabric) (a : Nat) (w : Word) : (wrR f a w).time = f.time := rfl
@[simp] theorem wrR_msc (f : Fabric) (a : Nat) (w : Word) : (wrR f a w).msc = f.msc := rfl
@[simp] theorem wrR_crumbQ (f : Fabric) (a : Nat) (w : Word) : (wrR f a w).crumbQ = f.crumbQ := rfl
@[simp] theorem wrR_fifo (f : Fabric) (a : Nat) (w : Word) : (wrR f a w).fifo = f.fifo := rfl
@[simp] theorem wrR_lost (f : Fabric) (a : Nat) (w : Word) : (wrR f a w).lost = f.lost := rfl
@[simp] theorem wrR_cnt (f : Fabric) (a : Nat) (w : Word) : (wrR f a w).cnt = f.cnt := rfl
@[simp] theorem wrR_cntShadow (f : Fabric) (a : Nat) (w : Word) : (wrR f a w).cntShadow = f.cntShadow := rfl
@[simp] theorem wrR_ring (f : Fabric) (a : Nat) (w : Word) : (wrR f a w).ring = f.ring := rfl
@[simp] theorem wrR_ringLine (f : Fabric) (a : Nat) (w : Word) : (wrR f a w).ringLine = f.ringLine := rfl
@[simp] theorem wrN_bank0 (f : Fabric) (a v : Nat) : (wrN f a v).bank0 = f.bank0 := rfl
@[simp] theorem wrN_bank1 (f : Fabric) (a v : Nat) : (wrN f a v).bank1 = f.bank1 := rfl
@[simp] theorem wrN_own (f : Fabric) (a v : Nat) : (wrN f a v).own = f.own := rfl
@[simp] theorem wrN_hold (f : Fabric) (a v : Nat) : (wrN f a v).hold = f.hold := rfl
@[simp] theorem wrN_rdata (f : Fabric) (a v : Nat) : (wrN f a v).rdata = f.rdata := rfl
@[simp] theorem wrN_armed (f : Fabric) (a v : Nat) : (wrN f a v).armed = f.armed := rfl
@[simp] theorem wrN_msgs (f : Fabric) (a v : Nat) : (wrN f a v).msgs = f.msgs := rfl
@[simp] theorem wrN_late (f : Fabric) (a v : Nat) : (wrN f a v).late = f.late := rfl
@[simp] theorem wrN_rstWait (f : Fabric) (a v : Nat) : (wrN f a v).rstWait = f.rstWait := rfl
@[simp] theorem wrN_time (f : Fabric) (a v : Nat) : (wrN f a v).time = f.time := rfl
@[simp] theorem wrN_msc (f : Fabric) (a v : Nat) : (wrN f a v).msc = f.msc := rfl
@[simp] theorem wrN_crumbQ (f : Fabric) (a v : Nat) : (wrN f a v).crumbQ = f.crumbQ := rfl
@[simp] theorem wrN_fifo (f : Fabric) (a v : Nat) : (wrN f a v).fifo = f.fifo := rfl
@[simp] theorem wrN_lost (f : Fabric) (a v : Nat) : (wrN f a v).lost = f.lost := rfl
@[simp] theorem wrN_cnt (f : Fabric) (a v : Nat) : (wrN f a v).cnt = f.cnt := rfl
@[simp] theorem wrN_cntShadow (f : Fabric) (a v : Nat) : (wrN f a v).cntShadow = f.cntShadow := rfl
@[simp] theorem wrN_ring (f : Fabric) (a v : Nat) : (wrN f a v).ring = f.ring := rfl
@[simp] theorem wrN_ringLine (f : Fabric) (a v : Nat) : (wrN f a v).ringLine = f.ringLine := rfl
@[simp] theorem putF_bank0 (f : Fabric) (a hi lo v : Nat) : (putF f a hi lo v).bank0 = f.bank0 := rfl
@[simp] theorem putF_bank1 (f : Fabric) (a hi lo v : Nat) : (putF f a hi lo v).bank1 = f.bank1 := rfl
@[simp] theorem putF_own (f : Fabric) (a hi lo v : Nat) : (putF f a hi lo v).own = f.own := rfl
@[simp] theorem putF_hold (f : Fabric) (a hi lo v : Nat) : (putF f a hi lo v).hold = f.hold := rfl
@[simp] theorem putF_rdata (f : Fabric) (a hi lo v : Nat) : (putF f a hi lo v).rdata = f.rdata := rfl
@[simp] theorem putF_armed (f : Fabric) (a hi lo v : Nat) : (putF f a hi lo v).armed = f.armed := rfl
@[simp] theorem putF_msgs (f : Fabric) (a hi lo v : Nat) : (putF f a hi lo v).msgs = f.msgs := rfl
@[simp] theorem putF_late (f : Fabric) (a hi lo v : Nat) : (putF f a hi lo v).late = f.late := rfl
@[simp] theorem putF_rstWait (f : Fabric) (a hi lo v : Nat) : (putF f a hi lo v).rstWait = f.rstWait := rfl
@[simp] theorem putF_time (f : Fabric) (a hi lo v : Nat) : (putF f a hi lo v).time = f.time := rfl
@[simp] theorem putF_msc (f : Fabric) (a hi lo v : Nat) : (putF f a hi lo v).msc = f.msc := rfl
@[simp] theorem putF_crumbQ (f : Fabric) (a hi lo v : Nat) : (putF f a hi lo v).crumbQ = f.crumbQ := rfl
@[simp] theorem putF_fifo (f : Fabric) (a hi lo v : Nat) : (putF f a hi lo v).fifo = f.fifo := rfl
@[simp] theorem putF_lost (f : Fabric) (a hi lo v : Nat) : (putF f a hi lo v).lost = f.lost := rfl
@[simp] theorem putF_cnt (f : Fabric) (a hi lo v : Nat) : (putF f a hi lo v).cnt = f.cnt := rfl
@[simp] theorem putF_cntShadow (f : Fabric) (a hi lo v : Nat) : (putF f a hi lo v).cntShadow = f.cntShadow := rfl
@[simp] theorem putF_ring (f : Fabric) (a hi lo v : Nat) : (putF f a hi lo v).ring = f.ring := rfl
@[simp] theorem putF_ringLine (f : Fabric) (a hi lo v : Nat) : (putF f a hi lo v).ringLine = f.ringLine := rfl
@[simp] theorem putB_bank0 (f : Fabric) (a n : Nat) (b : Bool) : (putB f a n b).bank0 = f.bank0 := rfl
@[simp] theorem putB_bank1 (f : Fabric) (a n : Nat) (b : Bool) : (putB f a n b).bank1 = f.bank1 := rfl
@[simp] theorem putB_own (f : Fabric) (a n : Nat) (b : Bool) : (putB f a n b).own = f.own := rfl
@[simp] theorem putB_hold (f : Fabric) (a n : Nat) (b : Bool) : (putB f a n b).hold = f.hold := rfl
@[simp] theorem putB_rdata (f : Fabric) (a n : Nat) (b : Bool) : (putB f a n b).rdata = f.rdata := rfl
@[simp] theorem putB_armed (f : Fabric) (a n : Nat) (b : Bool) : (putB f a n b).armed = f.armed := rfl
@[simp] theorem putB_msgs (f : Fabric) (a n : Nat) (b : Bool) : (putB f a n b).msgs = f.msgs := rfl
@[simp] theorem putB_late (f : Fabric) (a n : Nat) (b : Bool) : (putB f a n b).late = f.late := rfl
@[simp] theorem putB_rstWait (f : Fabric) (a n : Nat) (b : Bool) : (putB f a n b).rstWait = f.rstWait := rfl
@[simp] theorem putB_time (f : Fabric) (a n : Nat) (b : Bool) : (putB f a n b).time = f.time := rfl
@[simp] theorem putB_msc (f : Fabric) (a n : Nat) (b : Bool) : (putB f a n b).msc = f.msc := rfl
@[simp] theorem putB_crumbQ (f : Fabric) (a n : Nat) (b : Bool) : (putB f a n b).crumbQ = f.crumbQ := rfl
@[simp] theorem putB_fifo (f : Fabric) (a n : Nat) (b : Bool) : (putB f a n b).fifo = f.fifo := rfl
@[simp] theorem putB_lost (f : Fabric) (a n : Nat) (b : Bool) : (putB f a n b).lost = f.lost := rfl
@[simp] theorem putB_cnt (f : Fabric) (a n : Nat) (b : Bool) : (putB f a n b).cnt = f.cnt := rfl
@[simp] theorem putB_cntShadow (f : Fabric) (a n : Nat) (b : Bool) : (putB f a n b).cntShadow = f.cntShadow := rfl
@[simp] theorem putB_ring (f : Fabric) (a n : Nat) (b : Bool) : (putB f a n b).ring = f.ring := rfl
@[simp] theorem putB_ringLine (f : Fabric) (a n : Nat) (b : Bool) : (putB f a n b).ringLine = f.ringLine := rfl
@[simp] theorem bump_bank0 (f : Fabric) (a n : Nat) : (bump f a n).bank0 = f.bank0 := rfl
@[simp] theorem bump_bank1 (f : Fabric) (a n : Nat) : (bump f a n).bank1 = f.bank1 := rfl
@[simp] theorem bump_own (f : Fabric) (a n : Nat) : (bump f a n).own = f.own := rfl
@[simp] theorem bump_hold (f : Fabric) (a n : Nat) : (bump f a n).hold = f.hold := rfl
@[simp] theorem bump_rdata (f : Fabric) (a n : Nat) : (bump f a n).rdata = f.rdata := rfl
@[simp] theorem bump_armed (f : Fabric) (a n : Nat) : (bump f a n).armed = f.armed := rfl
@[simp] theorem bump_msgs (f : Fabric) (a n : Nat) : (bump f a n).msgs = f.msgs := rfl
@[simp] theorem bump_late (f : Fabric) (a n : Nat) : (bump f a n).late = f.late := rfl
@[simp] theorem bump_rstWait (f : Fabric) (a n : Nat) : (bump f a n).rstWait = f.rstWait := rfl
@[simp] theorem bump_time (f : Fabric) (a n : Nat) : (bump f a n).time = f.time := rfl
@[simp] theorem bump_msc (f : Fabric) (a n : Nat) : (bump f a n).msc = f.msc := rfl
@[simp] theorem bump_crumbQ (f : Fabric) (a n : Nat) : (bump f a n).crumbQ = f.crumbQ := rfl
@[simp] theorem bump_fifo (f : Fabric) (a n : Nat) : (bump f a n).fifo = f.fifo := rfl
@[simp] theorem bump_lost (f : Fabric) (a n : Nat) : (bump f a n).lost = f.lost := rfl
@[simp] theorem bump_cnt (f : Fabric) (a n : Nat) : (bump f a n).cnt = f.cnt := rfl
@[simp] theorem bump_cntShadow (f : Fabric) (a n : Nat) : (bump f a n).cntShadow = f.cntShadow := rfl
@[simp] theorem bump_ring (f : Fabric) (a n : Nat) : (bump f a n).ring = f.ring := rfl
@[simp] theorem bump_ringLine (f : Fabric) (a n : Nat) : (bump f a n).ringLine = f.ringLine := rfl
@[simp] theorem bumpF_bank0 (f : Fabric) (a hi lo n : Nat) : (bumpF f a hi lo n).bank0 = f.bank0 := rfl
@[simp] theorem bumpF_bank1 (f : Fabric) (a hi lo n : Nat) : (bumpF f a hi lo n).bank1 = f.bank1 := rfl
@[simp] theorem bumpF_own (f : Fabric) (a hi lo n : Nat) : (bumpF f a hi lo n).own = f.own := rfl
@[simp] theorem bumpF_hold (f : Fabric) (a hi lo n : Nat) : (bumpF f a hi lo n).hold = f.hold := rfl
@[simp] theorem bumpF_rdata (f : Fabric) (a hi lo n : Nat) : (bumpF f a hi lo n).rdata = f.rdata := rfl
@[simp] theorem bumpF_armed (f : Fabric) (a hi lo n : Nat) : (bumpF f a hi lo n).armed = f.armed := rfl
@[simp] theorem bumpF_msgs (f : Fabric) (a hi lo n : Nat) : (bumpF f a hi lo n).msgs = f.msgs := rfl
@[simp] theorem bumpF_late (f : Fabric) (a hi lo n : Nat) : (bumpF f a hi lo n).late = f.late := rfl
@[simp] theorem bumpF_rstWait (f : Fabric) (a hi lo n : Nat) : (bumpF f a hi lo n).rstWait = f.rstWait := rfl
@[simp] theorem bumpF_time (f : Fabric) (a hi lo n : Nat) : (bumpF f a hi lo n).time = f.time := rfl
@[simp] theorem bumpF_msc (f : Fabric) (a hi lo n : Nat) : (bumpF f a hi lo n).msc = f.msc := rfl
@[simp] theorem bumpF_crumbQ (f : Fabric) (a hi lo n : Nat) : (bumpF f a hi lo n).crumbQ = f.crumbQ := rfl
@[simp] theorem bumpF_fifo (f : Fabric) (a hi lo n : Nat) : (bumpF f a hi lo n).fifo = f.fifo := rfl
@[simp] theorem bumpF_lost (f : Fabric) (a hi lo n : Nat) : (bumpF f a hi lo n).lost = f.lost := rfl
@[simp] theorem bumpF_cnt (f : Fabric) (a hi lo n : Nat) : (bumpF f a hi lo n).cnt = f.cnt := rfl
@[simp] theorem bumpF_cntShadow (f : Fabric) (a hi lo n : Nat) : (bumpF f a hi lo n).cntShadow = f.cntShadow := rfl
@[simp] theorem bumpF_ring (f : Fabric) (a hi lo n : Nat) : (bumpF f a hi lo n).ring = f.ring := rfl
@[simp] theorem bumpF_ringLine (f : Fabric) (a hi lo n : Nat) : (bumpF f a hi lo n).ringLine = f.ringLine := rfl
@[simp] theorem bumpW_bank0 (f : Fabric) (a n : Nat) : (bumpW f a n).bank0 = f.bank0 := rfl
@[simp] theorem bumpW_bank1 (f : Fabric) (a n : Nat) : (bumpW f a n).bank1 = f.bank1 := rfl
@[simp] theorem bumpW_own (f : Fabric) (a n : Nat) : (bumpW f a n).own = f.own := rfl
@[simp] theorem bumpW_hold (f : Fabric) (a n : Nat) : (bumpW f a n).hold = f.hold := rfl
@[simp] theorem bumpW_rdata (f : Fabric) (a n : Nat) : (bumpW f a n).rdata = f.rdata := rfl
@[simp] theorem bumpW_armed (f : Fabric) (a n : Nat) : (bumpW f a n).armed = f.armed := rfl
@[simp] theorem bumpW_msgs (f : Fabric) (a n : Nat) : (bumpW f a n).msgs = f.msgs := rfl
@[simp] theorem bumpW_late (f : Fabric) (a n : Nat) : (bumpW f a n).late = f.late := rfl
@[simp] theorem bumpW_rstWait (f : Fabric) (a n : Nat) : (bumpW f a n).rstWait = f.rstWait := rfl
@[simp] theorem bumpW_time (f : Fabric) (a n : Nat) : (bumpW f a n).time = f.time := rfl
@[simp] theorem bumpW_msc (f : Fabric) (a n : Nat) : (bumpW f a n).msc = f.msc := rfl
@[simp] theorem bumpW_crumbQ (f : Fabric) (a n : Nat) : (bumpW f a n).crumbQ = f.crumbQ := rfl
@[simp] theorem bumpW_fifo (f : Fabric) (a n : Nat) : (bumpW f a n).fifo = f.fifo := rfl
@[simp] theorem bumpW_lost (f : Fabric) (a n : Nat) : (bumpW f a n).lost = f.lost := rfl
@[simp] theorem bumpW_cnt (f : Fabric) (a n : Nat) : (bumpW f a n).cnt = f.cnt := rfl
@[simp] theorem bumpW_cntShadow (f : Fabric) (a n : Nat) : (bumpW f a n).cntShadow = f.cntShadow := rfl
@[simp] theorem bumpW_ring (f : Fabric) (a n : Nat) : (bumpW f a n).ring = f.ring := rfl
@[simp] theorem bumpW_ringLine (f : Fabric) (a n : Nat) : (bumpW f a n).ringLine = f.ringLine := rfl
@[simp] theorem wrO_regs (f : Fabric) (q a : Nat) (w : Word) : (wrO f q a w).regs = f.regs := rfl
@[simp] theorem wrO_bank0 (f : Fabric) (q a : Nat) (w : Word) : (wrO f q a w).bank0 = f.bank0 := rfl
@[simp] theorem wrO_bank1 (f : Fabric) (q a : Nat) (w : Word) : (wrO f q a w).bank1 = f.bank1 := rfl
@[simp] theorem wrO_hold (f : Fabric) (q a : Nat) (w : Word) : (wrO f q a w).hold = f.hold := rfl
@[simp] theorem wrO_rdata (f : Fabric) (q a : Nat) (w : Word) : (wrO f q a w).rdata = f.rdata := rfl
@[simp] theorem wrO_armed (f : Fabric) (q a : Nat) (w : Word) : (wrO f q a w).armed = f.armed := rfl
@[simp] theorem wrO_msgs (f : Fabric) (q a : Nat) (w : Word) : (wrO f q a w).msgs = f.msgs := rfl
@[simp] theorem wrO_late (f : Fabric) (q a : Nat) (w : Word) : (wrO f q a w).late = f.late := rfl
@[simp] theorem wrO_rstWait (f : Fabric) (q a : Nat) (w : Word) : (wrO f q a w).rstWait = f.rstWait := rfl
@[simp] theorem wrO_time (f : Fabric) (q a : Nat) (w : Word) : (wrO f q a w).time = f.time := rfl
@[simp] theorem wrO_msc (f : Fabric) (q a : Nat) (w : Word) : (wrO f q a w).msc = f.msc := rfl
@[simp] theorem wrO_crumbQ (f : Fabric) (q a : Nat) (w : Word) : (wrO f q a w).crumbQ = f.crumbQ := rfl
@[simp] theorem wrO_fifo (f : Fabric) (q a : Nat) (w : Word) : (wrO f q a w).fifo = f.fifo := rfl
@[simp] theorem wrO_lost (f : Fabric) (q a : Nat) (w : Word) : (wrO f q a w).lost = f.lost := rfl
@[simp] theorem wrO_cnt (f : Fabric) (q a : Nat) (w : Word) : (wrO f q a w).cnt = f.cnt := rfl
@[simp] theorem wrO_cntShadow (f : Fabric) (q a : Nat) (w : Word) : (wrO f q a w).cntShadow = f.cntShadow := rfl
@[simp] theorem wrO_ring (f : Fabric) (q a : Nat) (w : Word) : (wrO f q a w).ring = f.ring := rfl
@[simp] theorem wrO_ringLine (f : Fabric) (q a : Nat) (w : Word) : (wrO f q a w).ringLine = f.ringLine := rfl
@[simp] theorem answer_regs (f : Fabric) (q v : Nat) : (answer f q v).regs = f.regs := rfl
@[simp] theorem answer_bank0 (f : Fabric) (q v : Nat) : (answer f q v).bank0 = f.bank0 := rfl
@[simp] theorem answer_bank1 (f : Fabric) (q v : Nat) : (answer f q v).bank1 = f.bank1 := rfl
@[simp] theorem answer_own (f : Fabric) (q v : Nat) : (answer f q v).own = f.own := rfl
@[simp] theorem answer_hold (f : Fabric) (q v : Nat) : (answer f q v).hold = f.hold := rfl
@[simp] theorem answer_armed (f : Fabric) (q v : Nat) : (answer f q v).armed = f.armed := rfl
@[simp] theorem answer_msgs (f : Fabric) (q v : Nat) : (answer f q v).msgs = f.msgs := rfl
@[simp] theorem answer_late (f : Fabric) (q v : Nat) : (answer f q v).late = f.late := rfl
@[simp] theorem answer_rstWait (f : Fabric) (q v : Nat) : (answer f q v).rstWait = f.rstWait := rfl
@[simp] theorem answer_time (f : Fabric) (q v : Nat) : (answer f q v).time = f.time := rfl
@[simp] theorem answer_msc (f : Fabric) (q v : Nat) : (answer f q v).msc = f.msc := rfl
@[simp] theorem answer_crumbQ (f : Fabric) (q v : Nat) : (answer f q v).crumbQ = f.crumbQ := rfl
@[simp] theorem answer_fifo (f : Fabric) (q v : Nat) : (answer f q v).fifo = f.fifo := rfl
@[simp] theorem answer_lost (f : Fabric) (q v : Nat) : (answer f q v).lost = f.lost := rfl
@[simp] theorem answer_cnt (f : Fabric) (q v : Nat) : (answer f q v).cnt = f.cnt := rfl
@[simp] theorem answer_cntShadow (f : Fabric) (q v : Nat) : (answer f q v).cntShadow = f.cntShadow := rfl
@[simp] theorem answer_ring (f : Fabric) (q v : Nat) : (answer f q v).ring = f.ring := rfl
@[simp] theorem answer_ringLine (f : Fabric) (q v : Nat) : (answer f q v).ringLine = f.ringLine := rfl
@[simp] theorem latch_regs (f : Fabric) (q : Nat) (l : List (Nat × Word)) : (latch f q l).regs = f.regs := rfl
@[simp] theorem latch_bank0 (f : Fabric) (q : Nat) (l : List (Nat × Word)) : (latch f q l).bank0 = f.bank0 := rfl
@[simp] theorem latch_bank1 (f : Fabric) (q : Nat) (l : List (Nat × Word)) : (latch f q l).bank1 = f.bank1 := rfl
@[simp] theorem latch_own (f : Fabric) (q : Nat) (l : List (Nat × Word)) : (latch f q l).own = f.own := rfl
@[simp] theorem latch_rdata (f : Fabric) (q : Nat) (l : List (Nat × Word)) : (latch f q l).rdata = f.rdata := rfl
@[simp] theorem latch_armed (f : Fabric) (q : Nat) (l : List (Nat × Word)) : (latch f q l).armed = f.armed := rfl
@[simp] theorem latch_msgs (f : Fabric) (q : Nat) (l : List (Nat × Word)) : (latch f q l).msgs = f.msgs := rfl
@[simp] theorem latch_late (f : Fabric) (q : Nat) (l : List (Nat × Word)) : (latch f q l).late = f.late := rfl
@[simp] theorem latch_rstWait (f : Fabric) (q : Nat) (l : List (Nat × Word)) : (latch f q l).rstWait = f.rstWait := rfl
@[simp] theorem latch_time (f : Fabric) (q : Nat) (l : List (Nat × Word)) : (latch f q l).time = f.time := rfl
@[simp] theorem latch_msc (f : Fabric) (q : Nat) (l : List (Nat × Word)) : (latch f q l).msc = f.msc := rfl
@[simp] theorem latch_crumbQ (f : Fabric) (q : Nat) (l : List (Nat × Word)) : (latch f q l).crumbQ = f.crumbQ := rfl
@[simp] theorem latch_fifo (f : Fabric) (q : Nat) (l : List (Nat × Word)) : (latch f q l).fifo = f.fifo := rfl
@[simp] theorem latch_lost (f : Fabric) (q : Nat) (l : List (Nat × Word)) : (latch f q l).lost = f.lost := rfl
@[simp] theorem latch_cnt (f : Fabric) (q : Nat) (l : List (Nat × Word)) : (latch f q l).cnt = f.cnt := rfl
@[simp] theorem latch_cntShadow (f : Fabric) (q : Nat) (l : List (Nat × Word)) : (latch f q l).cntShadow = f.cntShadow := rfl
@[simp] theorem latch_ring (f : Fabric) (q : Nat) (l : List (Nat × Word)) : (latch f q l).ring = f.ring := rfl
@[simp] theorem latch_ringLine (f : Fabric) (q : Nat) (l : List (Nat × Word)) : (latch f q l).ringLine = f.ringLine := rfl
@[simp] theorem wrB_regs (f : Fabric) (b : Bool) (a : Nat) (w : Word) : (wrB f b a w).regs = f.regs := by cases b <;> rfl
@[simp] theorem wrB_own (f : Fabric) (b : Bool) (a : Nat) (w : Word) : (wrB f b a w).own = f.own := by cases b <;> rfl
@[simp] theorem wrB_hold (f : Fabric) (b : Bool) (a : Nat) (w : Word) : (wrB f b a w).hold = f.hold := by cases b <;> rfl
@[simp] theorem wrB_rdata (f : Fabric) (b : Bool) (a : Nat) (w : Word) : (wrB f b a w).rdata = f.rdata := by cases b <;> rfl
@[simp] theorem wrB_armed (f : Fabric) (b : Bool) (a : Nat) (w : Word) : (wrB f b a w).armed = f.armed := by cases b <;> rfl
@[simp] theorem wrB_msgs (f : Fabric) (b : Bool) (a : Nat) (w : Word) : (wrB f b a w).msgs = f.msgs := by cases b <;> rfl
@[simp] theorem wrB_late (f : Fabric) (b : Bool) (a : Nat) (w : Word) : (wrB f b a w).late = f.late := by cases b <;> rfl
@[simp] theorem wrB_rstWait (f : Fabric) (b : Bool) (a : Nat) (w : Word) : (wrB f b a w).rstWait = f.rstWait := by cases b <;> rfl
@[simp] theorem wrB_time (f : Fabric) (b : Bool) (a : Nat) (w : Word) : (wrB f b a w).time = f.time := by cases b <;> rfl
@[simp] theorem wrB_msc (f : Fabric) (b : Bool) (a : Nat) (w : Word) : (wrB f b a w).msc = f.msc := by cases b <;> rfl
@[simp] theorem wrB_crumbQ (f : Fabric) (b : Bool) (a : Nat) (w : Word) : (wrB f b a w).crumbQ = f.crumbQ := by cases b <;> rfl
@[simp] theorem wrB_fifo (f : Fabric) (b : Bool) (a : Nat) (w : Word) : (wrB f b a w).fifo = f.fifo := by cases b <;> rfl
@[simp] theorem wrB_lost (f : Fabric) (b : Bool) (a : Nat) (w : Word) : (wrB f b a w).lost = f.lost := by cases b <;> rfl
@[simp] theorem wrB_cnt (f : Fabric) (b : Bool) (a : Nat) (w : Word) : (wrB f b a w).cnt = f.cnt := by cases b <;> rfl
@[simp] theorem wrB_cntShadow (f : Fabric) (b : Bool) (a : Nat) (w : Word) : (wrB f b a w).cntShadow = f.cntShadow := by cases b <;> rfl
@[simp] theorem wrB_ring (f : Fabric) (b : Bool) (a : Nat) (w : Word) : (wrB f b a w).ring = f.ring := by cases b <;> rfl
@[simp] theorem wrB_ringLine (f : Fabric) (b : Bool) (a : Nat) (w : Word) : (wrB f b a w).ringLine = f.ringLine := by cases b <;> rfl

end Sys2Proof.Machine
end

