-- ==== Sys2Proof/Laws/Sparse.lean ====
section
/-! SUPPORT. Laws of the sparse maps: a read after a write, for every list, and the canonical form that every operation keeps. -/
namespace Sys2Proof.Machine

variable {α : Type}

theorem mget_nil (d : Nat → α) (k : Nat) : mget d [] k = d k := rfl

theorem mget_mpast (d : Nat → α) (m : List (Nat × α)) (k j : Nat) (h : k < j) : mget d (mpast m k) j = mget d m j := by
  induction m with
  | nil => rfl
  | cons e r ih =>
    obtain ⟨k', v⟩ := e
    by_cases h1 : k' ≤ k
    · have h2 : ¬k' = j := by omega
      have h3 : ¬j < k' := by omega
      simp [mpast, mget, h1, h2, h3, ih]
    · simp [mpast, h1]

theorem mget_mpast_le (d : Nat → α) (m : List (Nat × α)) (k j : Nat) (h : j ≤ k) : mget d (mpast m k) j = d j := by
  induction m with
  | nil => rfl
  | cons e r ih =>
    obtain ⟨k', v⟩ := e
    by_cases h1 : k' ≤ k
    · simp [mpast, h1, ih]
    · have h2 : ¬k' = j := by omega
      have h3 : j < k' := by omega
      simp [mpast, h1, mget, h2, h3]

/-- A read after a write: the value at its key, and every other key as before. -/
theorem mget_mset [DecidableEq α] (d : Nat → α) (m : List (Nat × α)) (k j : Nat) (v : α) :
    mget d (mset d m k v) j = if j = k then v else mget d m j := by
  induction m with
  | nil =>
    by_cases hv : v = d k
    · by_cases hj : j = k <;> simp [mset, mget, hv, hj]
    · by_cases hj : j = k
      · simp [mset, mget, hv, hj]
      · have hk : ¬k = j := fun h => hj h.symm
        simp [mset, mget, hv, hj, hk]
  | cons e r ih =>
    obtain ⟨k', v'⟩ := e
    by_cases h1 : k' < k
    · by_cases h2 : k' = j
      · have h3 : ¬j = k := by omega
        subst h2
        simp [mset, mget, h1, h3]
      · by_cases h4 : j < k'
        · have h3 : ¬j = k := by omega
          simp [mset, mget, h1, h2, h4, h3]
        · simp [mset, mget, h1, h2, h4, ih]
    · by_cases h2 : k' = k
      · subst h2
        by_cases hv : v = d k'
        · by_cases hj : j = k'
          · subst hj; simp [mset, hv, mget_mpast_le]
          · by_cases hlt : j < k'
            · have : ¬k' = j := by omega
              simp [mset, hv, hj, mget, this, hlt, mget_mpast_le d r k' j (by omega)]
            · have h5 : ¬k' = j := by omega
              simp [mset, hv, hj, mget, h5, hlt, mget_mpast d r k' j (by omega)]
        · by_cases hj : j = k'
          · subst hj; simp [mset, hv, mget]
          · have h5 : ¬k' = j := fun h => hj h.symm
            simp [mset, hv, mget, hj, h5]
      · by_cases hv : v = d k
        · by_cases hj : j = k
          · have h5 : ¬k' = j := by omega
            have h6 : j < k' := by omega
            simp [mset, h1, h2, hv, mget, hj]
            omega
          · simp [mset, h1, h2, hv, hj]
        · by_cases hj : j = k
          · subst hj; simp [mset, h1, h2, hv, mget]
          · have h5 : ¬k = j := fun h => hj h.symm
            by_cases h6 : j < k
            · have h7 : ¬k' = j := by omega
              have h8 : j < k' := by omega
              simp [mset, h1, h2, hv, mget, hj, h5, h6, h7, h8]
            · simp [mset, h1, h2, hv, mget, hj, h5, h6]

@[simp] theorem mget_mset_same [DecidableEq α] (d : Nat → α) (m : List (Nat × α)) (k : Nat) (v : α) :
    mget d (mset d m k v) k = v := by simp [mget_mset]

theorem mget_mset_ne [DecidableEq α] (d : Nat → α) (m : List (Nat × α)) (k j : Nat) (v : α) (h : j ≠ k) :
    mget d (mset d m k v) j = mget d m j := by simp [mget_mset, h]

theorem mget_filter_mfrom (d : Nat → α) (p : Nat → Bool) (m : List (Nat × α)) (lo k : Nat) :
    mget d ((mfrom lo m).filter (fun e => p e.1)) k = if p k ∧ lo ≤ k then mget d m k else d k := by
  induction m generalizing lo with
  | nil => simp [mfrom, mget]
  | cons e r ih =>
    obtain ⟨k', v⟩ := e
    by_cases hlo : lo ≤ k'
    · by_cases hp : p k'
      · by_cases h1 : k' = k
        · subst h1; simp [mfrom, hlo, hp, mget]
        · by_cases h2 : k < k'
          · simp [mfrom, hlo, hp, mget, h1, h2]
          · have h3 : k' + 1 ≤ k := by omega
            have h4 : lo ≤ k := by omega
            simp [mfrom, hlo, hp, mget, h1, h2, ih, h3, h4]
      · by_cases h1 : k' = k
        · subst h1; simp [mfrom, hlo, hp, ih]
        · by_cases h2 : k < k'
          · have h3 : ¬k' + 1 ≤ k := by omega
            simp [mfrom, hlo, hp, ih, mget, h1, h2, h3]
          · have h3 : k' + 1 ≤ k := by omega
            have h4 : lo ≤ k := by omega
            simp [mfrom, hlo, hp, mget, h1, h2, ih, h3, h4]
    · by_cases h4 : lo ≤ k
      · have h1 : ¬k' = k := by omega
        have h2 : ¬k < k' := by omega
        simp [mfrom, hlo, ih, mget, h1, h2, h4]
      · simp [mfrom, hlo, ih, h4]

/-- A filtered map reads as the map at the keys that pass, and as unlisted elsewhere. -/
theorem mget_mfilter (d : Nat → α) (p : Nat → Bool) (m : List (Nat × α)) (k : Nat) :
    mget d (mfilter p m) k = if p k then mget d m k else d k := by
  simp [mfilter, mget_filter_mfrom]

@[simp] theorem mget_mclear (d : Nat → α) (lo hi : Nat) (m : List (Nat × α)) (k : Nat) :
    mget d (mclear lo hi m) k = if k < lo ∨ hi ≤ k then mget d m k else d k := by
  simp [mclear, mget_mfilter]

/-- Every key of a list is at least n. -/
def keysFrom (n : Nat) (m : List (Nat × α)) : Prop := ∀ e ∈ m, n ≤ e.1

/-- Every key of a list is below n. -/
def keysBelow (n : Nat) (m : List (Nat × α)) : Prop := ∀ e ∈ m, e.1 < n

theorem mget_append_lt (d : Nat → α) (m m' : List (Nat × α)) (n k : Nat) (h : keysBelow n m) (hk : n ≤ k) :
    mget d (m ++ m') k = mget d m' k := by
  induction m with
  | nil => rfl
  | cons e r ih =>
    obtain ⟨k', v⟩ := e
    have h0 : k' < n := h (k', v) (List.mem_cons_self ..)
    have h1 : ¬k' = k := by omega
    have h2 : ¬k < k' := by omega
    simp [mget, h1, h2, ih (fun e he => h e (List.mem_cons_of_mem _ he))]

theorem mget_append_ge (d : Nat → α) (m m' : List (Nat × α)) (n k : Nat) (h : keysFrom n m') (hk : k < n) :
    mget d (m ++ m') k = mget d m k := by
  induction m with
  | nil =>
    cases m' with
    | nil => rfl
    | cons e r =>
      obtain ⟨k', v⟩ := e
      have h0 : n ≤ k' := h (k', v) (List.mem_cons_self ..)
      have h1 : ¬k' = k := by omega
      have h2 : k < k' := by omega
      simp [mget, h1, h2]
  | cons e r ih =>
    obtain ⟨k', v⟩ := e
    simp [mget, ih]

theorem mfilter_below (n : Nat) (p : Nat → Bool) (m : List (Nat × α)) (h : ∀ k, p k = true → k < n) : keysBelow n (mfilter p m) := by
  intro e he
  simp only [mfilter, List.mem_filter] at he
  exact h _ he.2

theorem mfilter_from (n : Nat) (p : Nat → Bool) (m : List (Nat × α)) (h : ∀ k, p k = true → n ≤ k) : keysFrom n (mfilter p m) := by
  intro e he
  simp only [mfilter, List.mem_filter] at he
  exact h _ he.2

/-- A copied range reads as its source inside the range and as its destination outside. -/
theorem mget_mcopy (d : Nat → α) (lo hi : Nat) (h : lo ≤ hi) (src dst : List (Nat × α)) (k : Nat) :
    mget d (mcopy lo hi src dst) k = if lo ≤ k ∧ k < hi then mget d src k else mget d dst k := by
  have f1 : keysFrom lo (mfilter (fun k => decide (lo ≤ k) && decide (k < hi)) src) := mfilter_from lo _ _ (by simp; omega)
  have f2 : keysFrom hi (mfilter (fun k => decide (hi ≤ k)) dst) := mfilter_from hi _ _ (by simp)
  have b1 : keysBelow lo (mfilter (fun k => decide (k < lo)) dst) := mfilter_below lo _ _ (by simp)
  have b2 : keysBelow hi (mfilter (fun k => decide (lo ≤ k) && decide (k < hi)) src) := mfilter_below hi _ _ (by simp)
  unfold mcopy
  by_cases h1 : k < lo
  · have h2 : k < hi := by omega
    have h3 : ¬lo ≤ k := by omega
    rw [mget_append_ge d _ _ hi k f2 h2, mget_append_ge d _ _ lo k f1 h1, mget_mfilter]
    simp [h1, h3]
  · have h3 : lo ≤ k := by omega
    by_cases h2 : k < hi
    · rw [mget_append_ge d _ _ hi k f2 h2, mget_append_lt d _ _ lo k b1 h3, mget_mfilter]
      simp [h2, h3]
    · have h4 : hi ≤ k := by omega
      rw [List.append_assoc, mget_append_lt d _ _ lo k b1 h3, mget_append_lt d _ _ hi k b2 h4, mget_mfilter]
      simp [h2, h4]

/-- Writes of consecutive keys, read one key at a time. -/
theorem mget_msets_out [DecidableEq α] (d : Nat → α) (m : List (Nat × α)) (k j : Nat) (l : List α) (h : j < k ∨ k + l.length ≤ j) :
    mget d (msets d m k l) j = mget d m j := by
  induction l generalizing m k with
  | nil => rfl
  | cons v r ih =>
    simp only [List.length_cons] at h
    rw [msets, ih _ _ (by omega), mget_mset_ne _ _ _ _ _ (by omega)]

theorem mpast_sub (m : List (Nat × α)) (k : Nat) : ∀ e ∈ mpast m k, e ∈ m := by
  induction m with
  | nil => simp [mpast]
  | cons e r ih =>
    obtain ⟨k', v⟩ := e
    by_cases h : k' ≤ k
    · intro e he; simp only [mpast, h, if_true] at he; exact List.mem_cons_of_mem _ (ih e he)
    · simp [mpast, h]

-- The canonical form

variable [DecidableEq α]

theorem mwf_cons (d : Nat → α) (k : Nat) (v : α) (r : List (Nat × α)) :
    mwf d ((k, v) :: r) = true ↔ v ≠ d k ∧ (∀ e ∈ r, k < e.1) ∧ mwf d r = true := by
  induction r generalizing k v with
  | nil => simp [mwf]
  | cons e r ih =>
    obtain ⟨k', v'⟩ := e
    have := ih k' v'
    simp only [mwf, Bool.and_eq_true, decide_eq_true_eq] at this ⊢
    constructor
    · rintro ⟨⟨h1, h2⟩, h3⟩
      refine ⟨h1, ?_, h3⟩
      intro e he
      rcases List.mem_cons.mp he with rfl | he
      · exact h2
      · have := (this.mp h3).2.1 e he; omega
    · rintro ⟨h1, h2, h3⟩
      exact ⟨⟨h1, h2 (k', v') (List.mem_cons_self ..)⟩, h3⟩

theorem mpast_wf (d : Nat → α) (m : List (Nat × α)) (k : Nat) (h : mwf d m = true) : mwf d (mpast m k) = true := by
  induction m with
  | nil => rfl
  | cons e r ih =>
    obtain ⟨k', v⟩ := e
    by_cases hk : k' ≤ k
    · simpa [mpast, hk] using ih ((mwf_cons d k' v r).mp h).2.2
    · simpa [mpast, hk] using h

theorem mset_keys (d : Nat → α) (m : List (Nat × α)) (k : Nat) (v : α) : ∀ e ∈ mset d m k v, e.1 = k ∨ e ∈ m := by
  induction m with
  | nil => by_cases hv : v = d k <;> simp [mset, hv]
  | cons e r ih =>
    obtain ⟨k', v'⟩ := e
    intro e he
    by_cases h1 : k' < k
    · simp only [mset, h1, if_true] at he
      rcases List.mem_cons.mp he with rfl | he
      · exact .inr (List.mem_cons_self ..)
      · rcases ih e he with h | h
        · exact .inl h
        · exact .inr (List.mem_cons_of_mem _ h)
    · by_cases h2 : k' = k
      · subst h2
        by_cases hv : v = d k'
        · simp only [mset, hv, if_true, Nat.lt_irrefl, if_false] at he
          exact .inr (List.mem_cons_of_mem _ (mpast_sub r _ e he))
        · simp only [mset, hv, if_true, Nat.lt_irrefl, if_false] at he
          rcases List.mem_cons.mp he with rfl | he
          · exact .inl rfl
          · exact .inr (List.mem_cons_of_mem _ he)
      · by_cases hv : v = d k
        · simp only [mset, h1, h2, hv, if_true, if_false] at he; exact .inr he
        · simp only [mset, h1, h2, hv, if_false] at he
          rcases List.mem_cons.mp he with rfl | he
          · exact .inl rfl
          · exact .inr he

/-- A write keeps the canonical form. -/
theorem mset_wf (d : Nat → α) (m : List (Nat × α)) (k : Nat) (v : α) (h : mwf d m = true) : mwf d (mset d m k v) = true := by
  induction m with
  | nil => by_cases hv : v = d k <;> simp [mset, mwf, hv]
  | cons e r ih =>
    obtain ⟨k', v'⟩ := e
    have hc := (mwf_cons d k' v' r).mp h
    by_cases h1 : k' < k
    · simp only [mset, h1, if_true]
      refine (mwf_cons d k' v' _).mpr ⟨hc.1, ?_, ih hc.2.2⟩
      intro e he
      rcases mset_keys d r k v e he with h' | h'
      · omega
      · exact hc.2.1 e h'
    · by_cases h2 : k' = k
      · subst h2
        by_cases hv : v = d k'
        · simpa [mset, hv] using mpast_wf d r k' hc.2.2
        · simp only [mset, hv, if_true, Nat.lt_irrefl, if_false]
          exact (mwf_cons d k' v r).mpr ⟨hv, hc.2⟩
      · by_cases hv : v = d k
        · simpa [mset, h1, h2, hv] using h
        · simp only [mset, h1, h2, hv, if_false]
          refine (mwf_cons d k v _).mpr ⟨hv, ?_, h⟩
          intro e he
          rcases List.mem_cons.mp he with rfl | he
          · simp; omega
          · have := hc.2.1 e he; omega

/-- Writes of consecutive keys keep the canonical form. -/
theorem msets_wf (d : Nat → α) (m : List (Nat × α)) (k : Nat) (l : List α) (h : mwf d m = true) : mwf d (msets d m k l) = true := by
  induction l generalizing m k with
  | nil => exact h
  | cons v r ih => exact ih _ _ (mset_wf d m k v h)

theorem filter_wf (d : Nat → α) (p : Nat → Bool) (m : List (Nat × α)) (h : mwf d m = true) :
    mwf d (m.filter (fun e => p e.1)) = true := by
  induction m with
  | nil => rfl
  | cons e r ih =>
    obtain ⟨k, v⟩ := e
    have hc := (mwf_cons d k v r).mp h
    by_cases hp : p k
    · simp only [List.filter_cons, hp, if_true]
      refine (mwf_cons d k v _).mpr ⟨hc.1, fun e he => hc.2.1 e ((List.mem_filter.mp he).1), ih hc.2.2⟩
    · simpa [List.filter_cons, hp] using ih hc.2.2

theorem mfrom_all (d : Nat → α) (m : List (Nat × α)) (lo : Nat) (h : mwf d m = true) (hl : ∀ e ∈ m, lo ≤ e.1) : mfrom lo m = m := by
  induction m generalizing lo with
  | nil => rfl
  | cons e r ih =>
    obtain ⟨k, v⟩ := e
    have hc := (mwf_cons d k v r).mp h
    have : lo ≤ k := hl (k, v) (List.mem_cons_self ..)
    simp only [mfrom, this, if_true]
    rw [ih _ hc.2.2 (fun e he => hc.2.1 e he)]

/-- A filter keeps the canonical form. -/
theorem mfilter_wf (d : Nat → α) (p : Nat → Bool) (m : List (Nat × α)) (h : mwf d m = true) : mwf d (mfilter p m) = true := by
  unfold mfilter
  rw [mfrom_all d m 0 h (fun _ _ => Nat.zero_le _)]
  exact filter_wf d p m h

/-- Clearing a range keeps the canonical form. -/
theorem mclear_wf (d : Nat → α) (lo hi : Nat) (m : List (Nat × α)) (h : mwf d m = true) : mwf d (mclear lo hi m) = true :=
  mfilter_wf d _ m h

end Sys2Proof.Machine
end

