-- ==== Sys2Proof/Laws/Fabric.lean ====
section
/-! SUPPORT. Laws of the register fabric: a register read after a named write, and what raising a cause, recording an error and
observing an event leave alone. -/
namespace Sys2Proof.Machine

-- Registers

/-- A register after a register is written. -/
theorem rdR_wrR (f : Fabric) (a b : Nat) (w : Word) : rdR (wrR f a w) b = if b = a then w else rdR f b := by
  simp [rdR, wrR, mget_mset]

@[simp] theorem rdR_wrR_same (f : Fabric) (a : Nat) (w : Word) : rdR (wrR f a w) a = w := by simp [rdR_wrR]

theorem rdR_wrR_ne (f : Fabric) (a b : Nat) (w : Word) (h : b ≠ a) : rdR (wrR f a w) b = rdR f b := by simp [rdR_wrR, h]

theorem rdR_wrN (f : Fabric) (a b v : Nat) : rdR (wrN f a v) b = if b = a then BitVec.ofNat 32 v else rdR f b := rdR_wrR f a b _

theorem rdR_putF (f : Fabric) (a b hi lo v : Nat) :
    rdR (putF f a hi lo v) b = if b = a then setFld (rdR f a) hi lo v else rdR f b := rdR_wrR f a b _

theorem rdR_putB (f : Fabric) (a b n : Nat) (v : Bool) :
    rdR (putB f a n v) b = if b = a then setBit (rdR f a) n v else rdR f b := rdR_wrR f a b _

theorem rdR_bump (f : Fabric) (a b n : Nat) :
    rdR (bump f a n) b = if b = a then BitVec.ofNat 32 (incSat 32 (rdN f a) n) else rdR f b := rdR_wrN f a b _

/-- A field of the register whose field is set. -/
theorem getF_putF (f : Fabric) (a hi lo v : Nat) (h : lo ≤ hi) (hh : hi < 32) :
    getF (putF f a hi lo v) a hi lo = v % 2 ^ (hi + 1 - lo) := by
  simp [getF, rdR_putF, fld_setFld _ _ _ _ h hh]

/-- A bit of the register whose bit is set. -/
theorem getB_putB (f : Fabric) (a n : Nat) (b : Bool) (h : n < 32) : getB (putB f a n b) a n = b := by
  simp [getB, rdR_putB, bit_setBit _ _ _ _ h]

/-- Another bit of a register whose bit is set. -/
theorem getB_putB_ne (f : Fabric) (a n k : Nat) (b : Bool) (h : n < 32) (hk : k ≠ n) : getB (putB f a n b) a k = getB f a k := by
  simp [getB, rdR_putB, bit_setBit _ _ _ _ h, hk]

/-- A per-requester register after one is written. -/
theorem rdO_wrO_same (f : Fabric) (q a : Nat) (w : Word) : rdO (wrO f q a w) q a = w := by simp [rdO, wrO]

/-- A word of a bank after a word of a bank is written. -/
theorem rdB_wrB (f : Fabric) (b c : Bool) (a k : Nat) (w : Word) :
    rdB (wrB f b a w) c k = if c = b ∧ k = a then w else rdB f c k := by
  cases b <;> cases c <;> simp [rdB, wrB, mget_mset]

@[simp] theorem rdR_wrB (f : Fabric) (b : Bool) (a k : Nat) (w : Word) : rdR (wrB f b a w) k = rdR f k := by
  cases b <;> rfl
@[simp] theorem rdR_wrO (f : Fabric) (q a k : Nat) (w : Word) : rdR (wrO f q a w) k = rdR f k := rfl
@[simp] theorem rdR_answer (f : Fabric) (q v k : Nat) : rdR (answer f q v) k = rdR f k := rfl
@[simp] theorem rdR_latch (f : Fabric) (q k : Nat) (l : List (Nat × Word)) : rdR (latch f q l) k = rdR f k := rfl

/-- What a requester reads after an answer. -/
theorem rdata_answer (f : Fabric) (q v : Nat) : mget zeroN (answer f q v).rdata q = v := by simp [answer]

/-- A register apart from the pages' own is untouched by a read of another page's register. -/
theorem ra_inj (p o o' : Nat) : ra p o = ra p o' ↔ o = o' := by unfold ra; omega

/-- Registers of different offsets in pages' headers differ. -/
theorem ra_ne (p q o o' : Nat) (h : o < 4096) (h' : o' < 4096) (hne : o ≠ o') : ra p o ≠ ra q o' := by unfold ra; omega

-- What observation and interrupts leave alone

theorem Calm.refl (p : Nat → Prop) (f : Fabric) : Calm p f f := by constructor <;> simp

theorem Calm.trans {p : Nat → Prop} {f g h : Fabric} (a : Calm p f g) (b : Calm p g h) : Calm p f h :=
  ⟨fun x hx => (b.regs x hx).trans (a.regs x hx), b.bank0.trans a.bank0, b.bank1.trans a.bank1, b.own.trans a.own,
   b.hold.trans a.hold, b.rdata.trans a.rdata, b.late.trans a.late, b.rstWait.trans a.rstWait, b.time.trans a.time,
   b.msc.trans a.msc, b.fifo.trans a.fifo, b.cntShadow.trans a.cntShadow, b.ring.trans a.ring, b.ringLine.trans a.ringLine⟩

theorem Calm.mono {p q : Nat → Prop} {f g : Fabric} (a : Calm p f g) (h : ∀ x, p x → q x) : Calm q f g :=
  { a with regs := fun x hx => a.regs x (fun y => hx (h x y)) }

/-- A write of one register. -/
theorem wrR_calm (p : Nat → Prop) (f : Fabric) (a : Nat) (w : Word) (h : p a) : Calm p f (wrR f a w) := by
  constructor <;> first | rfl | (intro x hx; exact rdR_wrR_ne f a x w (fun e => hx (e ▸ h)))

theorem putB_calm (p : Nat → Prop) (f : Fabric) (a n : Nat) (b : Bool) (h : p a) : Calm p f (putB f a n b) := wrR_calm p f a _ h
theorem putF_calm (p : Nat → Prop) (f : Fabric) (a hi lo v : Nat) (h : p a) : Calm p f (putF f a hi lo v) := wrR_calm p f a _ h
theorem wrN_calm (p : Nat → Prop) (f : Fabric) (a v : Nat) (h : p a) : Calm p f (wrN f a v) := wrR_calm p f a _ h
theorem bump_calm (p : Nat → Prop) (f : Fabric) (a n : Nat) (h : p a) : Calm p f (bump f a n) := wrR_calm p f a _ h

theorem ite_calm (p : Nat → Prop) (c : Prop) [Decidable c] (f g h : Fabric) (a : Calm p f g) (b : Calm p f h) :
    Calm p f (if c then g else h) := by split <;> assumption

/-- A change of the counters, of the crumb queues or of the messages alone. -/
theorem quiet_calm (p : Nat → Prop) (f g : Fabric)
    (h : g = { f with cnt := g.cnt, crumbQ := g.crumbQ, lost := g.lost, armed := g.armed, msgs := g.msgs }) : Calm p f g := by
  rw [h]; constructor <;> intros <;> rfl

theorem countEvent_calm (p : Nat → Prop) (f : Fabric) (a b c : Nat) : Calm p f (countEvent f a b c) := by
  unfold countEvent
  generalize mfilter _ f.regs = l
  induction l generalizing f with
  | nil => exact Calm.refl p f
  | cons e r ih =>
    rw [List.foldl_cons]
    refine Calm.trans ?_ (ih _)
    dsimp only
    split
    · exact quiet_calm p _ _ rfl
    · exact Calm.refl p _

/-- The registers that serving a vector may touch. -/
theorem serviceVec_calm (p : Nat → Prop) (h0 : p 0x3C00) (h1 : p 0x3C04) (f : Fabric) (v : Nat) (hv : v < 64) :
    Calm p f (serviceVec f v) := by
  unfold serviceVec
  dsimp only
  split
  · have hp : p (ra pHST (0xC00 + 4 * (v / 32))) := by
      rcases (show v / 32 = 0 ∨ v / 32 = 1 by omega) with h | h <;> simpa [h, ra, pHST]
    split
    · exact (quiet_calm p f _ rfl).trans (putB_calm p _ _ _ _ hp)
    · exact quiet_calm p f _ rfl
  · exact Calm.refl p f

theorem irqPage_calm (p : Nat → Prop) (h0 : p 0x3C00) (h1 : p 0x3C04) (f : Fabric) (n : Nat) : Calm p f (irqPage f n) := by
  unfold irqPage
  dsimp only
  split
  · exact serviceVec_calm p h0 h1 f _ (fld_lt _ 5 0)
  · exact Calm.refl p f

theorem countDiscard_calm (p : Nat → Prop) (h : ∀ a, isSide a = true → p a) (f : Fabric) (n : Nat) : Calm p f (countDiscard f n) := by
  unfold countDiscard
  dsimp only
  refine Calm.trans ?_ (irqPage_calm p (h _ rfl) (h _ rfl) _ _)
  refine Calm.trans ?_ (wrR_calm p _ _ _ (h _ rfl))
  exact (bump_calm p f _ _ (h _ rfl)).trans (quiet_calm p _ _ rfl)

theorem obsOwn_calm (p : Nat → Prop) (h : ∀ a, isSide a = true → p a) (f : Fabric) (n : Nat) : Calm p f (obsOwn f n) := by
  unfold obsOwn
  dsimp only
  refine Calm.trans (countEvent_calm p f 0x70 n 0) ?_
  split
  · split
    · exact quiet_calm p _ _ rfl
    · exact countDiscard_calm p h _ _
  · exact Calm.refl p _

theorem discardCrumb_calm (p : Nat → Prop) (h : ∀ a, isSide a = true → p a) (f : Fabric) (n : Nat) : Calm p f (discardCrumb f n) :=
  (countDiscard_calm p h f n).trans (obsOwn_calm p h _ _)

theorem markFull_calm (p : Nat → Prop) (h : ∀ a, isSide a = true → p a) (f : Fabric) : Calm p f (markFull f) := by
  unfold markFull
  split
  · exact Calm.refl p f
  · refine Calm.trans ?_ (obsOwn_calm p h _ _)
    refine Calm.trans ?_ (irqPage_calm p (h _ rfl) (h _ rfl) _ _)
    exact (putB_calm p f _ _ _ (h _ rfl)).trans (wrR_calm p _ _ _ (h _ rfl))

theorem queueLost_calm (p : Nat → Prop) (f : Fabric) (n : Nat) : Calm p f (queueLost f n) := by
  unfold queueLost
  dsimp only
  split
  · exact quiet_calm p _ _ rfl
  · exact Calm.refl p f

theorem pushCrumb_calm (p : Nat → Prop) (h : ∀ a, isSide a = true → p a) (f : Fabric) (n : Nat) (c : BitVec 128) :
    Calm p f (pushCrumb f n c) := by
  unfold pushCrumb
  dsimp only
  split
  · exact discardCrumb_calm p h f n
  · split
    · exact (markFull_calm p h f).trans (discardCrumb_calm p h _ n)
    · refine (queueLost_calm p f n).trans ?_
      split
      · exact quiet_calm p _ _ rfl
      · exact discardCrumb_calm p h _ n

/-- An observed event touches the collector's registers alone. -/
theorem observe_calm (p : Nat → Prop) (h : ∀ a, isSide a = true → p a) (f : Fabric) (n ev inst payload : Nat) :
    Calm p f (observe f n ev inst payload) := by
  unfold observe
  dsimp only
  refine (countEvent_calm p f (srcCode n) ev inst).trans ?_
  split
  · exact pushCrumb_calm p h _ _ _
  · exact Calm.refl p _

/-- Raising a cause touches IRQ_RAW of its page and the collector's registers alone. -/
theorem raise_calm (p : Nat → Prop) (h : ∀ a, isSide a = true → p a) (f : Fabric) (pg n : Nat) (hp : p (ra pg 0x10)) :
    Calm p f (raise f pg n) := by
  unfold raise
  dsimp only
  exact ((wrR_calm p f _ _ hp).trans (observe_calm p h _ _ _ _ _)).trans (irqPage_calm p (h _ rfl) (h _ rfl) _ _)

/-- A register that neither IRQ_RAW of the page nor the collector is. -/
theorem rdR_raise (f : Fabric) (pg n a : Nat) (h : isSide a = false) (ha : a ≠ ra pg 0x10) : rdR (raise f pg n) a = rdR f a :=
  (raise_calm (fun x => isSide x = true ∨ x = ra pg 0x10) (fun _ hx => .inl hx) f pg n (.inr rfl)).regs a
    (by rintro (hx | hx) <;> simp_all)

/-- Recording an error touches PAGE_STAT, ERR_CODE and ERR_INFO of its page and the collector's registers alone. -/
theorem fail_calm (f : Fabric) (pg code info : Nat) : Calm (fun a => isErrReg pg a = true) f (fail f pg code info) := by
  have h : ∀ a, isSide a = true → isErrReg pg a = true := by intro a ha; simp [isErrReg, ha]
  unfold fail
  dsimp only
  split
  · exact putB_calm _ f _ _ _ (by simp [isErrReg])
  · exact (((wrN_calm _ f _ _ (by simp [isErrReg])).trans (wrN_calm _ _ _ _ (by simp [isErrReg]))).trans
      (putB_calm _ _ _ _ _ (by simp [isErrReg]))).trans (observe_calm _ h _ _ _ _ _)

/-- A register that does not record the error of a page. -/
theorem rdR_fail (f : Fabric) (pg code info a : Nat) (h : isErrReg pg a = false) : rdR (fail f pg code info) a = rdR f a :=
  (fail_calm f pg code info).regs a (by simp [h])

theorem side_head (p o : Nat) (h : o = 0x0C ∨ o = 0x20 ∨ o = 0x24) : isSide (ra p o) = false := by
  simp only [isSide, ra, Bool.or_eq_false_iff, beq_eq_false_iff_ne, ne_eq]
  omega

/-- A first error records its code and its information, and sets ERR (R44). -/
theorem fail_first (f : Fabric) (pg code info : Nat) (h : getB f (ra pg 0x0C) 2 = false) :
    rdR (fail f pg code info) (ra pg 0x20) = BitVec.ofNat 32 (code % 2 ^ 16) ∧
    rdR (fail f pg code info) (ra pg 0x24) = BitVec.ofNat 32 info ∧ getB (fail f pg code info) (ra pg 0x0C) 2 = true := by
  have c := fun g e i y => (observe_calm (fun a => isSide a = true) (fun _ hx => hx) g pg e i y).regs
  have h1 : ∀ a b, a ≠ b → ra pg a ≠ ra pg b := fun a b hab e => hab ((ra_inj pg a b).mp e)
  unfold fail
  dsimp only
  simp only [h, if_false, Bool.false_eq_true]
  refine ⟨?_, ?_, ?_⟩
  · rw [c _ _ _ _ _ (by simp [side_head])]; simp [rdR_putB, rdR_wrN, h1]
  · rw [c _ _ _ _ _ (by simp [side_head])]; simp [rdR_putB, rdR_wrN, h1]
  · rw [getB, c _ _ _ _ _ (by simp [side_head])]; simp [rdR_putB, rdR_wrN, h1, bit_setBit]

/-- A further error sets MULTI and changes nothing else (R44). -/
theorem fail_more (f : Fabric) (pg code info : Nat) (h : getB f (ra pg 0x0C) 2 = true) :
    fail f pg code info = putB f (ra pg 0x20) 31 true := by simp [fail, h]

/-- The bits of a power of 2. -/
theorem bit_pow (n k : Nat) : bit (BitVec.ofNat 32 (2 ^ n)) k = (decide (k < 32) && decide (n = k)) := by
  rw [bit_eq, BitVec.getLsbD_ofNat, Nat.testBit_two_pow]

theorem side_irq (p : Nat) (hp : p ≠ pOBS) : isSide (ra p 0x10) = false := by
  simp only [isSide, ra, pOBS, Bool.or_eq_false_iff, beq_eq_false_iff_ne, ne_eq] at *
  omega

/-- The causes of a page after one is raised (R42). -/
theorem getB_raise (f : Fabric) (p n k : Nat) (hp : p ≠ pOBS) :
    getB (raise f p n) (ra p 0x10) k = (getB f (ra p 0x10) k || (decide (k < 32) && decide (n = k))) := by
  have h : ∀ g, Calm (fun a => isSide a = true) g (irqPage (observe g p n (instOf p)
      (irqPayload g p)) p) := fun g =>
    (observe_calm _ (fun _ h => h) g _ _ _ _).trans (irqPage_calm (fun a => isSide a = true) rfl rfl _ _)
  unfold raise
  dsimp only
  rw [getB, (h _).regs _ (by simp [side_irq p hp]), rdR_wrR_same, bit_or, bit_pow]
  rfl

end Sys2Proof.Machine
end

