-- ==== Sys2Proof/Laws/Memory.lean ====
section
/-! SUPPORT. Every operation on the memories keeps their canonical form. -/
namespace Sys2Proof.Machine

theorem Memory.wf_iff (m : MemState) : Memory.wf m = true ↔
    mwf zeroB m.dram = true ∧ mwf eccUnlisted m.ecc = true ∧ mwf zeroB m.shared = true ∧ mwf zeroW m.keep = true := by
  simp [Memory.wf, and_assoc]

/-- Memories that hold the same data. -/
theorem wf_same (m m' : MemState) (h : Memory.wf m = true) (h1 : m'.dram = m.dram) (h2 : m'.ecc = m.ecc)
    (h3 : m'.shared = m.shared) (h4 : m'.keep = m.keep) : Memory.wf m' = true := by
  rw [Memory.wf_iff] at h ⊢; rw [h1, h2, h3, h4]; exact h

theorem wf_dram (m : MemState) (k : Nat) (l : List Byte) (h : Memory.wf m = true) :
    Memory.wf { m with dram := msets zeroB m.dram k l } = true := by
  rw [Memory.wf_iff] at h ⊢; exact ⟨msets_wf _ _ _ _ h.1, h.2⟩

theorem wf_ecc (m : MemState) (k : Nat) (e : CwErr) (h : Memory.wf m = true) :
    Memory.wf { m with ecc := mset (fun _ => CwErr.none) m.ecc k e } = true := by
  rw [Memory.wf_iff] at h ⊢; exact ⟨h.1, mset_wf eccUnlisted _ _ _ h.2.1, h.2.2⟩

theorem wf_shared (m : MemState) (k : Nat) (l : List Byte) (h : Memory.wf m = true) :
    Memory.wf { m with shared := msets zeroB m.shared k l } = true := by
  rw [Memory.wf_iff] at h ⊢; exact ⟨h.1, h.2.1, msets_wf _ _ _ _ h.2.2.1, h.2.2.2⟩

theorem setDrc_wf (m : MemState) (ch : Nat) (d : Drc) (h : Memory.wf m = true) : Memory.wf (setDrc m ch d) = true := by
  unfold setDrc; split <;> exact wf_same m _ h rfl rfl rfl rfl

theorem cwWrite_wf (f : Fabric) (m : MemState) (k q : Nat) (d : List (Byte × Bool)) (h : Memory.wf m = true) :
    Memory.wf (cwWrite f m k q d).2 = true := by
  unfold cwWrite
  split
  · exact h
  · split
    · exact wf_ecc _ _ _ (wf_dram m _ _ h)
    · exact wf_ecc _ _ _ (wf_dram m _ _ h)

/-- A fold of steps that each keep the form. -/
theorem foldl_wf {β : Type} (g : Fabric × MemState → β → Fabric × MemState)
    (hg : ∀ a b, Memory.wf a.2 = true → Memory.wf (g a b).2 = true) (l : List β) (a : Fabric × MemState)
    (h : Memory.wf a.2 = true) : Memory.wf (l.foldl g a).2 = true := by
  induction l generalizing a with
  | nil => exact h
  | cons b r ih => exact ih _ (hg a b h)

/-- The same for a fold over the memories alone. -/
theorem foldlM_wf {β : Type} (g : MemState → β → MemState) (hg : ∀ a b, Memory.wf a = true → Memory.wf (g a b) = true)
    (l : List β) (a : MemState) (h : Memory.wf a = true) : Memory.wf (l.foldl g a) = true := by
  induction l generalizing a with
  | nil => exact h
  | cons b r ih => exact ih _ (hg a b h)

/-- The same for a fold that carries a third part. -/
theorem foldl3_wf {β γ : Type} (g : Fabric × MemState × γ → β → Fabric × MemState × γ)
    (hg : ∀ a b, Memory.wf a.2.1 = true → Memory.wf (g a b).2.1 = true) (l : List β) (a : Fabric × MemState × γ)
    (h : Memory.wf a.2.1 = true) : Memory.wf (l.foldl g a).2.1 = true := by
  induction l generalizing a with
  | nil => exact h
  | cons b r ih => exact ih _ (hg a b h)

/-- The memories of a pair are canonical. -/
def wfPair (a : Fabric × MemState) : Prop := Memory.wf a.2 = true

/-- A fold of steps that each keep the form, over pairs. -/
theorem foldl_wfPair {β : Type} (g : Fabric × MemState → β → Fabric × MemState) (hg : ∀ a b, wfPair a → wfPair (g a b)) (l : List β)
    (a : Fabric × MemState) (h : wfPair a) : wfPair (l.foldl g a) := foldl_wf g hg l a h

theorem injectLine_wf (f : Fabric) (m : MemState) (l : Nat) (b : Bool) (h : Memory.wf m = true) :
    Memory.wf (injectLine f m l b).2 = true := by
  unfold injectLine
  dsimp only
  split
  · exact h
  · split
    · exact wf_ecc _ _ _ h
    · exact h

theorem lineWrite_wf (f : Fabric) (m : MemState) (l q : Nat) (d : List (Byte × Bool)) (h : Memory.wf m = true) :
    Memory.wf (lineWrite f m l q d).2 = true :=
  injectLine_wf _ _ _ _ (foldl_wf _ (fun _ _ h => cwWrite_wf _ _ _ _ _ h) _ _ h)

theorem performWrite_wf (f : Fabric) (m : MemState) (r : BusReq) (h : Memory.wf m = true) : Memory.wf (performWrite f m r).2 = true :=
  lineWrite_wf _ _ _ _ _ h

theorem batchLo_wf (f : Fabric) (m : MemState) (ch : Nat) (h : Memory.wf m = true) : Memory.wf (batchLo f m ch) = true := by
  unfold batchLo; dsimp only; split
  · exact setDrc_wf _ _ _ h
  · exact h

theorem batchHi_wf (f : Fabric) (m : MemState) (ch : Nat) (h : Memory.wf m = true) : Memory.wf (batchHi f m ch).2 = true := by
  unfold batchHi; dsimp only; split
  · exact setDrc_wf _ _ _ h
  · exact h

theorem drainLine_wf (f : Fabric) (m : MemState) (l : Nat) (h : Memory.wf m = true) : Memory.wf (drainLine f m l).2.1 = true := by
  unfold drainLine; dsimp only
  have := setDrc_wf _ (dramChan l) { drcOf ((List.filter (fun r => lineOf r.addr == l && wholeReq r) (drcOf m (dramChan l)).wq).foldl
    (fun acc w => performWrite acc.1 acc.2 w) (f, m)).2 (dramChan l) with
      wq := (drcOf m (dramChan l)).wq.filter (fun r => !(lineOf r.addr == l && wholeReq r)) }
    (foldl_wf (fun acc w => performWrite acc.1 acc.2 w) (fun _ _ h => performWrite_wf _ _ _ h)
      (List.filter (fun r => lineOf r.addr == l && wholeReq r) (drcOf m (dramChan l)).wq) (f, m) h)
  split
  · exact this
  · exact batchLo_wf _ _ _ this

theorem dramLine_wf (f : Fabric) (m : MemState) (l q : Nat) (s : Bool) (h : Memory.wf m = true) :
    Memory.wf (dramLine f m l q s).2.1 = true := by
  unfold dramLine; dsimp only; split
  · exact h
  · exact drainLine_wf _ _ _ h

theorem dramRead_wf (f : Fabric) (m : MemState) (q a n : Nat) (h : Memory.wf m = true) : Memory.wf (dramRead f m q a n).2.1 = true := by
  unfold dramRead
  apply foldl3_wf
  · intro acc l h
    exact dramLine_wf _ _ _ _ _ h
  · exact h

theorem dramWriteS_wf (f : Fabric) (m : MemState) (q a : Nat) (d : List (Byte × Bool)) (h : Memory.wf m = true) :
    Memory.wf (dramWriteS f m q a d).2 = true := by
  unfold dramWriteS
  dsimp only
  apply foldl_wf _ _ _ _ h
  intro acc l h
  split
  · exact h
  · exact lineWrite_wf _ _ _ _ _ (drainLine_wf _ _ _ h)

theorem dramWrite_wf (f : Fabric) (m : MemState) (q a : Nat) (d : List Byte) (h : Memory.wf m = true) :
    Memory.wf (dramWrite f m q a d).2 = true := dramWriteS_wf _ _ _ _ _ h

/-- Scrubbing writes back what it corrected. -/
theorem lineClean_wf (m : MemState) (line : Nat) (h : Memory.wf m = true) : Memory.wf (lineClean m line) = true :=
  foldlM_wf _ (fun _ _ h => wf_ecc _ _ _ h) _ _ h

theorem scrubFix_wf (f : Fabric) (m : MemState) (line : Nat) (h : Memory.wf m = true) : Memory.wf (scrubFix f m line).2 = true := by
  unfold scrubFix
  split
  · exact h
  · exact injectLine_wf _ _ _ _ (lineClean_wf _ _ h)

theorem trackGo_wf (f : Fabric) (m : MemState) (ch : Nat) (h : Memory.wf m = true) : Memory.wf (trackGo f m ch).2 = true := by
  unfold trackGo; dsimp only
  split
  · exact h
  · split
    · exact h
    · exact setDrc_wf _ _ _ h

theorem dramTracking_wf (f : Fabric) (m : MemState) (ch ns : Nat) (h : Memory.wf m = true) :
    Memory.wf (dramTracking f m ch ns).2 = true := by
  unfold dramTracking
  split
  · exact trackGo_wf _ _ _ (setDrc_wf _ _ _ h)
  · exact h

theorem scrubLine_wf (f : Fabric) (m : MemState) (ch : Nat) (h : Memory.wf m = true) : Memory.wf (scrubLine f m ch).2 = true := by
  unfold scrubLine
  extract_lets c line r x next
  have key : Memory.wf x.2 = true := scrubFix_wf _ _ _ (dramLine_wf _ _ _ _ _ h)
  split
  · exact h
  · split <;> exact key

theorem dramRefresh_wf (m : MemState) (ch : Nat) (p : Bool) (h : Memory.wf m = true) : Memory.wf (dramRefresh m ch p) = true := by
  unfold dramRefresh; dsimp only; split <;> exact setDrc_wf _ _ _ h

theorem dueFirst_wf (m : MemState) (ch : Nat) (h : Memory.wf m = true) : Memory.wf (dueFirst m ch) = true := by
  unfold dueFirst; split
  · exact setDrc_wf _ _ _ h
  · exact h

theorem drainAll_wf (f : Fabric) (m : MemState) (ch : Nat) (h : Memory.wf m = true) : Memory.wf (drainAll f m ch).2.1 = true :=
  setDrc_wf _ _ _ (foldl_wf _ (fun _ _ h => performWrite_wf _ _ _ h) _ _ h)

theorem sharedPut_wf (m : MemState) (o : Nat) (w : Word) (h : Memory.wf m = true) : Memory.wf (sharedPut m o w) = true :=
  wf_shared _ _ _ h

theorem sharedStrobes_wf (m : MemState) (o : Nat) (d : List (Byte × Bool)) (h : Memory.wf m = true) :
    Memory.wf (sharedStrobes m o d) = true := by
  refine foldlM_wf _ (fun a e h => ?_) _ _ h
  split
  · rw [Memory.wf_iff] at h ⊢; exact ⟨h.1, h.2.1, mset_wf _ _ _ _ h.2.2.1, h.2.2.2⟩
  · exact h

theorem keepPut_wf (f : Fabric) (m : MemState) (v : Word) (h : Memory.wf m = true) : Memory.wf (keepPut f m v).2 = true := by
  rw [Memory.wf_iff] at h ⊢; exact ⟨h.1, h.2.1, h.2.2.1, mset_wf _ _ _ _ h.2.2.2⟩

-- Observation

theorem ringLineOut_wf (f : Fabric) (m : MemState) (h : Memory.wf m = true) : Memory.wf (ringLineOut f m).2 = true := by
  unfold ringLineOut; split
  · exact h
  · exact dramWrite_wf _ _ _ _ _ h

theorem ringPut_wf (f : Fabric) (m : MemState) (c : BitVec 128) (h : Memory.wf m = true) : Memory.wf (ringPut f m c).2 = true := by
  unfold ringPut; dsimp only; split
  · split
    · exact ringLineOut_wf _ _ h
    · exact h
  · exact h

theorem fifoOut_wf (f : Fabric) (m : MemState) (h : Memory.wf m = true) : Memory.wf (fifoOut f m).2 = true := by
  unfold fifoOut; split
  · exact h
  · split
    · exact h
    · exact ringPut_wf _ _ _ h

theorem crumbWrite_wf (f : Fabric) (m : MemState) (p : Nat) (h : Memory.wf m = true) : Memory.wf (crumbWrite f m p).2 = true :=
  fifoOut_wf _ _ h

theorem drainFifo_wf (f : Fabric) (m : MemState) (h : Memory.wf m = true) : wfPair (drainFifo f m) :=
  foldl_wfPair (fun (acc : Fabric × MemState) (_ : Nat) => fifoOut acc.1 acc.2) (fun _ _ h => fifoOut_wf _ _ h) _ _ h

theorem collectPage_wf (p : Nat) (a : Fabric × MemState) (h : wfPair a) :
    wfPair ((upto 4).foldl (fun (acc : Fabric × MemState) _ => drainFifo (collect acc.1 p) acc.2) a) :=
  foldl_wfPair (fun acc _ => drainFifo (collect acc.1 p) acc.2) (fun a _ h => drainFifo_wf (collect a.1 p) a.2 h) (upto 4) a h

theorem collectPages_wf (l : List Nat) (a : Fabric × MemState) (h : wfPair a) :
    wfPair (l.foldl (fun (acc : Fabric × MemState) p =>
      (upto 4).foldl (fun (acc : Fabric × MemState) _ => drainFifo (collect acc.1 p) acc.2) acc) a) :=
  foldl_wfPair (fun (acc : Fabric × MemState) (p : Nat) => (upto 4).foldl (fun (acc : Fabric × MemState) _ => drainFifo (collect acc.1 p) acc.2) acc)
    (fun a p h => collectPage_wf p a h) l a h

theorem collectAll_wf (f : Fabric) (m : MemState) (h : Memory.wf m = true) : wfPair (collectAll f m) := by
  unfold collectAll
  exact collectPages_wf (f.crumbQ.map (·.1)) (drainFifo f m) (drainFifo_wf f m h)

theorem flushEnd_wf (f : Fabric) (m : MemState) (h : Memory.wf m = true) : Memory.wf (flushEnd f m).2 = true := by
  unfold flushEnd
  split
  · exact h
  · exact ringLineOut_wf _ _ (collectAll_wf _ _ h)

-- Operations over DRAM

theorem feedBytes_wf (f : Fabric) (m : MemState) (h : Memory.wf m = true) : Memory.wf (feedBytes f m).2.1 = true := by
  unfold feedBytes; dsimp only; split
  · exact dramRead_wf _ _ _ _ _ h
  · exact h

theorem feedEnd_wf (f : Fabric) (m : MemState) (h : Memory.wf m = true) : Memory.wf (feedEnd f m).2 = true := by
  unfold feedEnd; split
  · exact h
  · dsimp only; split <;> exact feedBytes_wf _ _ h

theorem loadEnd_wf (f : Fabric) (m : MemState) (h : Memory.wf m = true) : Memory.wf (loadEnd f m).2 = true := by
  unfold loadEnd; dsimp only; (repeat' split) <;> first | exact h | exact dramRead_wf _ _ _ _ _ h

theorem ldEnd_wf (f : Fabric) (m : MemState) (x : MtxState) (h : Memory.wf m = true) : Memory.wf (ldEnd f m x).2.1 = true := by
  unfold ldEnd; dsimp only; (repeat' split) <;> first | exact h | exact dramRead_wf _ _ _ _ _ h

theorem sceneBody_wf (f : Fabric) (m : MemState) (l : List Word) (h : Memory.wf m = true) :
    Memory.wf (sceneBody f m l).2.1 = true := dramRead_wf _ _ _ _ _ h

/-- The memories of a triple are canonical. -/
def wfTriple {γ : Type} (a : Fabric × MemState × γ) : Prop := Memory.wf a.2.1 = true

theorem sceneRead_triple (f : Fabric) (r : Fabric × MemState × List (Byte × Bool)) (c : Bool) (hr : wfTriple r) :
    wfTriple (if c then
      let b := sceneBody r.1 r.2.1 (wordsOf 8 (rawBytes r.2.2))
      (b.1, b.2.1, ((wordsOf 8 (rawBytes r.2.2)).getD 3 0).toNat, b.2.2)
    else (r.1, r.2.1, ((wordsOf 8 (rawBytes r.2.2)).getD 3 0).toNat, (none : Option (List (Nat × List Word))))) := by
  cases c
  · exact hr
  · exact sceneBody_wf r.1 r.2.1 _ hr

theorem sceneRead_wf (f : Fabric) (m : MemState) (h : Memory.wf m = true) : wfTriple (sceneRead f m) :=
  sceneRead_triple f (dramRead f m 7 (slotAt f) 32) _ (dramRead_wf f m 7 (slotAt f) 32 h)

theorem recallRead_triple (f : Fabric) (r : Fabric × MemState × List (Byte × Bool)) (c : Bool) (hr : wfTriple r) :
    wfTriple (if c then
      let b := recallBody r.1 r.2.1 (wordsOf 8 (rawBytes r.2.2))
      (b.1, b.2.1, ((wordsOf 8 (rawBytes r.2.2)).getD 3 0).toNat, b.2.2)
    else (r.1, r.2.1, ((wordsOf 8 (rawBytes r.2.2)).getD 3 0).toNat, ([] : List (Nat × List Word)), false)) := by
  cases c
  · exact hr
  · exact dramRead_wf _ _ _ _ _ hr

theorem recallRead_wf (f : Fabric) (m : MemState) (h : Memory.wf m = true) : wfTriple (recallRead f m) :=
  recallRead_triple f (dramRead f m 7 (slotAt f) 32) _ (dramRead_wf f m 7 (slotAt f) 32 h)

-- The network rings

theorem mqDeliver_wf (f : Fabric) (m : MemState) (n : NetState) (p q : Nat) (b : List Byte) (t : Bool) (v c s : Nat)
    (h : Memory.wf m = true) : Memory.wf (mqDeliver f m n p q b t v c s).2.1 = true := by
  unfold mqDeliver
  dsimp only
  split
  · exact h
  · have h1 := dramRead_wf f m 6 (descAt f p q (rdN f (ringAt p q 0xC))) 16 h
    generalize dramRead f m 6 (descAt f p q (rdN f (ringAt p q 0xC))) 16 = r at h1 ⊢
    split
    · exact h1
    · exact dramWrite_wf _ _ _ _ _ (dramWrite_wf _ _ _ _ _ h1)

theorem txBack_wf (f : Fabric) (m : MemState) (n : NetState) (p r i s : Nat) (h : Memory.wf m = true) :
    Memory.wf (txBack f m n p r i s).2.1 = true := dramWrite_wf _ _ _ _ _ h

theorem txDescriptor_wf (f : Fabric) (m : MemState) (n : NetState) (p t : Nat) (h : Memory.wf m = true) :
    Memory.wf (txDescriptor f m n p t).2.1 = true := by
  unfold txDescriptor
  dsimp only
  split
  · exact h
  · generalize mget (fun _ => RingSt.reset) (portOf n p).rings (4 + t) = s
    have h1 := dramRead_wf f m 6 (descAt f p (4 + t) s.fetch) 16 h
    generalize dramRead f m 6 (descAt f p (4 + t) s.fetch) 16 = r at h1 ⊢
    (repeat' split) <;> first | with_reducible exact h1 | with_reducible exact txBack_wf _ _ _ _ _ _ _ h1 | with_reducible exact dramRead_wf _ _ _ _ _ h1

theorem gateDrops_wf (f : Fabric) (m : MemState) (n : NetState) (p : Nat) (h : Memory.wf m = true) :
    Memory.wf (gateDrops f m n p).2.1 = true := by
  unfold gateDrops
  apply foldl3_wf _ _ _ _ h
  intro a t ha
  dsimp only
  (repeat' split) <;> first | exact ha | exact txBack_wf _ _ _ _ _ _ _ ha

theorem lenDrops_wf (f : Fabric) (m : MemState) (n : NetState) (p : Nat) (h : Memory.wf m = true) :
    Memory.wf (lenDrops f m n p).2.1 = true := by
  unfold lenDrops
  apply foldl3_wf _ _ _ _ h
  intro a t ha
  dsimp only
  (repeat' split) <;> first | with_reducible exact ha | with_reducible exact txBack_wf _ _ _ _ _ _ _ ha

theorem txStart_wf (f : Fabric) (m : MemState) (n : NetState) (p s : Nat) (h : Memory.wf m = true) :
    Memory.wf (txStart f m n p s).2.1 = true := by
  unfold txStart
  split
  · exact h
  · have h1 := gateDrops_wf f m (gatesNow f n p) p h
    generalize gateDrops f m (gatesNow f n p) p = r at h1 ⊢
    have h2 := lenDrops_wf r.1 r.2.1 r.2.2 p h1
    dsimp only
    split <;> exact h2

theorem txEnd_wf (f : Fabric) (m : MemState) (n : NetState) (p : Nat) (h : Memory.wf m = true) : Memory.wf (txEnd f m n p).2.1 = true := by
  unfold txEnd
  split
  · exact h
  · dsimp only
    split
    · exact h
    · rename_i t stamp _ _ r i tag req bytes _
      generalize stat _ p 35 = n'
      have := txBack_wf f m n' p r i 0 h
      generalize txBack f m n' p r i 0 = b at this ⊢
      split <;> exact this

theorem gateCtrl_wf (f : Fabric) (m : MemState) (n : NetState) (p : Nat) (v : Word) (h : Memory.wf m = true) :
    Memory.wf (gateCtrl f m n p v).2.1 = true := by
  unfold gateCtrl
  dsimp only
  (repeat' split) <;> first | exact h | exact gateDrops_wf _ _ _ _ h

theorem gateApply_wf (f : Fabric) (m : MemState) (n : NetState) (p : Nat) (h : Memory.wf m = true) :
    Memory.wf (gateApply f m n p).2.1 = true := by
  unfold gateApply
  dsimp only
  (repeat' split) <;> first | exact h | exact gateDrops_wf _ _ _ _ h

theorem rxFrame_wf (f : Fabric) (t : TbState) (m : MemState) (n : NetState) (x : StrmState) (p : Nat)
    (r : RxIn) (h : Memory.wf m = true) : Memory.wf (rxFrame f t m n x p r).2.1 = true := by
  unfold rxFrame
  dsimp only
  (repeat' split) <;> first | exact h | exact mqDeliver_wf _ _ _ _ _ _ _ _ _ _ h

end Sys2Proof.Machine
end

