-- ==== Sys2Proof/Laws/Registers.lean ====
section
/-! SUPPORT. Which register writes do no more than store their fields (R14). -/
namespace Sys2Proof.Machine

/-- Pages from 289 on are unpopulated. -/
theorem blockOf_none (p : Nat) (h : 289 ≤ p) : blockOf p = none := by
  unfold blockOf
  repeat rw [if_neg (by omega)]

set_option maxRecDepth 20000 in
/-- The HST and BUS blocks have one page each. -/
theorem blockOf_single : ∀ p, p < 289 →
    ((blockOf p).map (·.1) = some Block.HST → p = pHST) ∧ ((blockOf p).map (·.1) = some Block.BUS → p = pBUS) := by decide

/-- Every register of the HST and BUS blocks has one value. -/
theorem rowOf_plain (a : Nat) (r : RegRow) (b : Block) (n : Nat) (hb : blockOf (pageOf a) = some (b, n))
    (hr : rowOf a = some r) (ho : ¬offOf a < 0x40) (h : b = .HST ∨ b = .BUS) : r.kind = .plain := by
  unfold rowOf at hr
  rw [hb] at hr
  simp only [if_neg ho] at hr
  have hm := List.mem_of_find?_eq_some hr
  rcases h with rfl | rfl
  · have h1 : ∀ x ∈ rowsHST, x.kind = .plain := by decide
    exact h1 r hm
  · have h1 : ∀ x ∈ rowsBUS, x.kind = .plain := by decide
    exact h1 r hm

/-- A block of one page, by its page. -/
theorem page_of_block (p n : Nat) (b : Block) (h : blockOf p = some (b, n)) :
    (b = .HST → p = pHST) ∧ (b = .BUS → p = pBUS) := by
  have hp : p < 289 := Nat.lt_of_not_le (fun hc => by rw [blockOf_none p hc] at h; cases h)
  exact ⟨fun e => (blockOf_single p hp).1 (by rw [h, e]; rfl), fun e => (blockOf_single p hp).2 (by rw [h, e]; rfl)⟩

/-- An HST register whose write does not act. -/
theorem hstWrite_plain (s : State) (q a : Nat) (v : Word) (r : RegRow) (hp : pageOf a = pHST) (hk : r.kind = .plain)
    (h1 : offOf a ≠ 0x54) (h2 : 0x100 ≤ offOf a → offOf a < 0x584 → False)
    (h3 : 0x600 ≤ offOf a → offOf a < 0x700 → ¬offOf a % 0x20 = 0x14 ∧ ¬offOf a % 0x20 = 0x18)
    (h4 : 0x800 ≤ offOf a → offOf a < 0xC00 → ¬offOf a % 16 = 12) :
    hstWrite s (offOf a) v r = onF s (fun f => plainWrite f q a v r) := by
  have e : ra pHST (offOf a) = a := by
    rw [← hp]; unfold ra pageOf offOf; omega
  unfold hstWrite plainWrite
  simp only [hk, e]
  rw [if_neg h1, if_neg (fun x => h2 x.1 x.2), if_neg (fun x => (h3 x.1 x.2.1).1 x.2.2), if_neg (fun x => (h3 x.1 x.2.1).2 x.2.2),
    if_neg (fun x => h4 x.1 x.2.1 x.2.2)]

/-- A BUS register whose write is not checked. -/
theorem busCfg_plain (f : Fabric) (q a : Nat) (v : Word) (r : RegRow) (hp : pageOf a = pBUS) (hk : r.kind = .plain)
    (h1 : 0x40 ≤ offOf a → offOf a < 0x90 → ¬offOf a % 8 = 0) (h2 : offOf a ≠ 0xA0) (h3 : offOf a ≠ 0xA4) :
    busCfgWrite f (offOf a) v r = plainWrite f q a v r := by
  have e : ra pBUS (offOf a) = a := by
    rw [← hp]; unfold ra pageOf offOf; omega
  unfold busCfgWrite plainWrite
  simp only [hk, e]
  repeat' (first | rfl | (exfalso; omega) | split)

/-- A register whose write does not act is stored by its access types. -/
theorem blockWrite_of_not_acts (s : State) (q a : Nat) (v : Word) (r : RegRow) (h : actsOnWrite a = false)
    (h4 : offOf a % 4 = 0) (hr : rowOf a = some r) (ho : ¬offOf a < 0x40) :
    blockWrite s q a v r = onF s (fun f => plainWrite f q a v r) := by
  have hlt : offOf a < 4096 := Nat.mod_lt _ (by decide)
  unfold actsOnWrite at h
  unfold blockWrite
  simp only [Bool.or_eq_false_iff] at h
  obtain ⟨⟨h1, h2⟩, h3⟩ := h
  have e1 : opAt a = none := by simpa using h1
  have e2 : clearOff (pageOf a) ≠ some (offOf a) := by simpa using h2
  rw [e1]
  simp only [if_neg e2]
  split at h3 <;> rename_i hb <;> simp at h3
  case h_4 =>
    exact hstWrite_plain s q a v r ((page_of_block _ _ _ hb).1 rfl) (rowOf_plain a r _ _ hb hr ho (.inl rfl)) h3.1.1.1
      (fun x y => h3.1.1.2 x y h4) (fun x y => h3.1.2 x y) h3.2
  case h_5 =>
    exact congrArg (onF s) (funext fun f => busCfg_plain f q a v r ((page_of_block _ _ _ hb).2 rfl)
      (rowOf_plain a r _ _ hb hr ho (.inr rfl)) h3.1 h3.2.1 h3.2.2)
  case h_22 => split at h3 <;> (repeat' (first | with_reducible rfl | (exfalso; omega) | split))
  all_goals (repeat' (first | with_reducible rfl | (exfalso; omega) | split))

end Sys2Proof.Machine
end

