-- ==== Sys2Proof/Laws/State.lean ====
section
/-! SUPPORT. What the lifted operations leave of each field of the state, one lemma for each field and operation, and the
outcomes of the guards. -/
namespace Sys2Proof.Machine

@[simp] theorem onF_pending (s : State) (g : Fabric → Fabric) : (onF s g).pending = s.pending := rfl
@[simp] theorem onF_mem (s : State) (g : Fabric → Fabric) : (onF s g).mem = s.mem := rfl
@[simp] theorem onF_bus (s : State) (g : Fabric → Fabric) : (onF s g).bus = s.bus := rfl
@[simp] theorem onF_host (s : State) (g : Fabric → Fabric) : (onF s g).host = s.host := rfl
@[simp] theorem onF_pwr (s : State) (g : Fabric → Fabric) : (onF s g).pwr = s.pwr := rfl
@[simp] theorem onF_tap (s : State) (g : Fabric → Fabric) : (onF s g).tap = s.tap := rfl
@[simp] theorem onF_ren (s : State) (g : Fabric → Fabric) : (onF s g).ren = s.ren := rfl
@[simp] theorem onF_aud (s : State) (g : Fabric → Fabric) : (onF s g).aud = s.aud := rfl
@[simp] theorem onF_mtx (s : State) (g : Fabric → Fabric) : (onF s g).mtx = s.mtx := rfl
@[simp] theorem onF_chains (s : State) (g : Fabric → Fabric) : (onF s g).chains = s.chains := rfl
@[simp] theorem onF_inc (s : State) (g : Fabric → Fabric) : (onF s g).inc = s.inc := rfl
@[simp] theorem onF_cores (s : State) (g : Fabric → Fabric) : (onF s g).cores = s.cores := rfl
@[simp] theorem onF_tb (s : State) (g : Fabric → Fabric) : (onF s g).tb = s.tb := rfl
@[simp] theorem onF_ref (s : State) (g : Fabric → Fabric) : (onF s g).ref = s.ref := rfl
@[simp] theorem onF_ports (s : State) (g : Fabric → Fabric) : (onF s g).ports = s.ports := rfl
@[simp] theorem onF_net (s : State) (g : Fabric → Fabric) : (onF s g).net = s.net := rfl
@[simp] theorem onF_strm (s : State) (g : Fabric → Fabric) : (onF s g).strm = s.strm := rfl
@[simp] theorem onF_stk (s : State) (g : Fabric → Fabric) : (onF s g).stk = s.stk := rfl
@[simp] theorem onF_tri (s : State) (g : Fabric → Fabric) : (onF s g).tri = s.tri := rfl
@[simp] theorem onF_fab (s : State) (g : Fabric → Fabric) : (onF s g).fab = g s.fab := rfl
@[simp] theorem onMem_pending (s : State) (g : Fabric → MemState → Fabric × MemState) : (onMem s g).pending = s.pending := rfl
@[simp] theorem onMem_fab (s : State) (g : Fabric → MemState → Fabric × MemState) : (onMem s g).fab = (g s.fab s.mem).1 := rfl
@[simp] theorem onMem_mem (s : State) (g : Fabric → MemState → Fabric × MemState) : (onMem s g).mem = (g s.fab s.mem).2 := rfl
@[simp] theorem onMem_bus (s : State) (g : Fabric → MemState → Fabric × MemState) : (onMem s g).bus = s.bus := rfl
@[simp] theorem onMem_host (s : State) (g : Fabric → MemState → Fabric × MemState) : (onMem s g).host = s.host := rfl
@[simp] theorem onMem_pwr (s : State) (g : Fabric → MemState → Fabric × MemState) : (onMem s g).pwr = s.pwr := rfl
@[simp] theorem onMem_tap (s : State) (g : Fabric → MemState → Fabric × MemState) : (onMem s g).tap = s.tap := rfl
@[simp] theorem onMem_ren (s : State) (g : Fabric → MemState → Fabric × MemState) : (onMem s g).ren = s.ren := rfl
@[simp] theorem onMem_aud (s : State) (g : Fabric → MemState → Fabric × MemState) : (onMem s g).aud = s.aud := rfl
@[simp] theorem onMem_mtx (s : State) (g : Fabric → MemState → Fabric × MemState) : (onMem s g).mtx = s.mtx := rfl
@[simp] theorem onMem_chains (s : State) (g : Fabric → MemState → Fabric × MemState) : (onMem s g).chains = s.chains := rfl
@[simp] theorem onMem_inc (s : State) (g : Fabric → MemState → Fabric × MemState) : (onMem s g).inc = s.inc := rfl
@[simp] theorem onMem_cores (s : State) (g : Fabric → MemState → Fabric × MemState) : (onMem s g).cores = s.cores := rfl
@[simp] theorem onMem_tb (s : State) (g : Fabric → MemState → Fabric × MemState) : (onMem s g).tb = s.tb := rfl
@[simp] theorem onMem_ref (s : State) (g : Fabric → MemState → Fabric × MemState) : (onMem s g).ref = s.ref := rfl
@[simp] theorem onMem_ports (s : State) (g : Fabric → MemState → Fabric × MemState) : (onMem s g).ports = s.ports := rfl
@[simp] theorem onMem_net (s : State) (g : Fabric → MemState → Fabric × MemState) : (onMem s g).net = s.net := rfl
@[simp] theorem onMem_strm (s : State) (g : Fabric → MemState → Fabric × MemState) : (onMem s g).strm = s.strm := rfl
@[simp] theorem onMem_stk (s : State) (g : Fabric → MemState → Fabric × MemState) : (onMem s g).stk = s.stk := rfl
@[simp] theorem onMem_tri (s : State) (g : Fabric → MemState → Fabric × MemState) : (onMem s g).tri = s.tri := rfl
@[simp] theorem onPwr_pending (s : State) (g : Fabric → PwrState → Fabric × PwrState) : (onPwr s g).pending = s.pending := rfl
@[simp] theorem onPwr_fab (s : State) (g : Fabric → PwrState → Fabric × PwrState) : (onPwr s g).fab = (g s.fab s.pwr).1 := rfl
@[simp] theorem onPwr_mem (s : State) (g : Fabric → PwrState → Fabric × PwrState) : (onPwr s g).mem = s.mem := rfl
@[simp] theorem onPwr_bus (s : State) (g : Fabric → PwrState → Fabric × PwrState) : (onPwr s g).bus = s.bus := rfl
@[simp] theorem onPwr_host (s : State) (g : Fabric → PwrState → Fabric × PwrState) : (onPwr s g).host = s.host := rfl
@[simp] theorem onPwr_pwr (s : State) (g : Fabric → PwrState → Fabric × PwrState) : (onPwr s g).pwr = (g s.fab s.pwr).2 := rfl
@[simp] theorem onPwr_tap (s : State) (g : Fabric → PwrState → Fabric × PwrState) : (onPwr s g).tap = s.tap := rfl
@[simp] theorem onPwr_ren (s : State) (g : Fabric → PwrState → Fabric × PwrState) : (onPwr s g).ren = s.ren := rfl
@[simp] theorem onPwr_aud (s : State) (g : Fabric → PwrState → Fabric × PwrState) : (onPwr s g).aud = s.aud := rfl
@[simp] theorem onPwr_mtx (s : State) (g : Fabric → PwrState → Fabric × PwrState) : (onPwr s g).mtx = s.mtx := rfl
@[simp] theorem onPwr_chains (s : State) (g : Fabric → PwrState → Fabric × PwrState) : (onPwr s g).chains = s.chains := rfl
@[simp] theorem onPwr_inc (s : State) (g : Fabric → PwrState → Fabric × PwrState) : (onPwr s g).inc = s.inc := rfl
@[simp] theorem onPwr_cores (s : State) (g : Fabric → PwrState → Fabric × PwrState) : (onPwr s g).cores = s.cores := rfl
@[simp] theorem onPwr_tb (s : State) (g : Fabric → PwrState → Fabric × PwrState) : (onPwr s g).tb = s.tb := rfl
@[simp] theorem onPwr_ref (s : State) (g : Fabric → PwrState → Fabric × PwrState) : (onPwr s g).ref = s.ref := rfl
@[simp] theorem onPwr_ports (s : State) (g : Fabric → PwrState → Fabric × PwrState) : (onPwr s g).ports = s.ports := rfl
@[simp] theorem onPwr_net (s : State) (g : Fabric → PwrState → Fabric × PwrState) : (onPwr s g).net = s.net := rfl
@[simp] theorem onPwr_strm (s : State) (g : Fabric → PwrState → Fabric × PwrState) : (onPwr s g).strm = s.strm := rfl
@[simp] theorem onPwr_stk (s : State) (g : Fabric → PwrState → Fabric × PwrState) : (onPwr s g).stk = s.stk := rfl
@[simp] theorem onPwr_tri (s : State) (g : Fabric → PwrState → Fabric × PwrState) : (onPwr s g).tri = s.tri := rfl
@[simp] theorem onRen_pending (s : State) (g : Fabric → RenderState → Fabric × RenderState) : (onRen s g).pending = s.pending := rfl
@[simp] theorem onRen_fab (s : State) (g : Fabric → RenderState → Fabric × RenderState) : (onRen s g).fab = (g s.fab s.ren).1 := rfl
@[simp] theorem onRen_mem (s : State) (g : Fabric → RenderState → Fabric × RenderState) : (onRen s g).mem = s.mem := rfl
@[simp] theorem onRen_bus (s : State) (g : Fabric → RenderState → Fabric × RenderState) : (onRen s g).bus = s.bus := rfl
@[simp] theorem onRen_host (s : State) (g : Fabric → RenderState → Fabric × RenderState) : (onRen s g).host = s.host := rfl
@[simp] theorem onRen_pwr (s : State) (g : Fabric → RenderState → Fabric × RenderState) : (onRen s g).pwr = s.pwr := rfl
@[simp] theorem onRen_tap (s : State) (g : Fabric → RenderState → Fabric × RenderState) : (onRen s g).tap = s.tap := rfl
@[simp] theorem onRen_ren (s : State) (g : Fabric → RenderState → Fabric × RenderState) : (onRen s g).ren = (g s.fab s.ren).2 := rfl
@[simp] theorem onRen_aud (s : State) (g : Fabric → RenderState → Fabric × RenderState) : (onRen s g).aud = s.aud := rfl
@[simp] theorem onRen_mtx (s : State) (g : Fabric → RenderState → Fabric × RenderState) : (onRen s g).mtx = s.mtx := rfl
@[simp] theorem onRen_chains (s : State) (g : Fabric → RenderState → Fabric × RenderState) : (onRen s g).chains = s.chains := rfl
@[simp] theorem onRen_inc (s : State) (g : Fabric → RenderState → Fabric × RenderState) : (onRen s g).inc = s.inc := rfl
@[simp] theorem onRen_cores (s : State) (g : Fabric → RenderState → Fabric × RenderState) : (onRen s g).cores = s.cores := rfl
@[simp] theorem onRen_tb (s : State) (g : Fabric → RenderState → Fabric × RenderState) : (onRen s g).tb = s.tb := rfl
@[simp] theorem onRen_ref (s : State) (g : Fabric → RenderState → Fabric × RenderState) : (onRen s g).ref = s.ref := rfl
@[simp] theorem onRen_ports (s : State) (g : Fabric → RenderState → Fabric × RenderState) : (onRen s g).ports = s.ports := rfl
@[simp] theorem onRen_net (s : State) (g : Fabric → RenderState → Fabric × RenderState) : (onRen s g).net = s.net := rfl
@[simp] theorem onRen_strm (s : State) (g : Fabric → RenderState → Fabric × RenderState) : (onRen s g).strm = s.strm := rfl
@[simp] theorem onRen_stk (s : State) (g : Fabric → RenderState → Fabric × RenderState) : (onRen s g).stk = s.stk := rfl
@[simp] theorem onRen_tri (s : State) (g : Fabric → RenderState → Fabric × RenderState) : (onRen s g).tri = s.tri := rfl
@[simp] theorem onMtx_pending (s : State) (g : Fabric → MtxState → Fabric × MtxState) : (onMtx s g).pending = s.pending := rfl
@[simp] theorem onMtx_fab (s : State) (g : Fabric → MtxState → Fabric × MtxState) : (onMtx s g).fab = (g s.fab s.mtx).1 := rfl
@[simp] theorem onMtx_mem (s : State) (g : Fabric → MtxState → Fabric × MtxState) : (onMtx s g).mem = s.mem := rfl
@[simp] theorem onMtx_bus (s : State) (g : Fabric → MtxState → Fabric × MtxState) : (onMtx s g).bus = s.bus := rfl
@[simp] theorem onMtx_host (s : State) (g : Fabric → MtxState → Fabric × MtxState) : (onMtx s g).host = s.host := rfl
@[simp] theorem onMtx_pwr (s : State) (g : Fabric → MtxState → Fabric × MtxState) : (onMtx s g).pwr = s.pwr := rfl
@[simp] theorem onMtx_tap (s : State) (g : Fabric → MtxState → Fabric × MtxState) : (onMtx s g).tap = s.tap := rfl
@[simp] theorem onMtx_ren (s : State) (g : Fabric → MtxState → Fabric × MtxState) : (onMtx s g).ren = s.ren := rfl
@[simp] theorem onMtx_aud (s : State) (g : Fabric → MtxState → Fabric × MtxState) : (onMtx s g).aud = s.aud := rfl
@[simp] theorem onMtx_mtx (s : State) (g : Fabric → MtxState → Fabric × MtxState) : (onMtx s g).mtx = (g s.fab s.mtx).2 := rfl
@[simp] theorem onMtx_chains (s : State) (g : Fabric → MtxState → Fabric × MtxState) : (onMtx s g).chains = s.chains := rfl
@[simp] theorem onMtx_inc (s : State) (g : Fabric → MtxState → Fabric × MtxState) : (onMtx s g).inc = s.inc := rfl
@[simp] theorem onMtx_cores (s : State) (g : Fabric → MtxState → Fabric × MtxState) : (onMtx s g).cores = s.cores := rfl
@[simp] theorem onMtx_tb (s : State) (g : Fabric → MtxState → Fabric × MtxState) : (onMtx s g).tb = s.tb := rfl
@[simp] theorem onMtx_ref (s : State) (g : Fabric → MtxState → Fabric × MtxState) : (onMtx s g).ref = s.ref := rfl
@[simp] theorem onMtx_ports (s : State) (g : Fabric → MtxState → Fabric × MtxState) : (onMtx s g).ports = s.ports := rfl
@[simp] theorem onMtx_net (s : State) (g : Fabric → MtxState → Fabric × MtxState) : (onMtx s g).net = s.net := rfl
@[simp] theorem onMtx_strm (s : State) (g : Fabric → MtxState → Fabric × MtxState) : (onMtx s g).strm = s.strm := rfl
@[simp] theorem onMtx_stk (s : State) (g : Fabric → MtxState → Fabric × MtxState) : (onMtx s g).stk = s.stk := rfl
@[simp] theorem onMtx_tri (s : State) (g : Fabric → MtxState → Fabric × MtxState) : (onMtx s g).tri = s.tri := rfl
@[simp] theorem onChains_pending (s : State) (g : Fabric → ChainState → Fabric × ChainState) : (onChains s g).pending = s.pending := rfl
@[simp] theorem onChains_fab (s : State) (g : Fabric → ChainState → Fabric × ChainState) : (onChains s g).fab = (g s.fab s.chains).1 := rfl
@[simp] theorem onChains_mem (s : State) (g : Fabric → ChainState → Fabric × ChainState) : (onChains s g).mem = s.mem := rfl
@[simp] theorem onChains_bus (s : State) (g : Fabric → ChainState → Fabric × ChainState) : (onChains s g).bus = s.bus := rfl
@[simp] theorem onChains_host (s : State) (g : Fabric → ChainState → Fabric × ChainState) : (onChains s g).host = s.host := rfl
@[simp] theorem onChains_pwr (s : State) (g : Fabric → ChainState → Fabric × ChainState) : (onChains s g).pwr = s.pwr := rfl
@[simp] theorem onChains_tap (s : State) (g : Fabric → ChainState → Fabric × ChainState) : (onChains s g).tap = s.tap := rfl
@[simp] theorem onChains_ren (s : State) (g : Fabric → ChainState → Fabric × ChainState) : (onChains s g).ren = s.ren := rfl
@[simp] theorem onChains_aud (s : State) (g : Fabric → ChainState → Fabric × ChainState) : (onChains s g).aud = s.aud := rfl
@[simp] theorem onChains_mtx (s : State) (g : Fabric → ChainState → Fabric × ChainState) : (onChains s g).mtx = s.mtx := rfl
@[simp] theorem onChains_chains (s : State) (g : Fabric → ChainState → Fabric × ChainState) : (onChains s g).chains = (g s.fab s.chains).2 := rfl
@[simp] theorem onChains_inc (s : State) (g : Fabric → ChainState → Fabric × ChainState) : (onChains s g).inc = s.inc := rfl
@[simp] theorem onChains_cores (s : State) (g : Fabric → ChainState → Fabric × ChainState) : (onChains s g).cores = s.cores := rfl
@[simp] theorem onChains_tb (s : State) (g : Fabric → ChainState → Fabric × ChainState) : (onChains s g).tb = s.tb := rfl
@[simp] theorem onChains_ref (s : State) (g : Fabric → ChainState → Fabric × ChainState) : (onChains s g).ref = s.ref := rfl
@[simp] theorem onChains_ports (s : State) (g : Fabric → ChainState → Fabric × ChainState) : (onChains s g).ports = s.ports := rfl
@[simp] theorem onChains_net (s : State) (g : Fabric → ChainState → Fabric × ChainState) : (onChains s g).net = s.net := rfl
@[simp] theorem onChains_strm (s : State) (g : Fabric → ChainState → Fabric × ChainState) : (onChains s g).strm = s.strm := rfl
@[simp] theorem onChains_stk (s : State) (g : Fabric → ChainState → Fabric × ChainState) : (onChains s g).stk = s.stk := rfl
@[simp] theorem onChains_tri (s : State) (g : Fabric → ChainState → Fabric × ChainState) : (onChains s g).tri = s.tri := rfl
@[simp] theorem onInc_pending (s : State) (g : Fabric → IncState → Fabric × IncState) : (onInc s g).pending = s.pending := rfl
@[simp] theorem onInc_fab (s : State) (g : Fabric → IncState → Fabric × IncState) : (onInc s g).fab = (g s.fab s.inc).1 := rfl
@[simp] theorem onInc_mem (s : State) (g : Fabric → IncState → Fabric × IncState) : (onInc s g).mem = s.mem := rfl
@[simp] theorem onInc_bus (s : State) (g : Fabric → IncState → Fabric × IncState) : (onInc s g).bus = s.bus := rfl
@[simp] theorem onInc_host (s : State) (g : Fabric → IncState → Fabric × IncState) : (onInc s g).host = s.host := rfl
@[simp] theorem onInc_pwr (s : State) (g : Fabric → IncState → Fabric × IncState) : (onInc s g).pwr = s.pwr := rfl
@[simp] theorem onInc_tap (s : State) (g : Fabric → IncState → Fabric × IncState) : (onInc s g).tap = s.tap := rfl
@[simp] theorem onInc_ren (s : State) (g : Fabric → IncState → Fabric × IncState) : (onInc s g).ren = s.ren := rfl
@[simp] theorem onInc_aud (s : State) (g : Fabric → IncState → Fabric × IncState) : (onInc s g).aud = s.aud := rfl
@[simp] theorem onInc_mtx (s : State) (g : Fabric → IncState → Fabric × IncState) : (onInc s g).mtx = s.mtx := rfl
@[simp] theorem onInc_chains (s : State) (g : Fabric → IncState → Fabric × IncState) : (onInc s g).chains = s.chains := rfl
@[simp] theorem onInc_inc (s : State) (g : Fabric → IncState → Fabric × IncState) : (onInc s g).inc = (g s.fab s.inc).2 := rfl
@[simp] theorem onInc_cores (s : State) (g : Fabric → IncState → Fabric × IncState) : (onInc s g).cores = s.cores := rfl
@[simp] theorem onInc_tb (s : State) (g : Fabric → IncState → Fabric × IncState) : (onInc s g).tb = s.tb := rfl
@[simp] theorem onInc_ref (s : State) (g : Fabric → IncState → Fabric × IncState) : (onInc s g).ref = s.ref := rfl
@[simp] theorem onInc_ports (s : State) (g : Fabric → IncState → Fabric × IncState) : (onInc s g).ports = s.ports := rfl
@[simp] theorem onInc_net (s : State) (g : Fabric → IncState → Fabric × IncState) : (onInc s g).net = s.net := rfl
@[simp] theorem onInc_strm (s : State) (g : Fabric → IncState → Fabric × IncState) : (onInc s g).strm = s.strm := rfl
@[simp] theorem onInc_stk (s : State) (g : Fabric → IncState → Fabric × IncState) : (onInc s g).stk = s.stk := rfl
@[simp] theorem onInc_tri (s : State) (g : Fabric → IncState → Fabric × IncState) : (onInc s g).tri = s.tri := rfl
@[simp] theorem onCores_pending (s : State) (g : Fabric → CoreState → Fabric × CoreState) : (onCores s g).pending = s.pending := rfl
@[simp] theorem onCores_fab (s : State) (g : Fabric → CoreState → Fabric × CoreState) : (onCores s g).fab = (g s.fab s.cores).1 := rfl
@[simp] theorem onCores_mem (s : State) (g : Fabric → CoreState → Fabric × CoreState) : (onCores s g).mem = s.mem := rfl
@[simp] theorem onCores_bus (s : State) (g : Fabric → CoreState → Fabric × CoreState) : (onCores s g).bus = s.bus := rfl
@[simp] theorem onCores_host (s : State) (g : Fabric → CoreState → Fabric × CoreState) : (onCores s g).host = s.host := rfl
@[simp] theorem onCores_pwr (s : State) (g : Fabric → CoreState → Fabric × CoreState) : (onCores s g).pwr = s.pwr := rfl
@[simp] theorem onCores_tap (s : State) (g : Fabric → CoreState → Fabric × CoreState) : (onCores s g).tap = s.tap := rfl
@[simp] theorem onCores_ren (s : State) (g : Fabric → CoreState → Fabric × CoreState) : (onCores s g).ren = s.ren := rfl
@[simp] theorem onCores_aud (s : State) (g : Fabric → CoreState → Fabric × CoreState) : (onCores s g).aud = s.aud := rfl
@[simp] theorem onCores_mtx (s : State) (g : Fabric → CoreState → Fabric × CoreState) : (onCores s g).mtx = s.mtx := rfl
@[simp] theorem onCores_chains (s : State) (g : Fabric → CoreState → Fabric × CoreState) : (onCores s g).chains = s.chains := rfl
@[simp] theorem onCores_inc (s : State) (g : Fabric → CoreState → Fabric × CoreState) : (onCores s g).inc = s.inc := rfl
@[simp] theorem onCores_cores (s : State) (g : Fabric → CoreState → Fabric × CoreState) : (onCores s g).cores = (g s.fab s.cores).2 := rfl
@[simp] theorem onCores_tb (s : State) (g : Fabric → CoreState → Fabric × CoreState) : (onCores s g).tb = s.tb := rfl
@[simp] theorem onCores_ref (s : State) (g : Fabric → CoreState → Fabric × CoreState) : (onCores s g).ref = s.ref := rfl
@[simp] theorem onCores_ports (s : State) (g : Fabric → CoreState → Fabric × CoreState) : (onCores s g).ports = s.ports := rfl
@[simp] theorem onCores_net (s : State) (g : Fabric → CoreState → Fabric × CoreState) : (onCores s g).net = s.net := rfl
@[simp] theorem onCores_strm (s : State) (g : Fabric → CoreState → Fabric × CoreState) : (onCores s g).strm = s.strm := rfl
@[simp] theorem onCores_stk (s : State) (g : Fabric → CoreState → Fabric × CoreState) : (onCores s g).stk = s.stk := rfl
@[simp] theorem onCores_tri (s : State) (g : Fabric → CoreState → Fabric × CoreState) : (onCores s g).tri = s.tri := rfl
@[simp] theorem onTb_pending (s : State) (g : Fabric → TbState → Fabric × TbState) : (onTb s g).pending = s.pending := rfl
@[simp] theorem onTb_fab (s : State) (g : Fabric → TbState → Fabric × TbState) : (onTb s g).fab = (g s.fab s.tb).1 := rfl
@[simp] theorem onTb_mem (s : State) (g : Fabric → TbState → Fabric × TbState) : (onTb s g).mem = s.mem := rfl
@[simp] theorem onTb_bus (s : State) (g : Fabric → TbState → Fabric × TbState) : (onTb s g).bus = s.bus := rfl
@[simp] theorem onTb_host (s : State) (g : Fabric → TbState → Fabric × TbState) : (onTb s g).host = s.host := rfl
@[simp] theorem onTb_pwr (s : State) (g : Fabric → TbState → Fabric × TbState) : (onTb s g).pwr = s.pwr := rfl
@[simp] theorem onTb_tap (s : State) (g : Fabric → TbState → Fabric × TbState) : (onTb s g).tap = s.tap := rfl
@[simp] theorem onTb_ren (s : State) (g : Fabric → TbState → Fabric × TbState) : (onTb s g).ren = s.ren := rfl
@[simp] theorem onTb_aud (s : State) (g : Fabric → TbState → Fabric × TbState) : (onTb s g).aud = s.aud := rfl
@[simp] theorem onTb_mtx (s : State) (g : Fabric → TbState → Fabric × TbState) : (onTb s g).mtx = s.mtx := rfl
@[simp] theorem onTb_chains (s : State) (g : Fabric → TbState → Fabric × TbState) : (onTb s g).chains = s.chains := rfl
@[simp] theorem onTb_inc (s : State) (g : Fabric → TbState → Fabric × TbState) : (onTb s g).inc = s.inc := rfl
@[simp] theorem onTb_cores (s : State) (g : Fabric → TbState → Fabric × TbState) : (onTb s g).cores = s.cores := rfl
@[simp] theorem onTb_tb (s : State) (g : Fabric → TbState → Fabric × TbState) : (onTb s g).tb = (g s.fab s.tb).2 := rfl
@[simp] theorem onTb_ref (s : State) (g : Fabric → TbState → Fabric × TbState) : (onTb s g).ref = s.ref := rfl
@[simp] theorem onTb_ports (s : State) (g : Fabric → TbState → Fabric × TbState) : (onTb s g).ports = s.ports := rfl
@[simp] theorem onTb_net (s : State) (g : Fabric → TbState → Fabric × TbState) : (onTb s g).net = s.net := rfl
@[simp] theorem onTb_strm (s : State) (g : Fabric → TbState → Fabric × TbState) : (onTb s g).strm = s.strm := rfl
@[simp] theorem onTb_stk (s : State) (g : Fabric → TbState → Fabric × TbState) : (onTb s g).stk = s.stk := rfl
@[simp] theorem onTb_tri (s : State) (g : Fabric → TbState → Fabric × TbState) : (onTb s g).tri = s.tri := rfl
@[simp] theorem onRef_pending (s : State) (g : Fabric → RefState → Fabric × RefState) : (onRef s g).pending = s.pending := rfl
@[simp] theorem onRef_fab (s : State) (g : Fabric → RefState → Fabric × RefState) : (onRef s g).fab = (g s.fab s.ref).1 := rfl
@[simp] theorem onRef_mem (s : State) (g : Fabric → RefState → Fabric × RefState) : (onRef s g).mem = s.mem := rfl
@[simp] theorem onRef_bus (s : State) (g : Fabric → RefState → Fabric × RefState) : (onRef s g).bus = s.bus := rfl
@[simp] theorem onRef_host (s : State) (g : Fabric → RefState → Fabric × RefState) : (onRef s g).host = s.host := rfl
@[simp] theorem onRef_pwr (s : State) (g : Fabric → RefState → Fabric × RefState) : (onRef s g).pwr = s.pwr := rfl
@[simp] theorem onRef_tap (s : State) (g : Fabric → RefState → Fabric × RefState) : (onRef s g).tap = s.tap := rfl
@[simp] theorem onRef_ren (s : State) (g : Fabric → RefState → Fabric × RefState) : (onRef s g).ren = s.ren := rfl
@[simp] theorem onRef_aud (s : State) (g : Fabric → RefState → Fabric × RefState) : (onRef s g).aud = s.aud := rfl
@[simp] theorem onRef_mtx (s : State) (g : Fabric → RefState → Fabric × RefState) : (onRef s g).mtx = s.mtx := rfl
@[simp] theorem onRef_chains (s : State) (g : Fabric → RefState → Fabric × RefState) : (onRef s g).chains = s.chains := rfl
@[simp] theorem onRef_inc (s : State) (g : Fabric → RefState → Fabric × RefState) : (onRef s g).inc = s.inc := rfl
@[simp] theorem onRef_cores (s : State) (g : Fabric → RefState → Fabric × RefState) : (onRef s g).cores = s.cores := rfl
@[simp] theorem onRef_tb (s : State) (g : Fabric → RefState → Fabric × RefState) : (onRef s g).tb = s.tb := rfl
@[simp] theorem onRef_ref (s : State) (g : Fabric → RefState → Fabric × RefState) : (onRef s g).ref = (g s.fab s.ref).2 := rfl
@[simp] theorem onRef_ports (s : State) (g : Fabric → RefState → Fabric × RefState) : (onRef s g).ports = s.ports := rfl
@[simp] theorem onRef_net (s : State) (g : Fabric → RefState → Fabric × RefState) : (onRef s g).net = s.net := rfl
@[simp] theorem onRef_strm (s : State) (g : Fabric → RefState → Fabric × RefState) : (onRef s g).strm = s.strm := rfl
@[simp] theorem onRef_stk (s : State) (g : Fabric → RefState → Fabric × RefState) : (onRef s g).stk = s.stk := rfl
@[simp] theorem onRef_tri (s : State) (g : Fabric → RefState → Fabric × RefState) : (onRef s g).tri = s.tri := rfl
@[simp] theorem onPorts_pending (s : State) (g : Fabric → PortState → Fabric × PortState) : (onPorts s g).pending = s.pending := rfl
@[simp] theorem onPorts_fab (s : State) (g : Fabric → PortState → Fabric × PortState) : (onPorts s g).fab = (g s.fab s.ports).1 := rfl
@[simp] theorem onPorts_mem (s : State) (g : Fabric → PortState → Fabric × PortState) : (onPorts s g).mem = s.mem := rfl
@[simp] theorem onPorts_bus (s : State) (g : Fabric → PortState → Fabric × PortState) : (onPorts s g).bus = s.bus := rfl
@[simp] theorem onPorts_host (s : State) (g : Fabric → PortState → Fabric × PortState) : (onPorts s g).host = s.host := rfl
@[simp] theorem onPorts_pwr (s : State) (g : Fabric → PortState → Fabric × PortState) : (onPorts s g).pwr = s.pwr := rfl
@[simp] theorem onPorts_tap (s : State) (g : Fabric → PortState → Fabric × PortState) : (onPorts s g).tap = s.tap := rfl
@[simp] theorem onPorts_ren (s : State) (g : Fabric → PortState → Fabric × PortState) : (onPorts s g).ren = s.ren := rfl
@[simp] theorem onPorts_aud (s : State) (g : Fabric → PortState → Fabric × PortState) : (onPorts s g).aud = s.aud := rfl
@[simp] theorem onPorts_mtx (s : State) (g : Fabric → PortState → Fabric × PortState) : (onPorts s g).mtx = s.mtx := rfl
@[simp] theorem onPorts_chains (s : State) (g : Fabric → PortState → Fabric × PortState) : (onPorts s g).chains = s.chains := rfl
@[simp] theorem onPorts_inc (s : State) (g : Fabric → PortState → Fabric × PortState) : (onPorts s g).inc = s.inc := rfl
@[simp] theorem onPorts_cores (s : State) (g : Fabric → PortState → Fabric × PortState) : (onPorts s g).cores = s.cores := rfl
@[simp] theorem onPorts_tb (s : State) (g : Fabric → PortState → Fabric × PortState) : (onPorts s g).tb = s.tb := rfl
@[simp] theorem onPorts_ref (s : State) (g : Fabric → PortState → Fabric × PortState) : (onPorts s g).ref = s.ref := rfl
@[simp] theorem onPorts_ports (s : State) (g : Fabric → PortState → Fabric × PortState) : (onPorts s g).ports = (g s.fab s.ports).2 := rfl
@[simp] theorem onPorts_net (s : State) (g : Fabric → PortState → Fabric × PortState) : (onPorts s g).net = s.net := rfl
@[simp] theorem onPorts_strm (s : State) (g : Fabric → PortState → Fabric × PortState) : (onPorts s g).strm = s.strm := rfl
@[simp] theorem onPorts_stk (s : State) (g : Fabric → PortState → Fabric × PortState) : (onPorts s g).stk = s.stk := rfl
@[simp] theorem onPorts_tri (s : State) (g : Fabric → PortState → Fabric × PortState) : (onPorts s g).tri = s.tri := rfl
@[simp] theorem onNet_pending (s : State) (g : Fabric → NetState → Fabric × NetState) : (onNet s g).pending = s.pending := rfl
@[simp] theorem onNet_fab (s : State) (g : Fabric → NetState → Fabric × NetState) : (onNet s g).fab = (g s.fab s.net).1 := rfl
@[simp] theorem onNet_mem (s : State) (g : Fabric → NetState → Fabric × NetState) : (onNet s g).mem = s.mem := rfl
@[simp] theorem onNet_bus (s : State) (g : Fabric → NetState → Fabric × NetState) : (onNet s g).bus = s.bus := rfl
@[simp] theorem onNet_host (s : State) (g : Fabric → NetState → Fabric × NetState) : (onNet s g).host = s.host := rfl
@[simp] theorem onNet_pwr (s : State) (g : Fabric → NetState → Fabric × NetState) : (onNet s g).pwr = s.pwr := rfl
@[simp] theorem onNet_tap (s : State) (g : Fabric → NetState → Fabric × NetState) : (onNet s g).tap = s.tap := rfl
@[simp] theorem onNet_ren (s : State) (g : Fabric → NetState → Fabric × NetState) : (onNet s g).ren = s.ren := rfl
@[simp] theorem onNet_aud (s : State) (g : Fabric → NetState → Fabric × NetState) : (onNet s g).aud = s.aud := rfl
@[simp] theorem onNet_mtx (s : State) (g : Fabric → NetState → Fabric × NetState) : (onNet s g).mtx = s.mtx := rfl
@[simp] theorem onNet_chains (s : State) (g : Fabric → NetState → Fabric × NetState) : (onNet s g).chains = s.chains := rfl
@[simp] theorem onNet_inc (s : State) (g : Fabric → NetState → Fabric × NetState) : (onNet s g).inc = s.inc := rfl
@[simp] theorem onNet_cores (s : State) (g : Fabric → NetState → Fabric × NetState) : (onNet s g).cores = s.cores := rfl
@[simp] theorem onNet_tb (s : State) (g : Fabric → NetState → Fabric × NetState) : (onNet s g).tb = s.tb := rfl
@[simp] theorem onNet_ref (s : State) (g : Fabric → NetState → Fabric × NetState) : (onNet s g).ref = s.ref := rfl
@[simp] theorem onNet_ports (s : State) (g : Fabric → NetState → Fabric × NetState) : (onNet s g).ports = s.ports := rfl
@[simp] theorem onNet_net (s : State) (g : Fabric → NetState → Fabric × NetState) : (onNet s g).net = (g s.fab s.net).2 := rfl
@[simp] theorem onNet_strm (s : State) (g : Fabric → NetState → Fabric × NetState) : (onNet s g).strm = s.strm := rfl
@[simp] theorem onNet_stk (s : State) (g : Fabric → NetState → Fabric × NetState) : (onNet s g).stk = s.stk := rfl
@[simp] theorem onNet_tri (s : State) (g : Fabric → NetState → Fabric × NetState) : (onNet s g).tri = s.tri := rfl
@[simp] theorem onStrm_pending (s : State) (g : Fabric → StrmState → Fabric × StrmState) : (onStrm s g).pending = s.pending := rfl
@[simp] theorem onStrm_fab (s : State) (g : Fabric → StrmState → Fabric × StrmState) : (onStrm s g).fab = (g s.fab s.strm).1 := rfl
@[simp] theorem onStrm_mem (s : State) (g : Fabric → StrmState → Fabric × StrmState) : (onStrm s g).mem = s.mem := rfl
@[simp] theorem onStrm_bus (s : State) (g : Fabric → StrmState → Fabric × StrmState) : (onStrm s g).bus = s.bus := rfl
@[simp] theorem onStrm_host (s : State) (g : Fabric → StrmState → Fabric × StrmState) : (onStrm s g).host = s.host := rfl
@[simp] theorem onStrm_pwr (s : State) (g : Fabric → StrmState → Fabric × StrmState) : (onStrm s g).pwr = s.pwr := rfl
@[simp] theorem onStrm_tap (s : State) (g : Fabric → StrmState → Fabric × StrmState) : (onStrm s g).tap = s.tap := rfl
@[simp] theorem onStrm_ren (s : State) (g : Fabric → StrmState → Fabric × StrmState) : (onStrm s g).ren = s.ren := rfl
@[simp] theorem onStrm_aud (s : State) (g : Fabric → StrmState → Fabric × StrmState) : (onStrm s g).aud = s.aud := rfl
@[simp] theorem onStrm_mtx (s : State) (g : Fabric → StrmState → Fabric × StrmState) : (onStrm s g).mtx = s.mtx := rfl
@[simp] theorem onStrm_chains (s : State) (g : Fabric → StrmState → Fabric × StrmState) : (onStrm s g).chains = s.chains := rfl
@[simp] theorem onStrm_inc (s : State) (g : Fabric → StrmState → Fabric × StrmState) : (onStrm s g).inc = s.inc := rfl
@[simp] theorem onStrm_cores (s : State) (g : Fabric → StrmState → Fabric × StrmState) : (onStrm s g).cores = s.cores := rfl
@[simp] theorem onStrm_tb (s : State) (g : Fabric → StrmState → Fabric × StrmState) : (onStrm s g).tb = s.tb := rfl
@[simp] theorem onStrm_ref (s : State) (g : Fabric → StrmState → Fabric × StrmState) : (onStrm s g).ref = s.ref := rfl
@[simp] theorem onStrm_ports (s : State) (g : Fabric → StrmState → Fabric × StrmState) : (onStrm s g).ports = s.ports := rfl
@[simp] theorem onStrm_net (s : State) (g : Fabric → StrmState → Fabric × StrmState) : (onStrm s g).net = s.net := rfl
@[simp] theorem onStrm_strm (s : State) (g : Fabric → StrmState → Fabric × StrmState) : (onStrm s g).strm = (g s.fab s.strm).2 := rfl
@[simp] theorem onStrm_stk (s : State) (g : Fabric → StrmState → Fabric × StrmState) : (onStrm s g).stk = s.stk := rfl
@[simp] theorem onStrm_tri (s : State) (g : Fabric → StrmState → Fabric × StrmState) : (onStrm s g).tri = s.tri := rfl
@[simp] theorem onStk_pending (s : State) (g : Fabric → StkState → Fabric × StkState) : (onStk s g).pending = s.pending := rfl
@[simp] theorem onStk_fab (s : State) (g : Fabric → StkState → Fabric × StkState) : (onStk s g).fab = (g s.fab s.stk).1 := rfl
@[simp] theorem onStk_mem (s : State) (g : Fabric → StkState → Fabric × StkState) : (onStk s g).mem = s.mem := rfl
@[simp] theorem onStk_bus (s : State) (g : Fabric → StkState → Fabric × StkState) : (onStk s g).bus = s.bus := rfl
@[simp] theorem onStk_host (s : State) (g : Fabric → StkState → Fabric × StkState) : (onStk s g).host = s.host := rfl
@[simp] theorem onStk_pwr (s : State) (g : Fabric → StkState → Fabric × StkState) : (onStk s g).pwr = s.pwr := rfl
@[simp] theorem onStk_tap (s : State) (g : Fabric → StkState → Fabric × StkState) : (onStk s g).tap = s.tap := rfl
@[simp] theorem onStk_ren (s : State) (g : Fabric → StkState → Fabric × StkState) : (onStk s g).ren = s.ren := rfl
@[simp] theorem onStk_aud (s : State) (g : Fabric → StkState → Fabric × StkState) : (onStk s g).aud = s.aud := rfl
@[simp] theorem onStk_mtx (s : State) (g : Fabric → StkState → Fabric × StkState) : (onStk s g).mtx = s.mtx := rfl
@[simp] theorem onStk_chains (s : State) (g : Fabric → StkState → Fabric × StkState) : (onStk s g).chains = s.chains := rfl
@[simp] theorem onStk_inc (s : State) (g : Fabric → StkState → Fabric × StkState) : (onStk s g).inc = s.inc := rfl
@[simp] theorem onStk_cores (s : State) (g : Fabric → StkState → Fabric × StkState) : (onStk s g).cores = s.cores := rfl
@[simp] theorem onStk_tb (s : State) (g : Fabric → StkState → Fabric × StkState) : (onStk s g).tb = s.tb := rfl
@[simp] theorem onStk_ref (s : State) (g : Fabric → StkState → Fabric × StkState) : (onStk s g).ref = s.ref := rfl
@[simp] theorem onStk_ports (s : State) (g : Fabric → StkState → Fabric × StkState) : (onStk s g).ports = s.ports := rfl
@[simp] theorem onStk_net (s : State) (g : Fabric → StkState → Fabric × StkState) : (onStk s g).net = s.net := rfl
@[simp] theorem onStk_strm (s : State) (g : Fabric → StkState → Fabric × StkState) : (onStk s g).strm = s.strm := rfl
@[simp] theorem onStk_stk (s : State) (g : Fabric → StkState → Fabric × StkState) : (onStk s g).stk = (g s.fab s.stk).2 := rfl
@[simp] theorem onStk_tri (s : State) (g : Fabric → StkState → Fabric × StkState) : (onStk s g).tri = s.tri := rfl
@[simp] theorem onTri_pending (s : State) (g : Fabric → TriState → Fabric × TriState) : (onTri s g).pending = s.pending := rfl
@[simp] theorem onTri_fab (s : State) (g : Fabric → TriState → Fabric × TriState) : (onTri s g).fab = (g s.fab s.tri).1 := rfl
@[simp] theorem onTri_mem (s : State) (g : Fabric → TriState → Fabric × TriState) : (onTri s g).mem = s.mem := rfl
@[simp] theorem onTri_bus (s : State) (g : Fabric → TriState → Fabric × TriState) : (onTri s g).bus = s.bus := rfl
@[simp] theorem onTri_host (s : State) (g : Fabric → TriState → Fabric × TriState) : (onTri s g).host = s.host := rfl
@[simp] theorem onTri_pwr (s : State) (g : Fabric → TriState → Fabric × TriState) : (onTri s g).pwr = s.pwr := rfl
@[simp] theorem onTri_tap (s : State) (g : Fabric → TriState → Fabric × TriState) : (onTri s g).tap = s.tap := rfl
@[simp] theorem onTri_ren (s : State) (g : Fabric → TriState → Fabric × TriState) : (onTri s g).ren = s.ren := rfl
@[simp] theorem onTri_aud (s : State) (g : Fabric → TriState → Fabric × TriState) : (onTri s g).aud = s.aud := rfl
@[simp] theorem onTri_mtx (s : State) (g : Fabric → TriState → Fabric × TriState) : (onTri s g).mtx = s.mtx := rfl
@[simp] theorem onTri_chains (s : State) (g : Fabric → TriState → Fabric × TriState) : (onTri s g).chains = s.chains := rfl
@[simp] theorem onTri_inc (s : State) (g : Fabric → TriState → Fabric × TriState) : (onTri s g).inc = s.inc := rfl
@[simp] theorem onTri_cores (s : State) (g : Fabric → TriState → Fabric × TriState) : (onTri s g).cores = s.cores := rfl
@[simp] theorem onTri_tb (s : State) (g : Fabric → TriState → Fabric × TriState) : (onTri s g).tb = s.tb := rfl
@[simp] theorem onTri_ref (s : State) (g : Fabric → TriState → Fabric × TriState) : (onTri s g).ref = s.ref := rfl
@[simp] theorem onTri_ports (s : State) (g : Fabric → TriState → Fabric × TriState) : (onTri s g).ports = s.ports := rfl
@[simp] theorem onTri_net (s : State) (g : Fabric → TriState → Fabric × TriState) : (onTri s g).net = s.net := rfl
@[simp] theorem onTri_strm (s : State) (g : Fabric → TriState → Fabric × TriState) : (onTri s g).strm = s.strm := rfl
@[simp] theorem onTri_stk (s : State) (g : Fabric → TriState → Fabric × TriState) : (onTri s g).stk = s.stk := rfl
@[simp] theorem onTri_tri (s : State) (g : Fabric → TriState → Fabric × TriState) : (onTri s g).tri = (g s.fab s.tri).2 := rfl
@[simp] theorem onNetMem_pending (s : State) (g : Fabric → MemState → NetState → Fabric × MemState × NetState) : (onNetMem s g).pending = s.pending := rfl
@[simp] theorem onNetMem_fab (s : State) (g : Fabric → MemState → NetState → Fabric × MemState × NetState) : (onNetMem s g).fab = (g s.fab s.mem s.net).1 := rfl
@[simp] theorem onNetMem_mem (s : State) (g : Fabric → MemState → NetState → Fabric × MemState × NetState) : (onNetMem s g).mem = (g s.fab s.mem s.net).2.1 := rfl
@[simp] theorem onNetMem_bus (s : State) (g : Fabric → MemState → NetState → Fabric × MemState × NetState) : (onNetMem s g).bus = s.bus := rfl
@[simp] theorem onNetMem_host (s : State) (g : Fabric → MemState → NetState → Fabric × MemState × NetState) : (onNetMem s g).host = s.host := rfl
@[simp] theorem onNetMem_pwr (s : State) (g : Fabric → MemState → NetState → Fabric × MemState × NetState) : (onNetMem s g).pwr = s.pwr := rfl
@[simp] theorem onNetMem_tap (s : State) (g : Fabric → MemState → NetState → Fabric × MemState × NetState) : (onNetMem s g).tap = s.tap := rfl
@[simp] theorem onNetMem_ren (s : State) (g : Fabric → MemState → NetState → Fabric × MemState × NetState) : (onNetMem s g).ren = s.ren := rfl
@[simp] theorem onNetMem_aud (s : State) (g : Fabric → MemState → NetState → Fabric × MemState × NetState) : (onNetMem s g).aud = s.aud := rfl
@[simp] theorem onNetMem_mtx (s : State) (g : Fabric → MemState → NetState → Fabric × MemState × NetState) : (onNetMem s g).mtx = s.mtx := rfl
@[simp] theorem onNetMem_chains (s : State) (g : Fabric → MemState → NetState → Fabric × MemState × NetState) : (onNetMem s g).chains = s.chains := rfl
@[simp] theorem onNetMem_inc (s : State) (g : Fabric → MemState → NetState → Fabric × MemState × NetState) : (onNetMem s g).inc = s.inc := rfl
@[simp] theorem onNetMem_cores (s : State) (g : Fabric → MemState → NetState → Fabric × MemState × NetState) : (onNetMem s g).cores = s.cores := rfl
@[simp] theorem onNetMem_tb (s : State) (g : Fabric → MemState → NetState → Fabric × MemState × NetState) : (onNetMem s g).tb = s.tb := rfl
@[simp] theorem onNetMem_ref (s : State) (g : Fabric → MemState → NetState → Fabric × MemState × NetState) : (onNetMem s g).ref = s.ref := rfl
@[simp] theorem onNetMem_ports (s : State) (g : Fabric → MemState → NetState → Fabric × MemState × NetState) : (onNetMem s g).ports = s.ports := rfl
@[simp] theorem onNetMem_net (s : State) (g : Fabric → MemState → NetState → Fabric × MemState × NetState) : (onNetMem s g).net = (g s.fab s.mem s.net).2.2 := rfl
@[simp] theorem onNetMem_strm (s : State) (g : Fabric → MemState → NetState → Fabric × MemState × NetState) : (onNetMem s g).strm = s.strm := rfl
@[simp] theorem onNetMem_stk (s : State) (g : Fabric → MemState → NetState → Fabric × MemState × NetState) : (onNetMem s g).stk = s.stk := rfl
@[simp] theorem onNetMem_tri (s : State) (g : Fabric → MemState → NetState → Fabric × MemState × NetState) : (onNetMem s g).tri = s.tri := rfl
@[simp] theorem onTriStk_pending (s : State) (g : Fabric → TriState → StkState → Fabric × TriState × StkState) : (onTriStk s g).pending = s.pending := rfl
@[simp] theorem onTriStk_fab (s : State) (g : Fabric → TriState → StkState → Fabric × TriState × StkState) : (onTriStk s g).fab = (g s.fab s.tri s.stk).1 := rfl
@[simp] theorem onTriStk_mem (s : State) (g : Fabric → TriState → StkState → Fabric × TriState × StkState) : (onTriStk s g).mem = s.mem := rfl
@[simp] theorem onTriStk_bus (s : State) (g : Fabric → TriState → StkState → Fabric × TriState × StkState) : (onTriStk s g).bus = s.bus := rfl
@[simp] theorem onTriStk_host (s : State) (g : Fabric → TriState → StkState → Fabric × TriState × StkState) : (onTriStk s g).host = s.host := rfl
@[simp] theorem onTriStk_pwr (s : State) (g : Fabric → TriState → StkState → Fabric × TriState × StkState) : (onTriStk s g).pwr = s.pwr := rfl
@[simp] theorem onTriStk_tap (s : State) (g : Fabric → TriState → StkState → Fabric × TriState × StkState) : (onTriStk s g).tap = s.tap := rfl
@[simp] theorem onTriStk_ren (s : State) (g : Fabric → TriState → StkState → Fabric × TriState × StkState) : (onTriStk s g).ren = s.ren := rfl
@[simp] theorem onTriStk_aud (s : State) (g : Fabric → TriState → StkState → Fabric × TriState × StkState) : (onTriStk s g).aud = s.aud := rfl
@[simp] theorem onTriStk_mtx (s : State) (g : Fabric → TriState → StkState → Fabric × TriState × StkState) : (onTriStk s g).mtx = s.mtx := rfl
@[simp] theorem onTriStk_chains (s : State) (g : Fabric → TriState → StkState → Fabric × TriState × StkState) : (onTriStk s g).chains = s.chains := rfl
@[simp] theorem onTriStk_inc (s : State) (g : Fabric → TriState → StkState → Fabric × TriState × StkState) : (onTriStk s g).inc = s.inc := rfl
@[simp] theorem onTriStk_cores (s : State) (g : Fabric → TriState → StkState → Fabric × TriState × StkState) : (onTriStk s g).cores = s.cores := rfl
@[simp] theorem onTriStk_tb (s : State) (g : Fabric → TriState → StkState → Fabric × TriState × StkState) : (onTriStk s g).tb = s.tb := rfl
@[simp] theorem onTriStk_ref (s : State) (g : Fabric → TriState → StkState → Fabric × TriState × StkState) : (onTriStk s g).ref = s.ref := rfl
@[simp] theorem onTriStk_ports (s : State) (g : Fabric → TriState → StkState → Fabric × TriState × StkState) : (onTriStk s g).ports = s.ports := rfl
@[simp] theorem onTriStk_net (s : State) (g : Fabric → TriState → StkState → Fabric × TriState × StkState) : (onTriStk s g).net = s.net := rfl
@[simp] theorem onTriStk_strm (s : State) (g : Fabric → TriState → StkState → Fabric × TriState × StkState) : (onTriStk s g).strm = s.strm := rfl
@[simp] theorem onTriStk_stk (s : State) (g : Fabric → TriState → StkState → Fabric × TriState × StkState) : (onTriStk s g).stk = (g s.fab s.tri s.stk).2.2 := rfl
@[simp] theorem onTriStk_tri (s : State) (g : Fabric → TriState → StkState → Fabric × TriState × StkState) : (onTriStk s g).tri = (g s.fab s.tri s.stk).2.1 := rfl
@[simp] theorem failOn_pending (s : State) (p code info : Nat) : (failOn s p code info).pending = s.pending := rfl
@[simp] theorem failOn_mem (s : State) (p code info : Nat) : (failOn s p code info).mem = s.mem := rfl
@[simp] theorem failOn_bus (s : State) (p code info : Nat) : (failOn s p code info).bus = s.bus := rfl
@[simp] theorem failOn_host (s : State) (p code info : Nat) : (failOn s p code info).host = s.host := rfl
@[simp] theorem failOn_pwr (s : State) (p code info : Nat) : (failOn s p code info).pwr = s.pwr := rfl
@[simp] theorem failOn_tap (s : State) (p code info : Nat) : (failOn s p code info).tap = s.tap := rfl
@[simp] theorem failOn_ren (s : State) (p code info : Nat) : (failOn s p code info).ren = s.ren := rfl
@[simp] theorem failOn_aud (s : State) (p code info : Nat) : (failOn s p code info).aud = s.aud := rfl
@[simp] theorem failOn_mtx (s : State) (p code info : Nat) : (failOn s p code info).mtx = s.mtx := rfl
@[simp] theorem failOn_chains (s : State) (p code info : Nat) : (failOn s p code info).chains = s.chains := rfl
@[simp] theorem failOn_inc (s : State) (p code info : Nat) : (failOn s p code info).inc = s.inc := rfl
@[simp] theorem failOn_cores (s : State) (p code info : Nat) : (failOn s p code info).cores = s.cores := rfl
@[simp] theorem failOn_tb (s : State) (p code info : Nat) : (failOn s p code info).tb = s.tb := rfl
@[simp] theorem failOn_ref (s : State) (p code info : Nat) : (failOn s p code info).ref = s.ref := rfl
@[simp] theorem failOn_ports (s : State) (p code info : Nat) : (failOn s p code info).ports = s.ports := rfl
@[simp] theorem failOn_net (s : State) (p code info : Nat) : (failOn s p code info).net = s.net := rfl
@[simp] theorem failOn_strm (s : State) (p code info : Nat) : (failOn s p code info).strm = s.strm := rfl
@[simp] theorem failOn_stk (s : State) (p code info : Nat) : (failOn s p code info).stk = s.stk := rfl
@[simp] theorem failOn_tri (s : State) (p code info : Nat) : (failOn s p code info).tri = s.tri := rfl
@[simp] theorem failOn_fab (s : State) (p code info : Nat) : (failOn s p code info).fab = fail s.fab p code info := rfl

-- The guards

@[simp] theorem whenB_true (s t : State) : whenB true s t = .next t := rfl
@[simp] theorem whenB_false (s t : State) : whenB false s t = .next s := rfl

/-- A guarded command always answers a next state. -/
theorem whenB_next (b : Bool) (s t : State) : whenB b s t = .next (if b then t else s) := rfl

theorem whenUp_up (s t : State) (h : isUp s = true) : whenUp s t = .next t := by simp [whenUp, h]
theorem whenActive_active (s t : State) (h : isActive s = true) : whenActive s t = .next t := by simp [whenActive, h]
theorem whenTb_runs (s t : State) (h : tbRuns s = true) : whenTb s t = .next t := by simp [whenTb, h]
theorem whenClk_clocked (s t : State) (h : clocked s = true) : whenClk s t = .next t := by simp [whenClk, h]
theorem whenEng_clocked (s t : State) (h : clocked s = true) (ha : isActive s = true) : whenEng s t = .next t := by
  simp [whenEng, h, ha]

/-- A write of a block register where the device and the page take it. -/
theorem whenReg_takes (s t : State) (p off : Nat) (h : isUp s = true) (hp : takesWrites s.fab p = true) :
    whenReg s p off t = .next t := by simp [whenReg, whenUp, gated, h, hp]

/-- A write of a block register where its page does not take writes: NOT_READY is recorded (R42, R54). -/
theorem whenReg_refuses (s t : State) (p off : Nat) (h : isUp s = true) (hp : takesWrites s.fab p = false) :
    whenReg s p off t = .next (failOn s p 1 off) := by simp [whenReg, whenUp, gated, h, hp]

/-- An outcome that is a next state. -/
theorem next_intro (o : Out) (t : State) (p : State → Prop) (h : o = .next t) (hp : p t) : Next o p := ⟨t, h, hp⟩

/-- A guarded command whose two outcomes satisfy a property. -/
theorem whenB_elim (b : Bool) (s t : State) (p : State → Prop) (hs : p s) (ht : p t) : Next (whenB b s t) p := by
  cases b
  · exact ⟨s, rfl, hs⟩
  · exact ⟨t, rfl, ht⟩

end Sys2Proof.Machine
end

