-- ==== Sys2Proof/Laws/Stays.lean ====
section
/-! SUPPORT. What the operations over the whole state leave alone: the queue, the JTAG port, the levels of the reset and supply
pins, and the canonical form of the memories. One lemma for each operation. -/
namespace Sys2Proof.Machine

/-- The pins' levels and latches of the power unit: PWRGOOD, RESET_N, OSC_IN, THERMTRIP_N and IOBANK_SEL as read. -/
def pins (p : PwrState) : Bool × Bool × Bool × Bool × Bool := (p.pwrgood, p.resetN, p.osc, p.tripped, p.iobank)

/-- From s to t the queue, the JTAG port and the pins stay, and canonical memories stay canonical. -/
structure Stays (s t : State) : Prop where
  pending : t.pending = s.pending
  tap : t.tap = s.tap
  pins : pins t.pwr = pins s.pwr
  mem : Memory.wf s.mem = true → Memory.wf t.mem = true

theorem Stays.refl (s : State) : Stays s s := ⟨rfl, rfl, rfl, id⟩

theorem Stays.trans {s t u : State} (a : Stays s t) (b : Stays t u) : Stays s u :=
  ⟨b.pending.trans a.pending, b.tap.trans a.tap, b.pins.trans a.pins, fun h => b.mem (a.mem h)⟩

/-- A change of none of the four. -/
theorem stays_rfl (s t : State) (h1 : t.pending = s.pending) (h2 : t.tap = s.tap) (h3 : t.pwr = s.pwr) (h4 : t.mem = s.mem) :
    Stays s t := ⟨h1, h2, by rw [h3], by rw [h4]; exact id⟩

/-- A change of the memories that keeps their form. -/
theorem stays_mem (s t : State) (h1 : t.pending = s.pending) (h2 : t.tap = s.tap) (h3 : t.pwr = s.pwr)
    (h4 : Memory.wf s.mem = true → Memory.wf t.mem = true) : Stays s t := ⟨h1, h2, by rw [h3], h4⟩

/-- A change of the power unit that keeps its pins. -/
theorem stays_pwr (s t : State) (h1 : t.pending = s.pending) (h2 : t.tap = s.tap) (h3 : Machine.pins t.pwr = Machine.pins s.pwr)
    (h4 : t.mem = s.mem) : Stays s t := ⟨h1, h2, h3, by rw [h4]; exact id⟩

theorem stays_ite (s t u : State) (c : Prop) [Decidable c] (a : Stays s t) (b : Stays s u) : Stays s (if c then t else u) := by
  split <;> assumption

theorem stays_foldl {β : Type} (g : State → β → State) (hg : ∀ s b, Stays s (g s b)) (l : List β) (s : State) :
    Stays s (l.foldl g s) := by
  induction l generalizing s with
  | nil => exact Stays.refl s
  | cons b r ih => exact (hg s b).trans (ih _)

theorem stays_foldlP {β γ : Type} (g : State × γ → β → State × γ) (hg : ∀ s b, Stays s.1 (g s b).1) (l : List β) (s : State × γ) :
    Stays s.1 (l.foldl g s).1 := by
  induction l generalizing s with
  | nil => exact Stays.refl s.1
  | cons b r ih => exact (hg s b).trans (ih _)

-- The lifted operations

theorem onF_stays (s : State) (g : Fabric → Fabric) : Stays s (onF s g) := stays_rfl s _ rfl rfl rfl rfl
theorem failOn_stays (s : State) (p c i : Nat) : Stays s (failOn s p c i) := stays_rfl s _ rfl rfl rfl rfl
theorem onRen_stays (s : State) (g : Fabric → RenderState → Fabric × RenderState) : Stays s (onRen s g) := stays_rfl s _ rfl rfl rfl rfl
theorem onMtx_stays (s : State) (g : Fabric → MtxState → Fabric × MtxState) : Stays s (onMtx s g) := stays_rfl s _ rfl rfl rfl rfl
theorem onInc_stays (s : State) (g : Fabric → IncState → Fabric × IncState) : Stays s (onInc s g) := stays_rfl s _ rfl rfl rfl rfl
theorem onChains_stays (s : State) (g : Fabric → ChainState → Fabric × ChainState) : Stays s (onChains s g) := stays_rfl s _ rfl rfl rfl rfl
theorem onCores_stays (s : State) (g : Fabric → CoreState → Fabric × CoreState) : Stays s (onCores s g) := stays_rfl s _ rfl rfl rfl rfl
theorem onTb_stays (s : State) (g : Fabric → TbState → Fabric × TbState) : Stays s (onTb s g) := stays_rfl s _ rfl rfl rfl rfl
theorem onRef_stays (s : State) (g : Fabric → RefState → Fabric × RefState) : Stays s (onRef s g) := stays_rfl s _ rfl rfl rfl rfl
theorem onPorts_stays (s : State) (g : Fabric → PortState → Fabric × PortState) : Stays s (onPorts s g) := stays_rfl s _ rfl rfl rfl rfl
theorem onNet_stays (s : State) (g : Fabric → NetState → Fabric × NetState) : Stays s (onNet s g) := stays_rfl s _ rfl rfl rfl rfl
theorem onStrm_stays (s : State) (g : Fabric → StrmState → Fabric × StrmState) : Stays s (onStrm s g) := stays_rfl s _ rfl rfl rfl rfl
theorem onStk_stays (s : State) (g : Fabric → StkState → Fabric × StkState) : Stays s (onStk s g) := stays_rfl s _ rfl rfl rfl rfl
theorem onTri_stays (s : State) (g : Fabric → TriState → Fabric × TriState) : Stays s (onTri s g) := stays_rfl s _ rfl rfl rfl rfl
theorem onTriStk_stays (s : State) (g : Fabric → TriState → StkState → Fabric × TriState × StkState) : Stays s (onTriStk s g) :=
  stays_rfl s _ rfl rfl rfl rfl

theorem onMem_stays (s : State) (g : Fabric → MemState → Fabric × MemState)
    (h : Memory.wf s.mem = true → Memory.wf (g s.fab s.mem).2 = true) : Stays s (onMem s g) := stays_mem s _ rfl rfl rfl h

theorem onNetMem_stays (s : State) (g : Fabric → MemState → NetState → Fabric × MemState × NetState)
    (h : Memory.wf s.mem = true → Memory.wf (g s.fab s.mem s.net).2.1 = true) : Stays s (onNetMem s g) := stays_mem s _ rfl rfl rfl h

theorem onPwr_stays (s : State) (g : Fabric → PwrState → Fabric × PwrState) (h : pins (g s.fab s.pwr).2 = pins s.pwr) :
    Stays s (onPwr s g) := stays_pwr s _ rfl rfl h rfl

-- The power unit

theorem boostEnd_pins (f : Fabric) (p : PwrState) (b : Bool) : pins (boostEnd f p b).2 = pins p := by
  unfold boostEnd; split <;> rfl
theorem boostGrant_pins (f : Fabric) (p : PwrState) : pins (boostGrant f p).2 = pins p := by unfold boostGrant; split <;> rfl
theorem boostCheck_pins (f : Fabric) (p : PwrState) : pins (boostCheck f p).2 = pins p := by
  unfold boostCheck; split
  · rfl
  · exact boostEnd_pins _ _ _
theorem boostWrite_pins (f : Fabric) (p : PwrState) (b : Bool) (v : Word) : pins (boostWrite f p b v).2 = pins p := by
  unfold boostWrite; dsimp only; split
  · rfl
  · exact boostEnd_pins _ _ _
theorem currentLimit_pins (f : Fabric) (p : PwrState) (e : Nat) : pins (currentLimit f p e).2 = pins p := by
  unfold currentLimit; dsimp only; split
  · exact boostEnd_pins (putF f 0x1098 9 0 (min 1023 e)) p false
  · rfl
theorem vddLow_pins (f : Fabric) (p : PwrState) : pins (vddLow f p).2 = pins p := by
  unfold vddLow; split
  · exact boostEnd_pins _ _ _
  · rfl
theorem shedUpdate_pins (f : Fabric) (p : PwrState) : pins (shedUpdate f p).2 = pins p := by
  unfold shedUpdate; dsimp only; split
  · rfl
  · exact boostCheck_pins _ _
theorem shedForce_pins (f : Fabric) (p : PwrState) (v : Word) : pins (shedForce f p v).2 = pins p := shedUpdate_pins _ _
theorem thermalRelease_pins (f : Fabric) (p : PwrState) : pins (thermalRelease f p).2 = pins p := shedUpdate_pins _ _
theorem pwrSoft_pins (f : Fabric) (p : PwrState) : pins (pwrSoft f p).2 = pins p := shedUpdate_pins _ _
theorem shutdown_pins (f : Fabric) (p : PwrState) : pins (shutdown f p).2 = pins p := by
  unfold shutdown; dsimp only; split <;> rfl
theorem thermalSample_pins (f : Fabric) (p : PwrState) (l : List Int) : pins (thermalSample f p l).2 = pins p := by
  unfold thermalSample
  extract_lets codes tj f1 f2 f3 f4 p1 old new
  generalize hx : (if old < new then
      (let f := setLevel (countLevels f4 old new) new
       if new = 4 then shutdown f p1 else (f, p1)) else (f4, p1)) = x
  have hp : pins x.2 = pins p := by
    rw [← hx]
    split
    · dsimp only
      split
      · exact (shutdown_pins _ _).trans rfl
      · rfl
    · rfl
  exact (shedUpdate_pins _ _).trans hp
theorem thmCmd_pins (f : Fabric) (p : PwrState) (v : Word) : pins (thmCmd f p v).2 = pins p := by
  unfold thmCmd; dsimp only
  (repeat' split) <;> first | rfl | exact shedUpdate_pins _ _
theorem psStart_pins (f : Fabric) (p : PwrState) (n : Nat) : pins (psStart f p n).2 = pins p := by
  unfold psStart; dsimp only; split <;> rfl
theorem engStart_pins (f : Fabric) (p : PwrState) (b : Bool) : pins (engStart f p b).2 = pins p := by
  unfold engStart; dsimp only; split <;> rfl
theorem engStop_pins (f : Fabric) (p : PwrState) : pins (engStop f p).2 = pins p := by
  unfold engStop; dsimp only; split <;> rfl
theorem engAborted_pins (f : Fabric) (p : PwrState) : pins (engAborted f p).2 = pins p := by
  unfold engAborted; split <;> rfl
theorem startFire_pins (f : Fabric) (p : PwrState) (n : Nat) : pins (startFire f p n).2 = pins p := by
  unfold startFire; split <;> rfl
theorem wakeSource_pins (f : Fabric) (p : PwrState) (n : Nat) : pins (wakeSource f p n) = pins p := by
  unfold wakeSource; dsimp only; split <;> rfl

theorem withShed_stays (s : State) (g : Fabric → PwrState → Fabric × PwrState) (h : pins (g s.fab s.pwr).2 = pins s.pwr) :
    Stays s (withShed s g) := by
  unfold withShed; dsimp only
  split
  · exact onPwr_stays s g h
  · exact (onPwr_stays s g h).trans (onCores_stays _ _)

-- Banks, swaps and scenes

theorem unitEffect_stays (w : Nat → Bool) (b : Nat) (s : State) (p : Nat) : Stays s (unitEffect w b s p) := by
  unfold unitEffect; dsimp only
  (repeat' split) <;> exact stays_rfl s _ rfl rfl rfl rfl

theorem swapNow_stays (s : State) (g b : Nat) : Stays s (swapNow s g b) := by
  unfold swapNow; dsimp only
  have h := (onF_stays s (fun f => (armedUnits s.fab g).foldl (unitSwap b) f)).trans
    (stays_foldl (unitEffect (fun o => ((enabledObjs s.fab (actB s.fab pREN)).map (·.1)).contains o) b) (unitEffect_stays _ b)
      (armedUnits s.fab g) _)
  split
  · exact h.trans (onF_stays _ _)
  · exact h.trans (onF_stays _ _)

theorem swapCommitNow_stays (s : State) (g b : Nat) : Stays s (swapCommitNow s g b) := by
  unfold swapCommitNow; dsimp only
  (repeat' split) <;> exact stays_rfl s _ rfl rfl rfl rfl

theorem swapArm_stays (s : State) (g : Nat) : Stays s (swapArm s g) := by
  unfold swapArm; dsimp only
  have h0 : Stays s { s with fab := wrN (opStart s.fab (swapOp g) 1) (swapArg g) (rdN (opStart s.fab (swapOp g) 1) (0x208 + 0x20 * g) % 2 ^ 5) } :=
    stays_rfl s _ rfl rfl rfl rfl
  (repeat' split)
  · exact (h0.trans ((onF_stays _ _).trans (swapCommitNow_stays _ _ _))).trans (swapNow_stays _ _ _)
  · exact h0.trans ((onF_stays _ _).trans (swapCommitNow_stays _ _ _))
  · exact h0.trans (onF_stays _ _)
  · exact (h0.trans (onF_stays _ _)).trans (onF_stays _ _)
  · exact (h0.trans (onF_stays _ _)).trans (onF_stays _ _)

theorem swapCommit_stays (s : State) (g : Nat) : Stays s (swapCommit s g) := by
  unfold swapCommit; dsimp only
  split
  · exact swapCommitNow_stays _ _ _
  · exact Stays.refl s

theorem bankSwap_stays (s : State) : Stays s (bankSwap s) := by
  unfold bankSwap
  split
  · exact Stays.refl s
  · apply stays_foldl
    intro s g
    split
    · exact swapNow_stays _ _ _
    · exact Stays.refl s

theorem sceneRelease_stays (s : State) : Stays s (sceneRelease s) := stays_pwr s _ rfl rfl rfl rfl

theorem sceneFail_stays (s : State) (d : Nat) : Stays s (sceneFail s d) := onF_stays s _
theorem sceneLock_stays (s : State) (us : List Nat) : Stays s (sceneLock s us) := stays_pwr s _ rfl rfl rfl rfl
theorem sceneFin_stays (s : State) (r d : Nat) : Stays s (sceneFin s r d) := (sceneRelease_stays s).trans (onF_stays _ _)

theorem sceneSeen_stays {γ : Type} (s : State) (r : Fabric × MemState × Nat × γ)
    (h : Memory.wf s.mem = true → wfTriple r) : Stays s (sceneSeen s r) := stays_mem s _ rfl rfl rfl h

theorem recallStart_stays (s : State) (l : Option (List (Nat × List Word))) : Stays s (recallStart s l) := by
  unfold recallStart; dsimp only
  (repeat' split) <;> first | exact sceneFail_stays _ _ | exact sceneLock_stays _ _

theorem sceneStart_stays (s : State) (op : Nat) : Stays s (sceneStart s op) := by
  unfold sceneStart; dsimp only
  have h : ∀ f, Stays s { s with fab := f } := fun f => stays_rfl s _ rfl rfl rfl rfl
  (repeat' split) <;> first
    | exact (h _).trans (sceneFail_stays _ _)
    | exact (h _).trans (sceneLock_stays _ _)
    | exact h _
    | exact ((h _).trans (sceneSeen_stays _ _ (fun h => sceneRead_wf _ _ h))).trans (recallStart_stays _ _)

theorem sceneCheck_stays (s : State) (l : Option (List (Nat × List Word))) : Stays s (sceneCheck s l) := by
  cases l with
  | none => exact sceneFin_stays _ _ _
  | some l => exact stays_ite _ _ _ _ (sceneFin_stays _ _ _) (sceneFin_stays _ _ _)

theorem recallWrite_stays (s : State) (l : List (Nat × List Word)) (ok : Bool) : Stays s (recallWrite s l ok) := by
  unfold recallWrite; dsimp only
  have h : Stays s (if ok || !(l.filter (fun e => s.pwr.sceneUnits.contains e.1)).isEmpty then
      onF s (fun f => (l.filter (fun e => s.pwr.sceneUnits.contains e.1)).foldl imagePut (opCommit f .scene)) else s) :=
    stays_ite _ _ _ _ (onF_stays _ _) (Stays.refl s)
  exact stays_ite _ _ _ _ (h.trans (sceneFin_stays _ _ _)) (h.trans (sceneFin_stays _ _ _))

theorem scenePost_stays (s : State) (l : List Byte) : Stays s (scenePost s l) :=
  onMem_stays s _ (fun h => dramWrite_wf _ _ _ _ _ h)

theorem sceneEnd_stays (s : State) : Stays s (sceneEnd s) := by
  unfold sceneEnd; dsimp only
  (repeat' split)
  · exact Stays.refl s
  · exact (scenePost_stays _ _).trans (sceneFin_stays _ _ _)
  · exact (sceneSeen_stays _ _ (fun h => recallRead_wf _ _ h)).trans (recallWrite_stays _ _ _)
  · exact (sceneSeen_stays _ _ (fun h => sceneRead_wf _ _ h)).trans (sceneCheck_stays _ _)

end Sys2Proof.Machine
end

