-- ==== Sys2Proof/Laws/StaysEngine.lean ====
section
/-! SUPPORT. What the session's operations, the resets and the power states leave alone (Laws/Stays.lean). -/
namespace Sys2Proof.Machine

theorem endFade_stays (s : State) (m : Nat) : Stays s (endFade s m) := by
  unfold endFade
  split
  · exact Stays.refl s
  · dsimp only
    split
    · exact stays_rfl s _ rfl rfl rfl rfl
    · exact stays_rfl s _ rfl rfl rfl rfl

theorem cycleWork_stays (s : State) (t : Nat) : Stays s (cycleWork s t) := stays_rfl s _ rfl rfl rfl rfl
theorem portsWork_stays (s : State) (t : Nat) : Stays s (portsWork s t) := by
  unfold portsWork
  generalize portTick s.fab s.ports s.aud t = p
  exact stays_rfl s _ rfl rfl rfl rfl
theorem streamsWork_stays (s : State) (t : Nat) : Stays s (streamsWork s t) := by
  unfold streamsWork
  exact stays_ite _ _ _ _ (stays_rfl s _ rfl rfl rfl rfl) (Stays.refl s)
theorem stackWork_stays (s : State) (t : Nat) : Stays s (stackWork s t) := onStk_stays s _
theorem trifleWork_stays (s : State) : Stays s (trifleWork s) := by
  unfold trifleWork
  exact stays_ite _ _ _ _ (stays_rfl s _ rfl rfl rfl rfl) (Stays.refl s)

theorem tickWork_stays (s : State) (phase t : Nat) : Stays s (tickWork s phase t) := by
  unfold tickWork
  dsimp only
  exact (onTb_stays _ _).trans ((onF_stays _ _).trans ((cycleWork_stays _ _).trans ((endFade_stays _ _).trans
    ((portsWork_stays _ _).trans ((streamsWork_stays _ _).trans ((trifleWork_stays _).trans (stackWork_stays _ _)))))))

theorem sampleTick_stays (s : State) (phase : Nat) : Stays s (sampleTick s phase) := by
  unfold sampleTick; dsimp only
  exact stays_ite _ _ _ _ ((onF_stays s _).trans (tickWork_stays _ _ _)) (tickWork_stays _ _ _)

theorem blockOpen_stays (s : State) (phase w : Nat) : Stays s (blockOpen s phase w) := by
  unfold blockOpen; dsimp only
  exact (onF_stays _ _).trans ((onTb_stays _ _).trans ((onRef_stays _ _).trans (onF_stays _ _)))
theorem blockCores_stays (s : State) (w : Nat) : Stays s (blockCores s w) := by
  unfold blockCores; dsimp only
  generalize coresTick s.fab s.cores s.aud w = c
  exact stays_rfl s _ rfl rfl rfl rfl
theorem blockGather_stays (s : State) (w : Nat) : Stays s (blockGather s w) := by
  unfold blockGather
  exact stays_ite _ _ _ _ (Stays.refl s) (stays_rfl s _ rfl rfl rfl rfl)
theorem blockMatrix_stays (s : State) (w : Nat) : Stays s (blockMatrix s w) := stays_rfl s _ rfl rfl rfl rfl
theorem blockFirst_stays (s : State) (phase w : Nat) : Stays s (blockFirst s phase w) :=
  (blockOpen_stays s phase w).trans ((blockCores_stays _ w).trans ((blockGather_stays _ w).trans (blockMatrix_stays _ w)))

theorem blockChains_stays (s : State) (fails : List MemFail) (w : Nat) : Stays s (blockChains s fails w) := stays_rfl s _ rfl rfl rfl rfl
theorem blockOutputs_stays (s : State) (w : Nat) : Stays s (blockOutputs s w) := stays_rfl s _ rfl rfl rfl rfl
theorem blockFollow_stays (s : State) : Stays s (blockFollow s) := stays_rfl s _ rfl rfl rfl rfl
theorem blockSecond_stays (s : State) (fails : List MemFail) (w : Nat) : Stays s (blockSecond s fails w) :=
  (blockChains_stays s fails w).trans ((blockOutputs_stays _ w).trans (blockFollow_stays _))

theorem blockTick_stays (s : State) (phase : Nat) (fails : List MemFail) : Stays s (blockTick s phase fails) := by
  unfold blockTick; dsimp only
  apply stays_ite
  · exact Stays.refl s
  · exact ((blockFirst_stays s phase _).trans (blockSecond_stays _ fails _)).trans (stays_pwr _ _ rfl rfl rfl rfl)

theorem geometryTick_stays (s : State) : Stays s (geometryTick s) := by
  unfold geometryTick
  exact stays_ite _ _ _ _ (onRen_stays _ _) (Stays.refl s)

theorem fireSwap_stays (s : State) (n : Nat) : Stays s (fireSwap s n) := by
  unfold fireSwap; dsimp only
  apply stays_ite
  · exact Stays.refl s
  · apply stays_ite
    · exact (failOn_stays _ _ _ _).trans (onF_stays _ _)
    · exact ((onF_stays _ _).trans (swapArm_stays _ _)).trans (onF_stays _ _)

theorem comparatorFire_stays (s : State) (n : Nat) : Stays s (comparatorFire s n) := by
  unfold comparatorFire
  extract_lets r s1 s2 s3 s4
  have h1 : Stays s s1 := stays_rfl _ _ rfl rfl rfl rfl
  have h2 : Stays s1 s2 := fireSwap_stays _ _
  have h3 : Stays s2 s3 := stays_rfl _ _ rfl rfl rfl rfl
  have h4 : Stays s3 s4 := onPwr_stays _ _ (startFire_pins _ _ _)
  have h5 := (h1.trans h2).trans (h3.trans h4)
  apply stays_ite
  · exact h1
  · apply stays_ite
    · exact h5.trans (stays_pwr _ _ rfl rfl (wakeSource_pins _ _ _) rfl)
    · exact h5

theorem comparatorDisarm_stays (s : State) (n : Nat) : Stays s (comparatorDisarm s n) := by
  unfold comparatorDisarm; dsimp only
  exact (stays_ite _ _ _ _ (comparatorFire_stays s n) (Stays.refl s)).trans (onTb_stays _ _)

theorem startClock_stays (s : State) (m : Nat) : Stays s (startClock s m) := stays_pwr _ _ rfl rfl rfl rfl
theorem startMatrix_stays (s : State) (m : Nat) : Stays s (startMatrix s m) := stays_rfl _ _ rfl rfl rfl rfl
theorem startChains_stays (s : State) (m : Nat) : Stays s (startChains s m) := stays_rfl _ _ rfl rfl rfl rfl
theorem startInc_stays (s : State) (m : Nat) : Stays s (startInc s m) := by
  unfold startInc; dsimp only
  refine (onF_stays s incAdmit).trans ?_
  generalize incStart (onF s incAdmit).fab (onF s incAdmit).inc m = x
  exact stays_rfl _ _ rfl rfl rfl rfl

theorem startPaths_stays (s : State) (m : Nat) : Stays s (startPaths s m) := by
  unfold startPaths
  exact (startClock_stays s m).trans ((onF_stays _ _).trans ((onRen_stays _ _).trans ((startMatrix_stays _ m).trans
    ((startChains_stays _ m).trans (startInc_stays _ m)))))

theorem startSession_stays (s : State) (m : Nat) : Stays s (startSession s m) := by
  unfold startSession; dsimp only
  exact (startPaths_stays s m).trans ((onStrm_stays _ _).trans ((onF_stays _ _).trans ((onTri_stays _ _).trans
    ((onTb_stays _ _).trans (onF_stays _ _)))))

theorem engineStartTick_stays (s : State) (phase : Nat) : Stays s (engineStartTick s phase) := by
  unfold engineStartTick
  split
  · exact Stays.refl s
  · exact (startSession_stays _ _).trans (tickWork_stays _ _ _)

theorem stopRejoin_stays (s : State) : Stays s (stopRejoin s) := by
  unfold stopRejoin
  exact stays_ite _ _ _ _ (onTri_stays _ _) (Stays.refl s)
theorem stopOp_stays (s : State) : Stays s (stopOp s) := by
  unfold stopOp
  exact stays_ite _ _ _ _ (onF_stays _ _) (Stays.refl s)
theorem stopClock_stays (s : State) : Stays s (stopClock s) := stays_pwr _ _ rfl rfl rfl rfl

theorem stopChains_stays (s : State) : Stays s (stopChains s) := stays_rfl s _ rfl rfl rfl rfl

theorem endSession_stays (s : State) : Stays s (endSession s) := by
  unfold endSession; dsimp only
  exact (onF_stays _ _).trans ((stopChains_stays _).trans ((onRen_stays _ _).trans ((onTb_stays _ _).trans ((onF_stays _ _).trans ((stopRejoin_stays _).trans
    ((stopClock_stays _).trans ((stopOp_stays _).trans (onF_stays _ _))))))))

theorem engineStopEnd_stays (s : State) : Stays s (engineStopEnd s) := by
  unfold engineStopEnd
  split
  · exact Stays.refl s
  · exact stays_ite _ _ _ _ (endSession_stays _) (Stays.refl s)

theorem toQuiet_stays (s : State) : Stays s (toQuiet s) := by
  unfold toQuiet; dsimp only
  exact (stays_pwr s { s with pwr := { s.pwr with state := .quiet } } rfl rfl rfl rfl).trans
    ((onF_stays _ _).trans (onPwr_stays _ _ (boostCheck_pins _ _)))

theorem shutOff_stays (s : State) : Stays s (shutOff s) :=
  (stays_pwr s { s with pwr := { s.pwr with shutFrom := none } } rfl rfl rfl rfl).trans (toQuiet_stays _)

theorem shutdownFadeEnd_stays (s : State) : Stays s (shutdownFadeEnd s) := by
  unfold shutdownFadeEnd
  split
  · exact Stays.refl s
  · apply stays_ite
    · exact shutOff_stays s
    · exact stays_ite _ _ _ _ ((endSession_stays _).trans (shutOff_stays _)) (Stays.refl s)

-- Resets

theorem measureBanks_stays (s : State) (x : Straps) : Stays s (measureBanks s x) := by
  unfold measureBanks; dsimp only
  exact onF_stays s _
theorem sampleStraps_stays (s : State) (x : Straps) : Stays s (sampleStraps s x) := by
  unfold sampleStraps; dsimp only
  exact (onF_stays _ _).trans (onStk_stays _ _)
theorem leaveReset_stays (s : State) (x : Straps) : Stays s (leaveReset s x) :=
  (measureBanks_stays s x).trans (sampleStraps_stays _ x)

/-- The memories at reset but for what a reset keeps. -/
theorem reset_mem_wf (m : MemState) (h : Memory.wf m = true) :
    Memory.wf { MemState.reset with dram := m.dram, ecc := m.ecc, keep := m.keep } = true := by
  have h := (Memory.wf_iff _).mp h
  exact (Memory.wf_iff _).mpr ⟨h.1, h.2.1, rfl, h.2.2.2⟩

theorem deviceReset_stays (s : State) (cause : Nat) : Stays s (deviceReset s cause) :=
  ⟨rfl, rfl, rfl, reset_mem_wf s.mem⟩

theorem chipReset_stays (s : State) (x : Straps) : Stays s (chipReset s x) := by
  unfold chipReset; dsimp only
  exact (deviceReset_stays s 2).trans ((onF_stays _ _).trans (sampleStraps_stays _ x))

/-- What a reset keeps, whatever it does to the pins and the JTAG port: the queue and the memories' form. -/
structure Keeps (s t : State) : Prop where
  pending : t.pending = s.pending
  mem : Memory.wf s.mem = true → Memory.wf t.mem = true

theorem Stays.keeps {s t : State} (h : Stays s t) : Keeps s t := ⟨h.pending, h.mem⟩
theorem Keeps.trans {s t u : State} (a : Keeps s t) (b : Keeps t u) : Keeps s u :=
  ⟨b.pending.trans a.pending, fun h => b.mem (a.mem h)⟩
theorem keeps_pwr (s : State) (p : PwrState) : Keeps s { s with pwr := p } := ⟨rfl, id⟩
theorem keeps_ite (s t u : State) (c : Prop) [Decidable c] (a : Keeps s t) (b : Keeps s u) : Keeps s (if c then t else u) := by
  split <;> assumption

theorem memReset_wf : Memory.wf MemState.reset = true := (Memory.wf_iff _).mpr ⟨rfl, rfl, rfl, rfl⟩

theorem resetAssert_keeps (s : State) (hot : Bool) : Keeps s (resetAssert s hot) :=
  (keeps_pwr s _).trans (deviceReset_stays _ 1).keeps
theorem resetRelease_keeps (s : State) (x : Straps) : Keeps s (resetRelease s x) := by
  unfold resetRelease; dsimp only
  apply keeps_ite
  · exact (Stays.refl s).keeps
  · exact keeps_ite _ _ _ _ ((keeps_pwr s _).trans (leaveReset_stays _ x).keeps) (keeps_pwr s _)
theorem pwrgoodFall_keeps (s : State) : Keeps s (pwrgoodFall s) := (keeps_pwr s _).trans (deviceReset_stays _ 1).keeps
theorem pwrgoodRise_keeps (s : State) (x : Straps) : Keeps s (pwrgoodRise s x) := by
  unfold pwrgoodRise; dsimp only
  apply keeps_ite
  · exact (Stays.refl s).keeps
  · exact keeps_ite _ _ _ _ ((keeps_pwr s _).trans (leaveReset_stays _ x).keeps) (keeps_pwr s _)
theorem vddioRise_keeps (s : State) (b : Bool) : Keeps s (vddioRise s b) := ⟨rfl, fun _ => memReset_wf⟩
theorem oscLoss_keeps (s : State) : Keeps s (oscLoss s) := keeps_pwr s _
theorem powerOn_keeps (s : State) (p : PwrState) : Keeps s { powerOn s with pwr := p } := ⟨rfl, fun _ => memReset_wf⟩
theorem oscReturn_keeps (s : State) (x : Straps) : Keeps s (oscReturn s x) := by
  unfold oscReturn; dsimp only
  apply keeps_ite
  · exact (Stays.refl s).keeps
  · exact keeps_ite _ _ _ _ ((powerOn_keeps s _).trans (leaveReset_stays _ x).keeps) (powerOn_keeps s _)
theorem thermtrip_keeps (s : State) : Keeps s (thermtrip s) := by
  unfold thermtrip
  exact keeps_ite _ _ _ _ (Stays.refl s).keeps ((keeps_pwr s _).trans (deviceReset_stays _ 3).keeps)

theorem pllLock_stays (s : State) : Stays s (pllLock s) := by
  unfold pllLock; dsimp only
  apply stays_ite
  · exact Stays.refl s
  · exact (stays_pwr s { s with pwr := { s.pwr with locked := true } } rfl rfl rfl rfl).trans ((onF_stays _ _).trans
      ((onF_stays _ _).trans ((onTb_stays _ _).trans ((stays_ite _ _ _ _ (onRef_stays _ _) (Stays.refl _)).trans
        ((onRef_stays _ _).trans (onRef_stays _ _))))))

-- Power states

theorem linksDown_stays (s : State) : Stays s (linksDown s) := by
  unfold linksDown; dsimp only
  exact (onF_stays _ _).trans ((onNet_stays _ _).trans ((onStk_stays _ _).trans ((onPorts_stays _ _).trans (onRef_stays _ _))))

theorem drainOne_stays (s : State) (ch : Nat) : Stays s (drainOne s ch) :=
  stays_mem s _ rfl rfl rfl (fun h => setDrc_wf _ _ _ (drainAll_wf _ _ _ h))

theorem powerDown_stays (s : State) (dest : PState) : Stays s (powerDown s dest) := by
  unfold powerDown; dsimp only
  refine ((onF_stays s stopRings).trans (onF_stays _ fenceAll)).trans ?_
  generalize onF (onF s stopRings) fenceAll = s1
  refine Stays.trans (t := { s1 with host := { s1.host with jobs := [], posted := [] }, bus := BusState.reset })
    (stays_rfl _ _ rfl rfl rfl rfl) ?_
  generalize ({ s1 with host := { s1.host with jobs := [], posted := [] }, bus := BusState.reset } : State) = s2
  refine ((stays_foldl drainOne drainOne_stays (upto 2) s2).trans (linksDown_stays _)).trans ?_
  generalize linksDown ((upto 2).foldl drainOne s2) = s3
  refine Stays.trans (t := { s3 with pwr := { s3.pwr with state := dest } }) (stays_pwr _ _ rfl rfl rfl rfl) ?_
  exact (onPwr_stays _ _ (boostCheck_pins _ _)).trans (onF_stays _ _)

theorem psComplete_stays (s : State) : Stays s (psComplete s) := by
  unfold psComplete; dsimp only
  have h := stays_pwr s { s with pwr := { s.pwr with state := .active } } rfl rfl rfl rfl
  repeat' with_reducible apply stays_ite
  · exact Stays.refl s
  · exact onF_stays s _
  · exact ((onF_stays s _).trans (toQuiet_stays _)).trans (onF_stays _ _)
  · exact (h.trans ((onF_stays _ _).trans (onF_stays _ _))).trans (onF_stays _ _)
  · exact ((onF_stays s _).trans (powerDown_stays _ _)).trans (onF_stays _ _)

theorem wakeEvent_stays (s : State) (n : Nat) : Stays s (wakeEvent s n) := stays_pwr s _ rfl rfl (wakeSource_pins _ _ _) rfl

theorem forget_stays (s : State) : Stays s (forget s) :=
  stays_mem s _ rfl rfl rfl (fun h => by
    have h := (Memory.wf_iff _).mp h
    exact (Memory.wf_iff _).mpr ⟨h.1, h.2.1, rfl, h.2.2.2⟩)

theorem comeBack_stays (s : State) : Stays s (comeBack s) := by
  unfold comeBack
  extract_lets t1 t2 t3
  exact ((onF_stays s startRings).trans (onNet_stays _ _)).trans ((onF_stays t1 _).trans ((onPorts_stays t2 _).trans (onStk_stays t3 _)))

theorem wakeRetain_stays (s : State) : Stays s (wakeRetain s) := by
  unfold wakeRetain; dsimp only
  apply stays_ite
  · exact Stays.refl s
  · exact (stays_pwr s { s with pwr := { s.pwr with state := .active, wakePend := 0 } } rfl rfl rfl rfl).trans ((onF_stays _ _).trans
      ((onF_stays _ _).trans ((forget_stays _).trans ((onRen_stays _ _).trans ((comeBack_stays _).trans (onF_stays _ _))))))

theorem wakeDeep_stays (s : State) (x : Straps) : Stays s (wakeDeep s x) := by
  unfold wakeDeep; dsimp only
  apply stays_ite
  · exact Stays.refl s
  · exact (deviceReset_stays s 4).trans ((onF_stays _ _).trans (leaveReset_stays _ x))

theorem scrubOne_wf (acc : Fabric × MemState) (l : Nat) (h : Memory.wf acc.2 = true) : Memory.wf (scrubOne acc l).2 = true :=
  scrubFix_wf _ _ _ h

theorem foldl_scrub (l : List Nat) (acc : Fabric × MemState) (h : wfPair acc) : wfPair (l.foldl scrubOne acc) :=
  foldl_wfPair scrubOne (fun a b h => scrubOne_wf a b h) l acc h

theorem scrubRun_wf (f : Fabric) (m : MemState) (h : Memory.wf m = true) : wfPair (scrubRun f m) := by
  unfold scrubRun
  generalize keptLines f = l
  exact foldl_scrub l (f, m) h

theorem scrubKept_stays (s : State) : Stays s (scrubKept s) := by
  unfold scrubKept
  split
  · exact Stays.refl s
  · exact onMem_stays s scrubRun (scrubRun_wf s.fab s.mem)

end Sys2Proof.Machine
end

