-- ==== Sys2Proof/Laws/StaysWrite.lean ====
section
/-! SUPPORT. What the fences, the operations, the resets of a page, and the reads and writes of the register fabric leave alone
(Laws/Stays.lean). -/
namespace Sys2Proof.Machine

theorem fencePage_stays (s : State) (p : Nat) : Stays s (fencePage s p) := stays_rfl s _ rfl rfl rfl rfl

-- Operations

theorem opBegin_stays (s : State) (o : OpId) (op : Nat) : Stays s (opBegin s o op) := by
  cases o with
  | swap g => dsimp only [opBegin]; exact swapArm_stays _ _
  | scene => dsimp only [opBegin]; exact sceneStart_stays _ _
  | ld => dsimp only [opBegin]; exact onMtx_stays _ _
  | cnvLoad => dsimp only [opBegin]; exact onF_stays _ _
  | ps => dsimp only [opBegin]; exact onPwr_stays _ _ (psStart_pins _ _ _)
  | eng =>
    unfold opBegin
    exact stays_ite _ _ _ _ (onPwr_stays _ _ (engStart_pins _ _ _)) (onPwr_stays _ _ (engStop_pins _ _))
  | rejoin => dsimp only [opBegin]; exact onTri_stays _ _
  | feed => dsimp only [opBegin]; exact onF_stays _ _
  | flush => dsimp only [opBegin]; exact onF_stays _ _

theorem opCleanup_stays (s : State) (o : OpId) : Stays s (opCleanup s o) := by
  cases o with
  | swap g => dsimp only [opCleanup]; exact onF_stays _ _
  | scene => dsimp only [opCleanup]; exact sceneRelease_stays _
  | ld => dsimp only [opCleanup]; exact onMtx_stays _ _
  | cnvLoad => dsimp only [opCleanup]; exact onF_stays _ _
  | eng => dsimp only [opCleanup]; exact onPwr_stays _ _ (engAborted_pins _ _)
  | rejoin => dsimp only [opCleanup]; exact onTri_stays _ _
  | ps => dsimp only [opCleanup]; exact Stays.refl s
  | feed => dsimp only [opCleanup]; exact Stays.refl s
  | flush => dsimp only [opCleanup]; exact Stays.refl s

theorem doAbort_stays (s : State) (o : OpId) : Stays s (doAbort s o) := by
  unfold doAbort; dsimp only
  apply stays_ite
  · apply stays_ite
    · exact (opCleanup_stays s o).trans (onF_stays _ _)
    · exact opCleanup_stays s o
  · exact onF_stays _ _

theorem opFail_stays (s : State) (o : OpId) (c : Nat) : Stays s (opFail s o c) := failOn_stays _ _ _ _

theorem opCommand_stays (s : State) (o : OpId) (w : Word) : Stays s (opCommand s o w) := by
  unfold opCommand
  apply stays_ite
  · exact opFail_stays _ _ _
  · split
    · exact doAbort_stays _ _
    · exact Stays.refl s
    · exact opFail_stays _ _ _
    · exact stays_ite _ _ _ _ (opFail_stays _ _ _) (stays_ite _ _ _ _ (opFail_stays _ _ _) (opBegin_stays _ _ _))

-- ENABLE and soft resets

/-- A change of the fabric and the memories. -/
theorem stays_fm (s : State) (f : Fabric) (m : MemState) (h : Memory.wf s.mem = true → Memory.wf m = true) :
    Stays s { s with fab := f, mem := m } := stays_mem s _ rfl rfl rfl h

theorem drcDisable_stays (s : State) (ch : Nat) : Stays s (drcDisable s ch) := by
  unfold drcDisable; dsimp only
  exact (onF_stays s _).trans (stays_fm _ _ _ (fun h => drainAll_wf _ _ _ h))

theorem drcEnableWrite_stays (s : State) (ch : Nat) (b : Bool) : Stays s (drcEnableWrite s ch b) := by
  unfold drcEnableWrite
  (repeat' apply stays_ite)
  · exact Stays.refl s
  · exact onF_stays _ _
  · exact failOn_stays _ _ _ _
  · exact drcDisable_stays _ _

/-- A change of the cores. -/
theorem stays_cores (s : State) (c : CoreState) : Stays s { s with cores := c } := stays_rfl s _ rfl rfl rfl rfl

theorem dspEnableWrite_stays (s : State) (c : Nat) (b : Bool) : Stays s (dspEnableWrite s c b) := by
  unfold dspEnableWrite; dsimp only
  have h := (onF_stays s (fun f => putB f (dspAt c 0x08) 0 b)).trans (onCores_stays _ (fun f cs => coreEnable f cs c b))
  (repeat' apply stays_ite)
  · exact Stays.refl s
  · exact h
  · exact h.trans ((stays_cores _ _).trans (fencePage_stays _ _))

theorem pageEnable_stays (s : State) (p : Nat) (b : Bool) : Stays s (pageEnable s p b) := by
  unfold pageEnable; dsimp only
  apply stays_ite
  · exact Stays.refl s
  · have h := onF_stays s (fun f => putB f (ra p 0x08) 0 b)
    split
    · exact Stays.refl s
    · exact Stays.refl s
    · exact drcEnableWrite_stays _ _ _
    · exact dspEnableWrite_stays _ _ _
    · exact stays_ite _ _ _ _ (h.trans (onTb_stays _ _)) h
    · exact stays_ite _ _ _ _ ((h.trans (onRef_stays _ _)).trans (onRef_stays _ _)) (h.trans (onRef_stays _ _))
    · exact onTri_stays _ _
    · exact onStk_stays _ _
    · exact onNet_stays _ _
    · exact onStrm_stays _ _
    · exact onPorts_stays _ _
    · exact h.trans (onInc_stays _ _)
    · exact h.trans (onMtx_stays _ _)
    · exact h

theorem unitReset_stays (s : State) (p : Nat) : Stays s (unitReset s p) := by
  unfold unitReset; dsimp only
  split
  · exact onF_stays _ _
  · exact (withShed_stays _ _ (pwrSoft_pins _ _)).trans (onPwr_stays _ _ (boostCheck_pins _ _))
  · exact onF_stays _ _
  · exact onF_stays _ _
  · exact onF_stays _ _
  · exact stays_ite _ _ _ _ (stays_fm _ _ _ (fun h => drainAll_wf _ _ _ h)) (onF_stays _ _)
  · exact onF_stays _ _
  · exact onTb_stays _ _
  · exact onRef_stays _ _
  · exact onF_stays _ _
  · exact onTri_stays _ _
  · exact onF_stays _ _
  · exact stays_ite _ _ _ _ (onStk_stays _ _) (onF_stays _ _)
  · exact (onNet_stays _ _).trans (onNet_stays _ _)
  · exact onStrm_stays _ _
  · exact onPorts_stays _ _
  · exact onPorts_stays _ _
  · exact onInc_stays _ _
  · exact (onMtx_stays _ _).trans (onF_stays _ _)
  · exact stays_rfl s _ rfl rfl rfl rfl
  · exact stays_rfl s _ rfl rfl rfl rfl
  · exact stays_rfl s _ rfl rfl rfl rfl
  · exact ((onCores_stays s _).trans (stays_cores _ _)).trans (onF_stays _ _)
  · exact Stays.refl s

theorem abandonOps_stays (s : State) (p : Nat) : Stays s (abandonOps s p) := by
  unfold abandonOps
  apply stays_foldl
  intro s o
  exact stays_ite _ _ _ _ (doAbort_stays _ _) (Stays.refl s)

theorem linkOff_stays (s : State) (p : Nat) : Stays s (linkOff s p) := by
  unfold linkOff
  split
  · exact stays_ite _ _ _ _ (Stays.refl s) (onStk_stays _ _)
  · exact Stays.refl s

theorem doReset_stays (s : State) (p : Nat) : Stays s (doReset s p) := by
  unfold doReset
  exact (linkOff_stays s p).trans ((onF_stays _ _).trans ((unitReset_stays _ p).trans (onF_stays _ _)))

theorem fenceSoft_stays (s : State) (p : Nat) : Stays s (fenceSoft s p) := stays_ite _ _ _ _ (Stays.refl s) (fencePage_stays s p)

theorem softRst_stays (s : State) (p : Nat) : Stays s (softRst s p) := by
  unfold softRst; dsimp only
  split
  · exact Stays.refl s
  · have h := (abandonOps_stays s p).trans (fenceSoft_stays _ p)
    (repeat' apply stays_ite)
    · exact failOn_stays _ _ _ _
    · exact h.trans ((onF_stays _ _).trans (onF_stays _ _))
    · exact h.trans ((doReset_stays _ p).trans ((onF_stays _ _).trans (onF_stays _ _)))
    · exact h.trans ((doReset_stays _ p).trans (onF_stays _ _))

theorem softRstDone_stays (s : State) (p : Nat) : Stays s (softRstDone s p) := by
  unfold softRstDone; dsimp only
  split
  · exact Stays.refl s
  · (repeat' apply stays_ite)
    · exact Stays.refl s
    · exact Stays.refl s
    · exact onF_stays _ _
    · exact Stays.refl s
    · refine Stays.trans ?_ ((onF_stays _ _).trans (onF_stays _ _))
      exact stays_ite _ _ _ _ (doReset_stays _ _) (Stays.refl s)

theorem dramTrainEnd_stays (s : State) (ch : Nat) (ok : Bool) : Stays s (dramTrainEnd s ch ok) := by
  unfold dramTrainEnd; dsimp only
  exact stays_ite _ _ _ _ (onF_stays _ _) ((onF_stays _ _).trans (onF_stays _ _))

-- Reads

theorem readEffect_stays (s t : State) (q a : Nat) (h : readEffect s q a = some t) : Stays s t := by
  unfold readEffect at h; dsimp only at h
  (repeat' split at h) <;> first
    | (injection h with h; subst h; first
        | exact onF_stays _ _
        | exact onTb_stays _ _
        | exact onNet_stays _ _
        | exact stays_rfl s _ rfl rfl rfl rfl)
    | exact absurd h (by simp)

theorem busRead_stays (s : State) (q a : Nat) : Stays s (busRead s q a).1 := by
  unfold busRead
  split
  · dsimp only; exact onF_stays _ _
  · split
    · dsimp only; exact onF_stays _ _
    · split
      · rename_i t h
        split at h
        · exact readEffect_stays _ _ _ _ h
        · exact absurd h (by simp)
      · split
        · dsimp only; exact onF_stays _ _
        · dsimp only; exact onF_stays _ _

-- Writes

theorem hstWrite_stays (s : State) (o : Nat) (v : Word) (r : RegRow) : Stays s (hstWrite s o v r) := by
  unfold hstWrite; dsimp only
  (repeat' with_reducible apply stays_ite) <;> first | exact onF_stays _ _ | exact Stays.refl s

theorem segPush_stays (s : State) (q : Nat) (t m : Bool) (n : Nat) : Stays s (segPush s q t m n) := by
  unfold segPush
  exact stays_ite _ _ _ _ (failOn_stays _ _ _ _) (onRen_stays _ _)

theorem stkCmd_stays (s : State) (v : Word) : Stays s (stkCmd s v) := by
  unfold stkCmd; dsimp only
  have h1 : ∀ s : State, Stays s (if bit v 0 = true then onStk s cmdEnum else s) :=
    fun s => stays_ite _ _ _ _ (onStk_stays _ _) (Stays.refl s)
  have h2 : ∀ s : State, Stays s (if bit v 1 = true then onStk s restore else s) :=
    fun s => stays_ite _ _ _ _ (onStk_stays _ _) (Stays.refl s)
  have h3 : ∀ s : State, Stays s (if bit v 2 = true then onStk s handback else s) :=
    fun s => stays_ite _ _ _ _ (onStk_stays _ _) (Stays.refl s)
  exact (h1 _).trans ((h2 _).trans (h3 _))

theorem blockWrite_stays (s : State) (q a : Nat) (v : Word) (r : RegRow) : Stays s (blockWrite s q a v r) := by
  unfold blockWrite
  extract_lets p o plain
  have hp : Stays s plain := onF_stays _ _
  clear_value plain p o
  split
  · exact opCommand_stays _ _ _
  · apply stays_ite
    · exact onF_stays _ _
    · generalize blockOf p = b
      rcases b with _ | ⟨b, n⟩
      · exact hp
      · cases b <;> dsimp only
        case' STRM => rcases n with _ | n; rotate_left; exact hp; change Stays s (if o = 0x44 then (if bit v 1 = true then onF _ _ else _) else plain)
        case' REN => rcases n with _ | n; rotate_left; exact hp; change Stays s (if o = 0xBC then segPush s q _ _ _ else plain)
        all_goals try dsimp only
        all_goals repeat' with_reducible apply stays_ite
        all_goals first
          | with_reducible exact hp
          | with_reducible exact Stays.refl s
          | with_reducible exact onF_stays _ _
          | with_reducible exact failOn_stays _ _ _ _
          | with_reducible exact chipReset_stays _ _
          | (with_reducible apply onPwr_stays); exact boostWrite_pins _ _ _ _
          | (with_reducible apply withShed_stays); first | exact shedForce_pins _ _ _ | exact thmCmd_pins _ _ _
          | (with_reducible apply onMem_stays); exact fun h => keepPut_wf _ _ _ h
          | (with_reducible apply onNetMem_stays); exact fun h => gateCtrl_wf _ _ _ _ _ h
          | with_reducible exact hstWrite_stays _ _ _ _
          | with_reducible exact onTb_stays _ _
          | with_reducible exact hp.trans (onF_stays _ _)
          | with_reducible exact hp.trans (onNet_stays _ _)
          | with_reducible exact onRef_stays _ _
          | with_reducible exact (onRef_stays _ _).trans (onRef_stays _ _)
          | with_reducible exact (onF_stays _ _).trans ((onRef_stays _ _).trans (onRef_stays _ _))
          | with_reducible exact (stays_ite _ _ _ _ (onTb_stays _ _) (Stays.refl s)).trans (comparatorDisarm_stays _ _)
          | with_reducible exact onTriStk_stays _ _
          | with_reducible exact onTri_stays _ _
          | with_reducible exact stkCmd_stays _ _
          | with_reducible exact onNet_stays _ _
          | with_reducible exact onInc_stays _ _
          | with_reducible exact segPush_stays _ _ _ _ _
          | with_reducible exact onCores_stays _ _
          | with_reducible exact (stays_ite _ _ _ _ (onTb_stays _ _) (Stays.refl s)).trans (onTb_stays _ _)
          | with_reducible exact (stays_ite _ _ _ _ (onF_stays _ _) (Stays.refl s)).trans (onF_stays _ _)
          | with_reducible exact (stays_ite _ _ _ _ (hp.trans (onPorts_stays _ _)) hp).trans (onF_stays _ _)
          | exact hp.trans (onPorts_stays _ _)

theorem headWrite_stays (s : State) (p o : Nat) (v : Word) : Stays s (headWrite s p o v) := by
  unfold headWrite
  (repeat' with_reducible apply stays_ite) <;> first
    | exact softRst_stays _ _
    | exact pageEnable_stays _ _ _
    | exact onF_stays _ _
    | exact Stays.refl s

theorem winWrite_stays (s : State) (a : Nat) (v : Word) : Stays s (winWrite s a v).1 := by
  unfold winWrite; dsimp only
  split
  · exact Stays.refl s
  · exact Stays.refl s
  · exact Stays.refl s
  · split
    · exact failOn_stays _ _ _ _
    · split
      · exact Stays.refl s
      · exact stays_rfl s _ rfl rfl rfl rfl
  · (repeat' split) <;> dsimp only <;> first
      | exact onF_stays _ _
      | exact failOn_stays _ _ _ _
      | exact Stays.refl s
      | exact (onF_stays _ _).trans (onF_stays _ _)

theorem busWrite_stays (s : State) (q a : Nat) (v : Word) : Stays s (busWrite s q a v).1 := by
  unfold busWrite
  split
  · exact winWrite_stays _ _ _
  · split
    · exact Stays.refl s
    · dsimp only
      split
      · exact headWrite_stays _ _ _ _
      · split
        · exact failOn_stays _ _ _ _
        · exact blockWrite_stays _ _ _ _ _

end Sys2Proof.Machine
end

