-- ==== Sys2Proof/Laws/StaysHost.lean ====
section
/-! SUPPORT. What the accesses of a requester, the DMA channels, the QSPI target, the stack window and the bus matrix leave alone
(Laws/Stays.lean). -/
namespace Sys2Proof.Machine

theorem accFail_stays (s : State) (q sp : Nat) (k : AccKind) (a : Nat) (w : Bool) : Stays s (accFail s q sp k a w) := onF_stays s _

theorem read32_stays (s : State) (q a : Nat) : Stays s (read32 s q a).1 := by
  unfold read32; dsimp only
  exact stays_ite _ _ _ _ ((busRead_stays s q a).trans (accFail_stays _ _ _ _ _ _)) (busRead_stays s q a)

theorem busReadUpper_stays (s : State) (q a : Nat) : Stays s (busReadUpper s q a).1 := by
  unfold busReadUpper
  split
  · dsimp only
    exact onF_stays s _
  · dsimp only
    exact onF_stays s _
theorem readUpper_stays (s : State) (q a : Nat) : Stays s (readUpper s q a).1 := by
  unfold readUpper; dsimp only
  exact stays_ite _ _ _ _ ((busReadUpper_stays s q a).trans (accFail_stays _ _ _ _ _ _)) (busReadUpper_stays s q a)

theorem write32_stays (s : State) (q a : Nat) (v : Word) : Stays s (write32 s q a v).1 := by
  unfold write32; dsimp only
  exact stays_ite _ _ _ _ ((busWrite_stays s q a v).trans (accFail_stays _ _ _ _ _ _)) (busWrite_stays s q a v)

theorem hostRead_stays (s : State) (q a : Nat) (z : AccSize) : Stays s (hostRead s q a z).1 := by
  unfold hostRead
  split
  · exact (onF_stays _ _).trans (accFail_stays _ _ _ _ _ _)
  · split
    · exact read32_stays _ _ _
    · dsimp only
      exact (read32_stays _ _ _).trans ((readUpper_stays _ _ _).trans (onF_stays _ _))
    · split
      · exact (onF_stays _ _).trans (accFail_stays _ _ _ _ _ _)
      · dsimp only
        exact onF_stays _ _

theorem hostWrite_stays (s : State) (q a : Nat) (z : AccSize) (v : BitVec 64) : Stays s (hostWrite s q a z v).1 := by
  unfold hostWrite
  split
  · exact accFail_stays _ _ _ _ _ _
  · dsimp only
    split
    · exact (write32_stays _ _ _ _).trans (write32_stays _ _ _ _)
    · exact write32_stays _ _ _ _

theorem hostDramRead_stays (s : State) (a n : Nat) : Stays s (hostDramRead s a n).1 := by
  unfold hostDramRead
  split
  · exact accFail_stays _ _ _ _ _ _
  · exact stays_fm _ _ _ (fun h => dramRead_wf _ _ _ _ _ h)

theorem hostDramWrite_stays (s : State) (a : Nat) (d : List Byte) : Stays s (hostDramWrite s a d).1 := by
  unfold hostDramWrite
  split
  · exact accFail_stays _ _ _ _ _ _
  · dsimp only
    exact onMem_stays s _ (fun h => dramWrite_wf _ _ _ _ _ h)

theorem stackAccess_stays (s : State) (q a : Nat) (w : Option Word) : Stays s (stackAccess s q a w).1 := by
  unfold stackAccess
  split
  · exact accFail_stays _ _ _ _ _ _
  · split
    · split
      · exact read32_stays _ _ _
      · exact write32_stays _ _ _ _
    · dsimp only
      exact onStk_stays _ _

theorem putWords_stays (s : State) (sp a : Nat) (l : List Word) : Stays s (putWords s sp a l) := by
  induction l generalizing s a with
  | nil => exact Stays.refl s
  | cons w r ih =>
    unfold putWords; dsimp only
    exact (stays_ite _ _ _ _ (write32_stays _ _ _ _) (stackAccess_stays _ _ _ _)).trans (ih _ _)

theorem getWords_stays (s : State) (a n : Nat) : Stays s (getWords s a n).1 := by
  induction n generalizing s a with
  | zero => exact Stays.refl s
  | succ n ih => exact (read32_stays _ _ _).trans (ih _ _)

theorem askWords_stays (s : State) (a n : Nat) : Stays s (askWords s a n) := by
  induction n generalizing s a with
  | zero => exact Stays.refl s
  | succ n ih => exact (stackAccess_stays _ _ _ _).trans (ih _ _)

-- DMA

theorem stays_host (s : State) (h : HostState) : Stays s { s with host := h } := stays_rfl s _ rfl rfl rfl rfl

theorem dmaStart_stays (s : State) (c : Nat) (d : Option Desc) : Stays s (dmaStart s c d) := by
  unfold dmaStart; dsimp only
  split
  · exact Stays.refl s
  · split
    · exact onF_stays _ _
    · split
      · exact onF_stays _ _
      · have h := fun x => (onF_stays s (fun f => putB f (dmaAt c 0x18) 0 true)).trans (stays_host _ x)
        exact stays_ite _ _ _ _ ((h _).trans (askWords_stays _ _ _)) (h _)

theorem toHostPut_stays (s : State) (a : Nat) (d : List Byte) : Stays s (toHostPut s a d) := stays_host s _

theorem dmaMove_stays (s : State) (d : Desc) (data : Option (List Byte)) : Stays s (dmaMove s d data).1 := by
  unfold dmaMove; dsimp only
  split
  · split
    · exact Stays.refl s
    · split
      · exact Stays.refl s
      · split
        · exact hostDramWrite_stays _ _ _
        · exact putWords_stays _ _ _ _
  · split
    · exact (hostDramRead_stays _ _ _).trans (toHostPut_stays _ _ _)
    · split
      · exact (getWords_stays _ _ _).trans (toHostPut_stays _ _ _)
      · exact toHostPut_stays _ _ _

theorem dmaFinish_stays (s : State) (c : Nat) (d : Desc) (k : Nat) (b : Bool) : Stays s (dmaFinish s c d k b) := by
  unfold dmaFinish; dsimp only
  refine Stays.trans ?_ (onF_stays _ _)
  exact (stays_ite _ _ _ _ (toHostPut_stays _ _ _) (Stays.refl s)).trans (stays_host _ _)

theorem dmaComplete_stays (s : State) (c : Nat) (d : Option (List Byte)) (b : Bool) : Stays s (dmaComplete s c d b) := by
  unfold dmaComplete
  split
  · exact Stays.refl s
  · exact stays_ite _ _ _ _ (dmaFinish_stays _ _ _ _ _) ((dmaMove_stays _ _ _).trans (dmaFinish_stays _ _ _ _ _))

-- QSPI

/-- A choice between two results. -/
theorem stays_fst_ite {γ : Type} (s : State) (c : Prop) [Decidable c] (x y : State × γ) (hx : Stays s x.1) (hy : Stays s y.1) :
    Stays s (if c then x else y).1 := by
  split <;> assumption

theorem accFail_pair {γ : Type} (s : State) (q sp : Nat) (k : AccKind) (a : Nat) (w : Bool) (g : γ) :
    Stays s ((accFail s q sp k a w, g) : State × γ).1 := accFail_stays s q sp k a w

theorem qsWriteAt_stays (s : State) (a sp o : Nat) (w : Word) : Stays s (qsWriteAt s a sp o w).1 := by
  unfold qsWriteAt
  generalize qsDram s.fab a = d
  generalize (2 ^ 24 : Nat) = lim
  apply stays_fst_ite
  · exact stays_fst_ite _ _ _ _ (hostWrite_stays _ _ _ _ _) (accFail_pair _ _ _ _ _ _ _)
  · apply stays_fst_ite
    · exact stackAccess_stays _ _ _ _
    · apply stays_fst_ite
      · exact stays_fst_ite _ _ _ _ (accFail_pair _ _ _ _ _ _ _) (hostDramWrite_stays _ _ _)
      · exact accFail_pair _ _ _ _ _ _ _

theorem qsWriteOne_stays (s : State) (a : Nat) (w : Word) : Stays s (qsWriteOne s a w).1 := qsWriteAt_stays _ _ _ _ _

theorem qsPostedDone_stays (s : State) : Stays s (qsPostedDone s) := by
  unfold qsPostedDone
  split
  · exact Stays.refl s
  · exact (stays_host s _).trans ((qsWriteOne_stays _ _ _).trans (stays_host _ _))

theorem qsDrain_stays (n : Nat) (s : State) : Stays s (qsDrain n s) := by
  induction n generalizing s with
  | zero => exact Stays.refl s
  | succ n ih => exact (qsPostedDone_stays s).trans (ih _)

theorem qsWrite_stays (s : State) (a : Nat) (l : List Word) : Stays s (qsWrite s a l) := by
  unfold qsWrite
  exact stays_ite _ _ _ _ (Stays.refl s) (stays_ite _ _ _ _ (stays_host _ _) (stays_host _ _))

theorem qsAnswer_stays (s : State) (p : Byte) (w : Word) : Stays s (qsAnswer s p w) := stays_host s _

theorem qsBar_stays (s : State) (o lim : Nat) : Stays s (if o < lim then
    (fun (t : State × Bool) => (t.1, some (BitVec.ofNat 32 (lastRead t.1 0)))) (hostRead s 0 o .b32)
    else (accFail s 0 0 .unmapped o false, some 0)).1 :=
  stays_fst_ite _ _ _ _ (hostRead_stays _ _ _ _) (accFail_stays _ _ _ _ _ _)

theorem qsRemote_stays (s : State) (o : Nat) (r : State × Bool) (h : Stays s r.1) : Stays s
    (if o % 4 = 0 ∧ o / 2 ^ 24 ≠ stkId s.fab ∧ !r.2 then (r.1, none)
    else if o % 4 ≠ 0 then (r.1, some (BitVec.ofNat 32 (Config.unalignedRead 0 o).toNat))
    else (r.1, some (BitVec.ofNat 32 (lastRead r.1 0)))).1 :=
  stays_fst_ite _ _ _ _ h (stays_fst_ite _ _ _ _ h h)

theorem qsDramWord_stays (s : State) (a d : Nat) : Stays s
    (if a % 4 ≠ 0 then (accFail s 0 2 .size d false, some (BitVec.ofNat 32 (Config.unalignedRead 0 d).toNat))
    else
      let r := hostDramRead s d 4
      (r.1, some (BitVec.ofNat 32 (leNat (hostBytes r.1.fab r.2.1))))).1 :=
  stays_fst_ite _ _ _ _ (accFail_stays _ _ _ _ _ _) (hostDramRead_stays _ _ _)

theorem qsNone_stays (s : State) (o : Nat) : Stays s ((accFail s 0 0 .unmapped o false, some 0) : State × Option Word).1 :=
  accFail_stays _ _ _ _ _ _

theorem qsReadAt_stays (s : State) (a sp o : Nat) : Stays s (qsReadAt s a sp o).1 := by
  unfold qsReadAt
  refine stays_fst_ite _ _ _ _ ?_ ?_
  · with_reducible exact qsBar_stays s o _
  · refine stays_fst_ite _ _ _ _ ?_ ?_
    · exact qsRemote_stays s o _ (stackAccess_stays _ _ _ _)
    · refine stays_fst_ite _ _ _ _ ?_ ?_
      · with_reducible exact qsDramWord_stays s a _
      · with_reducible exact qsNone_stays s o

theorem qsReadOne_stays (s : State) (a : Nat) : Stays s (qsReadOne s a).1 := qsReadAt_stays _ _ _ _

theorem qsReadWords_stays (n : Nat) (s : State) (a : Nat) : Stays s (qsReadWords s a n) := by
  induction n generalizing s a with
  | zero => exact Stays.refl s
  | succ n ih =>
    unfold qsReadWords; dsimp only
    split
    · exact (qsReadOne_stays _ _).trans ((qsAnswer_stays _ _ _).trans (ih _ _))
    · exact (qsReadOne_stays _ _).trans (stays_host _ _)

theorem qsRead_stays (s : State) (a n : Nat) : Stays s (qsRead s a n) := by
  unfold qsRead; dsimp only
  apply stays_ite
  · exact Stays.refl s
  · exact stays_ite _ _ _ _ (stays_host _ _) ((qsDrain_stays _ _).trans ((stays_host _ _).trans (qsReadWords_stays _ _ _)))

theorem qsResume_stays (s : State) (t : Nat) (w : Word) : Stays s (qsResume s t w) := by
  unfold qsResume
  split
  · exact Stays.refl s
  · exact stays_ite _ _ _ _ ((stays_host _ _).trans ((qsAnswer_stays _ _ _).trans (qsReadWords_stays _ _ _))) (Stays.refl s)

theorem qsTimeout_stays (s : State) : Stays s (qsTimeout s) := by
  unfold qsTimeout; dsimp only
  exact stays_ite _ _ _ _ ((qsAnswer_stays _ _ _).trans (stays_host _ _)) (Stays.refl s)

theorem qsEnd_stays (s : State) (b : Bool) : Stays s (qsEnd s b) := by
  unfold qsEnd
  exact stays_ite _ _ _ _ (Stays.refl s) (stays_host _ _)

theorem qsWord_stays (s : State) (w : Word) : Stays s (qsWord s w) := by
  unfold qsWord
  exact stays_ite _ _ _ _ (Stays.refl s) (stays_rfl s _ rfl rfl rfl rfl)

theorem qsClear_stays (s : State) : Stays s (qsClear s) := by
  unfold qsClear
  exact stays_ite _ _ _ _ (Stays.refl s) (stays_host _ _)

theorem perstN_stays (s : State) : Stays s (perstN s) := by
  unfold perstN; dsimp only
  exact stays_ite _ _ _ _ (Stays.refl s) ((onF_stays _ _).trans ((stays_host _ _).trans (fencePage_stays _ _)))

theorem pcieLink_stays (s : State) (b : Bool) (g w : Nat) : Stays s (pcieLink s b g w) := by
  unfold pcieLink
  exact stays_ite _ _ _ _ (Stays.refl s) (onF_stays _ _)

-- Remote accesses

theorem serveRemote_stays (s : State) (p : Nat) (m : BitVec 128) (b : Bool) : Stays s (serveRemote s p m b) := by
  unfold serveRemote; dsimp only
  have h0 : ∀ f k, Stays s { s with fab := f, stk := k } := fun f k => stays_rfl s _ rfl rfl rfl rfl
  apply stays_ite
  · exact h0 _ _
  · refine Stays.trans (h0 (takeX s.fab s.stk p (if b = true then 0x11 else 0x10) m).1
      (takeX s.fab s.stk p (if b = true then 0x11 else 0x10) m).2.1) (Stays.trans ?_ (onStk_stays _ _))
    split
    · exact hostWrite_stays _ _ _ _ _
    · exact hostRead_stays _ _ _ _

theorem remoteDone_stays (s : State) (p : Nat) (m : BitVec 128) : Stays s (remoteDone s p m) := by
  unfold remoteDone; dsimp only
  exact stays_ite _ _ _ _ ((onStk_stays _ _).trans (qsResume_stays _ _ _)) (onStk_stays _ _)

theorem remoteLate_stays (s : State) : Stays s (remoteLate s) := by
  unfold remoteLate
  split
  · exact Stays.refl _
  · exact (onStk_stays _ _).trans (qsResume_stays _ _ _)

-- Core DMA

theorem coreReads_stays (q bus : Nat) (l : List Nat) (acc : State × List Word) :
    Stays acc.1 (l.foldl (fun (acc : State × List Word) i =>
      let t := (read32 acc.1 q (bus - 0xF800_0000 + 4 * i)).1
      (t, acc.2 ++ [BitVec.ofNat 32 (lastRead t q)])) acc).1 :=
  by
  apply stays_foldlP
  intro s b
  exact read32_stays s.1 q _

theorem coreDmaRead_stays (s : State) (q bus n : Nat) : Stays s (coreDmaRead s q bus n).1 := by
  unfold coreDmaRead; dsimp only
  split
  · exact stays_fm _ _ _ (fun h => dramRead_wf _ _ _ _ _ h)
  · split
    · exact Stays.refl s
    · exact coreReads_stays q bus (upto n) (s, [])

theorem coreDmaWrite_stays (s : State) (q bus : Nat) (ws : List Word) : Stays s (coreDmaWrite s q bus ws).1 := by
  unfold coreDmaWrite
  split
  · dsimp only
    exact onMem_stays s _ (fun h => dramWrite_wf _ _ _ _ _ h)
  · split
    · exact stays_mem s _ rfl rfl rfl (fun h => foldlM_wf _ (fun a b h => sharedPut_wf a _ _ h) _ _ h)
    · exact stays_foldl _ (fun s e => write32_stays s q _ _) _ _

theorem coreDmaEnd_stays (s : State) (c : Nat) : Stays s (coreDmaEnd s c) := by
  unfold coreDmaEnd; dsimp only
  split
  · exact Stays.refl s
  · apply stays_ite
    · exact onCores_stays _ _
    · exact stays_ite _ _ _ _ ((coreDmaWrite_stays _ _ _ _).trans (onCores_stays _ _))
        ((coreDmaRead_stays _ _ _ _).trans (onCores_stays _ _))

theorem unmapped_stays (s : State) (q : Nat) (sp : Space) (a : Nat) (w : Bool) : Stays s (unmapped s q sp a w) := by
  unfold unmapped; dsimp only
  have h : Stays s (accFail (if w = true then s else onF s (fun f => answer f q 0)) q 0 .unmapped a w) :=
    (stays_ite _ _ _ _ (Stays.refl s) (onF_stays _ _)).trans (accFail_stays _ _ _ _ _ _)
  have h' : ∀ n k, Stays s (accFail (if w = true then s else onF s (fun f => answer f q 0)) q n k a w) := fun n k =>
    (stays_ite _ _ _ _ (Stays.refl s) (onF_stays _ _)).trans (accFail_stays _ _ _ _ _ _)
  cases sp with
  | bar0 => exact stays_ite _ _ _ _ h (Stays.refl s)
  | stackWindow => exact stays_ite _ _ _ _ (h' _ _) (Stays.refl s)
  | dram =>
    dsimp only
    split
    · exact h' _ _
    · exact Stays.refl s

-- The bus matrix

theorem stays_bus (s : State) (b : BusState) : Stays s { s with bus := b } := stays_rfl s _ rfl rfl rfl rfl

theorem fabWrite_stays (q : Nat) (l : List (List (Byte × Bool))) (s : State) (a : Nat) : Stays s (fabWrite s q a l) := by
  induction l generalizing s a with
  | nil => exact Stays.refl s
  | cons w r ih =>
    unfold fabWrite; dsimp only
    refine Stays.trans ?_ (ih _ _)
    exact stays_ite _ _ _ _ (Stays.refl s) (stays_ite _ _ _ _ (hostWrite_stays _ _ _ _ _) (accFail_stays _ _ _ _ _ _))

theorem fabReads_stays (q a : Nat) (l : List Nat) (acc : State × List Byte) :
    Stays acc.1 (l.foldl (fun (acc : State × List Byte) i =>
      let t := (hostRead acc.1 q (a + 4 * i) .b32).1
      (t, acc.2 ++ leBytes 4 (lastRead t q))) acc).1 :=
  by
  apply stays_foldlP
  intro s b
  exact hostRead_stays s.1 q _ _

theorem fabRead_stays (s : State) (q a n : Nat) : Stays s (fabRead s q a n).1 := by
  unfold fabRead; dsimp only
  split
  · exact hostRead_stays _ _ _ _
  · exact fabReads_stays q a (upto (n / 4)) (s, [])

theorem targetDo_stays (s : State) (r : BusReq) : Stays s (targetDo s r).1 := by
  unfold targetDo; dsimp only
  split
  · split
    · exact Stays.refl s
    · exact stays_mem s _ rfl rfl rfl (fun h => sharedStrobes_wf _ _ _ h)
  · split
    · exact fabRead_stays _ _ _ _
    · exact fabWrite_stays _ _ _ _

theorem busDone_stays (s : State) (r : BusReq) (d : List Byte) (p : Bool) : Stays s (busDone s r d p) := stays_bus s _

theorem stays_drc (s : State) (ch : Nat) (d : Drc) : Stays s { s with mem := setDrc s.mem ch d } :=
  stays_mem s _ rfl rfl rfl (fun h => setDrc_wf _ _ _ h)

theorem busPerform_stays (s : State) : Stays s (busPerform s) := by
  unfold busPerform
  apply stays_foldl
  intro s e
  dsimp only
  (repeat' split) <;> first
    | exact Stays.refl s
    | exact (targetDo_stays _ _).trans (busDone_stays _ _ _ _)
    | exact busDone_stays _ _ _ _
    | exact (stays_drc _ _ _).trans (busDone_stays _ _ _ _)

theorem busReturn_stays (n : Nat) (s : State) : Stays s (busReturn n s) := by
  induction n generalizing s with
  | zero => exact Stays.refl s
  | succ n ih =>
    unfold busReturn; dsimp only
    split
    · exact Stays.refl s
    · exact (stays_bus s _).trans (ih _)

theorem busAccept_stays (s : State) (t i : Nat) (r : BusReq) : Stays s (busAccept s t i r) := by
  unfold busAccept; dsimp only
  have h := fun b => (stays_bus s b).trans (onF_stays { s with bus := b } (fun f => putF f (ra pBUS (0xB0 + 4 * t)) 3 0 r.master))
  (repeat' split)
  · exact (h _).trans (onMem_stays _ _ (fun h => batchHi_wf _ _ _ (setDrc_wf _ _ _ h)))
  · exact (h _).trans (stays_mem _ _ rfl rfl rfl (fun h => setDrc_wf _ _ _ h))
  · exact h _

theorem busRound_stays (s : State) : Stays s (busRound s) := by
  unfold busRound; dsimp only
  refine (busPerform_stays s).trans ((busReturn_stays (busPerform s).bus.outst.length _).trans ?_)
  apply stays_foldl
  intro s t
  (repeat' split) <;> first | exact Stays.refl s | exact busAccept_stays _ _ _ _

theorem busPump_stays (n : Nat) (s : State) : Stays s (busPump n s) := by
  induction n generalizing s with
  | zero => exact Stays.refl s
  | succ n ih =>
    unfold busPump; dsimp only
    exact stays_ite _ _ _ _ (busRound_stays s) ((busRound_stays s).trans (ih _))

theorem busSettle_stays (s : State) : Stays s (busSettle s) := by
  unfold busSettle
  exact (busPump_stays _ s).trans ((onMem_stays _ _ (fun h => trackGo_wf _ _ _ h)).trans
    ((onMem_stays _ _ (fun h => trackGo_wf _ _ _ h)).trans (onF_stays _ _)))

theorem moreBeats_stays (s t : State) (m i a : Nat) (d : List (Byte × Bool)) (h : moreBeats s m i a d = some t) : Stays s t := by
  unfold moreBeats at h; dsimp only at h
  split at h
  · injection h with h; subst h; exact stays_bus _ _
  · split at h
    · injection h with h; subst h
      exact stays_mem s _ rfl rfl rfl (fun h => wf_same _ _ h rfl rfl rfl rfl)
    · exact absurd h (by simp)

theorem busRequest_stays (s : State) (r : BusReq) : Stays s (busRequest s r) := by
  unfold busRequest
  split
  · rename_i t h
    cases hw : r.wdata with
    | none => rw [hw] at h; exact absurd h (by simp)
    | some d =>
      rw [hw] at h
      exact (moreBeats_stays s t r.master r.id r.addr d h).trans (busSettle_stays t)
  · split
    · exact Stays.refl s
    · dsimp only
      (repeat' with_reducible apply stays_ite)
      · exact Stays.refl s
      · have h0 : Stays s (if r.master = 0 then accFail s 0 2 .notReady r.addr r.wdata.isSome else s) :=
          stays_ite _ _ _ _ (accFail_stays _ _ _ _ _ _) (Stays.refl s)
        refine Stays.trans h0 (Stays.trans ?_ (busSettle_stays _))
        exact stays_bus _ _
      · exact (stays_bus s _).trans (busSettle_stays _)

theorem busAge_stays (s : State) : Stays s (busAge s) := by
  unfold busAge; dsimp only
  split
  · refine Stays.trans ?_ (onF_stays _ _)
    exact stays_mem s _ rfl rfl rfl (fun h => wf_same _ _ h rfl rfl rfl rfl)
  · split
    · exact Stays.refl s
    · exact (stays_bus s _).trans (onF_stays _ _)

theorem readLine_stays (s : State) (ch : Nat) (r : BusReq) : Stays s (readLine s ch r) := by
  unfold readLine; dsimp only
  exact (stays_drc s ch _).trans ((stays_fm _ _ _ (fun h => dramLine_wf _ _ _ _ _ h)).trans (busDone_stays _ _ _ _))

theorem batchCheck_stays (s : State) (ch : Nat) : Stays s (batchCheck s ch) :=
  onMem_stays s _ (fun h => batchHi_wf _ _ _ h)

theorem dueFirst_stays (s : State) (ch : Nat) : Stays s { s with mem := dueFirst s.mem ch } :=
  stays_mem s _ rfl rfl rfl (fun h => dueFirst_wf _ _ h)

theorem batchLo_stays (s : State) (ch : Nat) : Stays s { s with mem := batchLo s.fab s.mem ch } :=
  stays_mem s _ rfl rfl rfl (fun h => batchLo_wf _ _ _ h)

theorem performWrite_stays (s : State) (r : BusReq) : Stays s (onMem s (fun f m => performWrite f m r)) :=
  onMem_stays s _ (fun h => performWrite_wf _ _ _ h)

theorem dramReadCmd_stays (s : State) (ch : Nat) : Stays s (dramReadCmd s ch) := by
  unfold dramReadCmd; dsimp only
  split
  · exact Stays.refl s
  · split
    · exact dueFirst_stays s ch
    · exact (dueFirst_stays s ch).trans ((readLine_stays _ _ _).trans ((batchCheck_stays _ _).trans (busSettle_stays _)))

theorem dramWriteCmd_stays (s : State) (ch : Nat) : Stays s (dramWriteCmd s ch) := by
  unfold dramWriteCmd; dsimp only
  split
  · exact Stays.refl s
  · split
    · exact Stays.refl s
    · split
      · exact Stays.refl s
      · exact (dueFirst_stays s ch).trans ((stays_drc _ ch _).trans ((performWrite_stays _ _).trans ((batchLo_stays _ ch).trans
          ((onF_stays _ _).trans (busSettle_stays _)))))

theorem batchEnd_stays (s : State) (ch : Nat) (b : Bool) : Stays s (batchEnd s ch b) := by
  unfold batchEnd; dsimp only
  refine Stays.trans ?_ ((batchCheck_stays _ _).trans (busSettle_stays _))
  exact stays_ite _ _ _ _ (batchLo_stays s ch) (stays_ite _ _ _ _ (stays_drc _ _ _) (stays_drc _ _ _))

theorem fenceOne_stays (s : State) (r : BusReq) : Stays s (fenceOne s r) := by
  unfold fenceOne; dsimp only
  (repeat' split) <;> first
    | exact Stays.refl s
    | exact targetDo_stays _ _
    | exact readLine_stays _ _ _
    | exact (stays_drc s _ _).trans ((performWrite_stays _ _).trans ((batchLo_stays _ _).trans (onF_stays _ _)))

theorem fenceEnd_stays (s : State) : Stays s (fenceEnd s) := by
  unfold fenceEnd; dsimp only
  split
  · exact Stays.refl s
  · refine Stays.trans ?_ ((stays_bus _ _).trans ((onF_stays _ _).trans (busSettle_stays _)))
    apply stays_foldl
    intro s e
    exact stays_ite _ _ _ _ (fenceOne_stays _ _) (Stays.refl s)

end Sys2Proof.Machine
end

