-- ==== Sys2Proof/WellFormed.lean ====
section
/-! DEFINITION. What each command's operands must be for it to stand for an event of the device (R40, R41, R47, R66, R140,
R172, R459, R477, R500, R522): addresses inside their space, pages that exist, lists of the length the device has. A command
that is not well-formed describes no event; exec answers it all the same. -/
namespace Sys2Proof

open Sys2Proof.Machine

/-- The end of an address space (R57, R58, R428). -/
def spaceTop : Space → Nat
  | .bar0 => 2 ^ 24
  | .stackWindow => 2 ^ 30
  | .dram => 2 ^ 32

/-- A word on a serial input: pin, slot and code (R345). -/
def slotOk (e : Nat × Nat × Nat) : Bool := decide (e.1 < 64) && decide (e.2.1 < 32) && decide (e.2.2 < 2 ^ 32)

/-- A cycle frame: twelve header words; groups of 64 slots and sums of 64 (R405). -/
def frameOk (fr : CycFrame) : Bool :=
  fr.hdr.length == 12 && fr.grps.all (fun g => decide (g.1 < 128) && g.2.1.length == 64) &&
    fr.sums.all (fun g => decide (g.1 < 32) && g.2.1.length == 64)

/-- A command is well-formed. -/
def Instr.wf : Instr → Bool
  | .registerWrite _ a _ _ => decide (a < 0x40_0000)
  | .windowWrite _ a _ _ => decide (0x40_0000 ≤ a) && decide (a < 0x100_0000)
  | .unmappedAccess _ sp a _ => decide (a < spaceTop sp)
  | .pairRead _ a _ => decide (a < 0x100_0000)
  | .pageEnableWrite _ p _ => (blockOf p.val).isSome
  | .softRst _ p => (blockOf p.val).isSome
  | .softRstDone p => (blockOf p.val).isSome
  | .writeS a _ => a.toNat % 4 == 0
  | .readS a _ => a.toNat % 4 == 0
  | .writeQ a _ => a.toNat % 4 == 0
  | .readQ a _ => a.toNat % 4 == 0
  | .counterClear _ p _ _ => (clearOff p.val).isSome
  | .bankCtrlWrite _ p _ => isCtrlPage p.val
  | .refEdge _ _ interval high => decide (high ≤ interval)
  | .portFrame _ slots _ _ => slots.all slotOk
  | .rxFrame _ r => decide (r.phase < 4096)
  | .uhlLinkUp _ partner => partner.all (fun i => decide (i < 64))
  | .cycleFrame _ _ fr => frameOk fr
  | .stackWindowAccess _ a _ => decide (a < 2 ^ 30)
  | .busRequest _ _ rt a n w => decide (1 ≤ n) && decide (a % 64 + n ≤ 64) && decide (a < 2 ^ 32) && w.all (fun d => decide (d.length ≤ n))
  | .thermalSample l => l.length == 8 && l.all (fun v => decide (-0x8000 ≤ v) && decide (v < 0x8000))
  | .crumbWrite p => (blockOf p.val).isSome
  | .lostCrumb p => (blockOf p.val).isSome
  | .loadMeterUpdate l => l.length == 9 && l.all (fun v => decide (v < 0x1_0000))
  | .extest pins shift => pins.length == shift.length
  | .samplePreload pins shift => pins.length == shift.length
  | .extestPulse pins shift => pins.length == shift.length
  | .extestTrain pins shift => pins.length == shift.length
  | .pcieLinkUp up gen width => !up || (decide (1 ≤ gen.val) && (width.val == 1 || width.val == 2 || width.val == 4))
  | .remoteAccessTimeout | .sampleTick .. | .blockTick .. | .sessionCfgWrite .. | .chipReset .. | .resetNAssert .. | .resetNRelease ..
  | .pwrgoodFall | .pwrgoodRise .. | .vddioARise .. | .perstN | .vecEoi .. | .dmaRun .. | .dmaStop .. | .dmaDescriptorStart ..
  | .dmaDescriptorComplete .. | .qspiStatus | .clrStatus | .qspiId | .qspiCsRise .. | .qspiReadTimeout | .qspiPostedWriteDone
  | .opAbort .. | .geometryTick | .append .. | .replace .. | .objPosRead .. | .pralineCtrlWrite .. | .mapWrite ..
  | .nodeWrite .. | .nodeRead .. | .zcTimeout .. | .transitionStart | .transitionEnd .. | .loadMerge .. | .loadReplace ..
  | .clear .. | .ldEnd | .xrWrite .. | .xrRead .. | .swapArm .. | .swapCommit .. | .bankSwap | .swapCopyDone ..
  | .save .. | .recall .. | .check .. | .sceneOpEnd | .chCtrlWrite .. | .cnvCfgWrite .. | .load .. | .loadEnd | .incChWrite ..
  | .resync .. | .conditioningWarmupEnd .. | .conditioningRampEnd .. | .conditioningFadeEnd .. | .asrcMeasureEnd ..
  | .asrcFastEnd .. | .asrcLoopUpdate .. | .slipPlace .. | .bundleIssue .. | .nop .. | .mac .. | .adda .. | .suba ..
  | .rnd .. | .mvda .. | .asha .. | .clra .. | .add .. | .adds .. | .sub .. | .subs .. | .and .. | .or .. | .xor ..
  | .asr .. | .lsr .. | .lsl .. | .abs .. | .neg .. | .min .. | .max .. | .cmp .. | .mulr .. | .muli .. | .br ..
  | .call .. | .jr .. | .loop .. | .loopi .. | .ldi .. | .rti .. | .wait .. | .bdone .. | .halt .. | .mvts .. | .mvfs ..
  | .mov .. | .ldx .. | .stx .. | .ldy .. | .sty .. | .modx .. | .mody .. | .setp .. | .setm .. | .setl .. | .setd ..
  | .interruptEntry .. | .coreWake .. | .coreTimer .. | .mailboxWrite .. | .evtRaise .. | .coreDmaEnd .. | .dspEnableWrite ..
  | .coreStart .. | .tbTick | .incrCommit .. | .stepCommit .. | .nowRead .. | .latchRead .. | .captureEdge .. | .capRead ..
  | .cmpArm .. | .cmpDisarm .. | .comparatorFire .. | .evtCfgWrite .. | .evtPulseEnd .. | .refLoss .. | .refCheckEnd ..
  | .refWtrEnd .. | .refDisqEnd .. | .refSelect | .holdoverRecord | .holdoverExpire | .tbGridWrite .. | .systemPllLock
  | .mpllLockLoss .. | .faultEnd | .cgEnable .. | .cgStart .. | .cgDisable .. | .sgArm .. | .sgDisarm .. | .sgStart ..
  | .portFillCheck .. | .steerUpdate .. | .noSck .. | .noFs .. | .portFadeEnd .. | .portRecoveryEnd .. | .pinBackoff ..
  | .pinBackoffEnd .. | .linkUpChange .. | .streamFadeEnd .. | .streamRecoveryEnd .. | .streamPortDown .. | .txDescriptor ..
  | .txFrameStart .. | .txFrameEnd .. | .tsqRead .. | .gateInterval .. | .gateChange .. | .gateChangeApply .. | .statsSnap ..
  | .streamWrite .. | .streamRead .. | .streamPacketQueue .. | .streamTxLate .. | .uhlRateFallback .. | .laneMarker ..
  | .laneFail .. | .linkRetrainEnd .. | .laneRestore .. | .uhlLinkDown .. | .linkDelayMeasure .. | .dlyReq .. | .dlyRsp ..
  | .cmdEnum .. | .enum .. | .rollCall | .roll .. | .rollAns .. | .rollAnsMiss .. | .deputyTakeover | .handback ..
  | .linkFail .. | .restoreAnnounce | .restore .. | .chgAtApply | .stkMapWrite .. | .regRd .. | .regWr .. | .regRsp ..
  | .followRatio .. | .followPos .. | .vote .. | .voteEvaluate | .order .. | .handover | .ownInChange .. | .take ..
  | .rejoin .. | .rejoinPhaseEnd .. | .snap .. | .snapInstall .. | .catchupTimeout | .alvFeed .. | .feedB .. | .feedW ..
  | .loadInit .. | .feed .. | .feedEnd | .dramRead .. | .dramWrite .. | .writeBatchEnd .. | .dramRefresh .. | .dramTempPoll ..
  | .drcEnable .. | .dramTrainEnd .. | .dramTracking .. | .drcDisable .. | .scrubLine .. | .injArm .. | .sramPatrol ..
  | .requestAged | .fenceDone | .quiet .. | .active .. | .retain .. | .deep .. | .psComplete | .wakeNFall | .qsCsNFall
  | .wakeTempSample .. | .aonTimerExpire | .wakeRetain | .wakeDeep .. | .retainScrubExcursion | .thermalRelease
  | .shutdownFadeEnd | .shutClr .. | .thermtrip | .currentLimit .. | .vddDsLow | .boostHoldoffEnd | .boostGrant
  | .shedForceWrite .. | .start .. | .engineStartTick .. | .stop .. | .engineStopEnd | .oscLoss | .oscReturn ..
  | .partialLineTimeout | .markHi .. | .flush .. | .flushEnd | .cntSnap .. | .ocDataRead .. | .tapReset | .idcode
  | .clamp | .highz | .bypass => true

end Sys2Proof
end

