-- ==== Sys2Proof/Tests/Slice0.lean ====
section
/-! SUPPORT. Tests of the model: an ill-formed command for each check, worked examples of the specification, and witnesses of the
hypotheses of the statements, each with what the step then gives. Expected values are the specification's, or computed by hand
from its rules. -/
namespace Sys2Proof.Tests
open Sys2Proof.Machine
set_option Elab.async false

/-- The state after a command. -/
def after (c : Instr) (s : State) : State := match exec c s with
  | .next t => t
  | _ => s
/-- A state with registers written. -/
def poke (s : State) (l : List (Nat × Nat)) : State := onF s (fun f => l.foldl (fun f e => wrN f e.1 e.2) f)
/-- The device after reset with its PLLs in lock, and the pages listed READY beside SYS. -/
def readyOf (l : List Nat) : State := { State.reset with
  pwr := { PwrState.reset with locked := true }
  fab := { State.reset.fab with regs := [(0xC, 1#32), (0x4C, 1#32)] ++ l.map (fun p => (4096 * p + 12, 1#32)) } }
/-- The pages that the tests use are READY. -/
def live : State := readyOf [1, 2, 3, 4, 7, 8, 9, 10, 11, 12, 13, 14, 15, 16, 17, 64, 128, 144, 160, 192, 256, 272, 288]
/-- A session of 16-sample blocks at 48 kHz runs. -/
def playing : State := onF live (fun f => putB f 0x104 0 true)
/-- A change of the power state. -/
def onP (s : State) (g : PwrState → PwrState) : State := { s with pwr := g s.pwr }
/-- Straps open, every bank at 1.8 V but bank A as given. -/
def straps (mv : Nat) : Straps := ⟨1, 2, true, mv, 1800, 1800⟩

theorem test_live : isUp live = true ∧ clocked live = true ∧ isActive live = true ∧ tbRuns live = true ∧ ready live.fab pSYS = true ∧
    ready live.fab 288 = true ∧ ready live.fab 5 = false := by decide +kernel
theorem test_playing : running playing.fab = true ∧ blockLen playing.fab = 16 := by decide +kernel

-- The machine, resets

/-- The state after a step. -/
def stepped (s : State) : State := match step s with
  | .next t => t
  | _ => s
theorem test_step_front : (stepped { live with pending := [.idcode, .bypass] }).pending = [.bypass] ∧
    (stepped { live with pending := [.idcode, .bypass] }).tap = (after .idcode live).tap ∧ (stepped live) = live := by decide +kernel
theorem test_canonical : Memory.wf live.mem = true ∧ Memory.wf { live.mem with dram := [(5, 1), (9, 2)] } = true ∧
    Memory.wf { live.mem with dram := [(5, 0)] } = false ∧ Memory.wf { live.mem with dram := [(9, 2), (5, 1)] } = false := by decide +kernel
theorem test_jtag_alone : isTap .systemPllLock = false ∧ isPowerUp .systemPllLock = false ∧
    (after .idcode { live with tap := ⟨.bypass, [true], [false]⟩ }).tap.instr = .idcode ∧
    (after .clamp live).tap.dr = [false] := by decide +kernel
/-- The device is held by THERMTRIP_N. -/
def tripped : State := after .thermtrip live
theorem test_pins_keep_records : tripped.pwr.tripped = true ∧ isHeld tripped = true ∧ (after (.resetNAssert true) tripped).pwr.tripped = true ∧
    (after (.resetNAssert false) tripped).pwr.tripped = false ∧ after .tbTick tripped = tripped ∧ rdN tripped.fab 0x4C = 9 ∧
    (after (.vddioARise true) live).pwr.iobank = true := by decide +kernel
theorem test_reset_pins : isHeld (after .pwrgoodFall live) = true ∧ rdN (after .pwrgoodFall live).fab 0x4C = 3 ∧
    (after .oscLoss live).pwr.osc = false := by decide +kernel
/-- STK_ROLE 1, TRI_POS 2, HOST_SEL 1 in SYS.STRAPS. -/
theorem test_leaves_reset : rdN (after (.resetNRelease (straps 1800)) (after (.resetNAssert false) live)).fab 0x58 = 19 := by decide +kernel
theorem test_bank_fault : getB (after (.pwrgoodRise (straps 3300)) (after .pwrgoodFall live)).fab 0x10 1 = true ∧
    isHeld (after (.oscReturn (straps 1800)) (after .oscLoss live)) = false := by decide +kernel
theorem test_chip_perst : takesWrites live.fab pSYS = true ∧ takesWrites State.reset.fab pSYS = false ∧ isUp State.reset = true ∧
    rdN (after (.chipReset .host (straps 1800)) live).fab 0x4C = 5 := by decide +kernel
theorem test_perst : hostQspi (poke live [(0x58, 0)]).fab = false ∧ hostQspi (poke live [(0x58, 1)]).fab = true ∧
    ready (after .perstN (poke live [(0x58, 0), (ra pHST 0x60, 7)])).fab pHST = true ∧
    rdN (after .perstN (poke live [(0x58, 0), (dmaAt 0 0x08, 7)])).fab (dmaAt 0 0x08) = rdN State.reset.fab (dmaAt 0 0x08) := by decide +kernel
theorem test_pll_lock : isHeld State.reset = false ∧ State.reset.pwr.locked = false ∧ ready (after .systemPllLock State.reset).fab 288 = true ∧
    ready (after .systemPllLock State.reset).fab 5 = false := by decide +kernel

-- The register fabric

theorem test_session_config : let rej := after (.sessionCfgWrite .host 0x41) playing
    rdN rej.fab 0x100 = 0x40 ∧ getB rej.fab 0x104 8 = true ∧ rdN (after (.sessionCfgWrite .host 0xFFFF_FF51) live).fab 0x100 = 0x51 ∧
    getB (after (.sessionCfgWrite .host 0x60) live).fab 0x104 8 = true ∧ ready State.reset.fab pSYS = false ∧
    getB (after (.sessionCfgWrite .host 0x51) State.reset).fab 0x0C 2 = true := by decide +kernel
theorem test_bank_ctrl : let p : Fin 1024 := ⟨pREN, by decide⟩
    isCtrlPage p = true ∧ isCtrlPage 3 = false ∧ getF (after (.bankCtrlWrite .host p 0x1301) live).fab (ra p 0x28) 12 8 = 0x13 ∧
    rdN (after (.bankCtrlWrite .host p 0x100) (poke live [(ra p 0x2C, 2)])).fab (ra p 0x20) = 6 := by decide +kernel
theorem test_page_errors : takesWrites State.reset.fab (pageOf 0x100) = false ∧
    rdN (after (.registerWrite .host 0x208 .b32 0) State.reset).fab 0x20 = 1 ∧
    rdN (after (.registerWrite .host 0x208 .b32 0) State.reset).fab 0x24 = 0x208 ∧
    getB (after (.registerWrite .host 0x208 .b32 0) (poke State.reset [(0xC, 4)])).fab 0x20 31 = true := by decide +kernel
theorem test_header : rdN (after (.registerWrite .host 0x8010 .b32 0x3) (poke live [(0x8010, 0x7)])).fab 0x8010 = 4 ∧
    rdN (after (.registerWrite .host 0x8014 .b32 0xFFFF_FFFF) live).fab 0x8014 = 0x0FFF_FFFF ∧
    rdN (after (.registerWrite .host 0x800C .b32 4) (poke live [(0x800C, 5), (0x8020, 0x101), (0x8024, 9)])).fab 0x8020 = 0 ∧
    rdN (after (.registerWrite .host 0x8020 .b32 7) live).fab 0x8020 = 0 := by decide +kernel
theorem test_access_errors : let t := after (.registerWrite (.quad 3) 0x102 .b32 0) live
    rdN t.fab 0x50 = 0x102 ∧ rdN t.fab 0x54 = 0x8000_0185 ∧ getB t.fab 0x10 0 = true ∧
    getF (after (.windowWrite .host 0x40_0000 .b8 0) live).fab 0x54 9 8 = 1 ∧ sizeAligned 0x102 .b64 = false ∧
    getF (after (.pairRead .stack 0x101 .b32) live).fab 0x54 3 0 = 1 := by decide +kernel
theorem test_unmapped : rdN (after (.unmappedAccess .stack .bar0 0x3F_F000 true) live).fab 0x54 = 0x8000_0081 ∧
    getF (after (.unmappedAccess .host .stackWindow 0x500_0000 false) live).fab 0x54 11 10 = 1 ∧
    getF (after (.unmappedAccess .host .dram 0xC000_0000 false) live).fab 0x54 11 10 = 2 ∧
    rdN (after (.unmappedAccess .host .bar0 0x100 false) live).fab 0x54 = 0 := by decide +kernel
theorem test_wide_write : let t := after (.registerWrite .host (dmaAt 0 0) .b64 0x3_0000_0040) live
    rdN t.fab (dmaAt 0 0) = 0x40 ∧ rdN t.fab (dmaAt 0 4) = 3 := by decide +kernel
theorem test_window_places : winPlace 0x41_8000 = .reserved ∧
    getB (after (.windowWrite .host 0x41_8000 .b32 0) live).fab 0x10 0 = true := by decide +kernel
theorem test_core_window : winPlace 0x80_0000 = .core 0 0 := by decide +kernel
theorem test_pair_read : let s := poke live [(0x214, 5), (0x218, 6)]
    let t := after (.pairRead (.quad 1) 0x214 .b32) s
    isPair 0x214 = true ∧ readEffect s 3 0x214 = none ∧ peek s 3 0x214 = some 5 ∧ mget zeroN t.fab.rdata 3 = 5 ∧
    held t.fab 3 = [(0x218, 6)] ∧ mget zeroN (after (.pairRead (.quad 1) 0x218 .b32) (poke t [(0x218, 9)])).fab.rdata 3 = 6 := by decide +kernel
theorem test_obj_pos_read : let t := after (.objPosRead .host 129) (poke live [(ra 170 0x50, 1), (ra 170 0x54, 2), (ra 170 0x58, 3), (ra 170 0x5C, 4)])
    mget zeroN t.fab.rdata 0 = 1 ∧ (held t.fab 0).map (·.2) = [2, 3, 4] := by decide +kernel

-- Windows, pages, counters

theorem test_window_write : let t := after (.windowWrite .host 0x40_0004 .b32 0x0012_3456) live
    winPlace 0x40_0004 = .bank pREN (pralineMask 4) ∧ shadowGate live.fab pREN = 0 ∧ getB t.fab (ra pREN 0x2C) 3 = true ∧
    rdShd t.fab pREN 0x40_0004 = BitVec.ofNat 32 0x0012_3456 &&& BitVec.ofNat 32 (pralineMask 4) ∧
    rdAct t.fab pREN 0x40_0004 = rdAct live.fab pREN 0x40_0004 := by decide +kernel
theorem test_window_gates : let s (v : Nat) := poke live [(ra pREN 0x2C, v)]
    rdN (after (.windowWrite .host 0x40_0004 .b32 1) (s 2)).fab (ra pREN 0x20) = 0x1F0 ∧
    rdN (after (.windowWrite .host 0x40_0004 .b32 1) (s 4)).fab (ra pREN 0x20) = 5 ∧
    rdN (after (.windowWrite .host 0x40_0004 .b32 1) (readyOf [])).fab (ra pREN 0x20) = 1 := by decide +kernel
/-- CTRL words of an object of 64 speakers at block 0, of 128 speakers at block 1, and of an object beyond CAP_OBJ. -/
theorem test_praline_ctrl : fpWidth (0 : Word) = 64 ∧
    rdN (after (.pralineCtrlWrite .host 5 0x0001_0100) live).fab (ra pREN 0x20) = 0x102 ∧
    pralineCheck live.fab 3 1 = 0 ∧ rdShd (after (.pralineCtrlWrite .host 3 1) live).fab pREN (pralineAt 3) = 1 := by decide +kernel
theorem test_enable : blockOf 12 = some (.STK, 0) ∧ enabled live.fab 12 = false ∧ enabled (after (.pageEnableWrite .host 12 true) live).fab 12 = true ∧
    blockOf 30 = none ∧ enabled (after (.pageEnableWrite .host 8 true) live).fab 8 = true ∧ blockOf 8 = some (.TB, 0) := by decide +kernel
theorem test_enable_units : (after (.pageEnableWrite .host 13 true) live).stk.ue.training = true ∧ blockOf 13 = some (.UHL, 0) ∧
    (after (.pageEnableWrite .host 128 true) live).inc.on = true ∧ blockOf 128 = some (.INC, 0) ∧
    dpllSt (after (.pageEnableWrite .host 9 false) (poke live [(0x9008, 1), (ra pREF 0x80, 2)])).fab = 3 ∧ blockOf 9 = some (.REF, 0) ∧
    blockOf 11 = some (.TRI, 0) := by decide +kernel
theorem test_cg_enable : let s := readyOf [32]
    let t := after (.cgEnable .host 0) s
    enabled s.fab (pCG 0) = false ∧ cgSt s.fab 0 = 0 ∧ rateOk s.fab 0 = true ∧ cgSt t.fab 0 = 1 ∧ enabled t.fab (pCG 0) = true ∧
    cgSt (after (.cgDisable .host 0) t).fab 0 = 0 := by decide +kernel
theorem test_cg_rate : let s := poke (readyOf [32]) [(ra (pCG 0) 0x44, 0xFFFF)]
    rateOk s.fab 0 = false := by decide +kernel
theorem test_drc_enable : let t := after (.drcEnable .host 1) live
    enabled t.fab (pDRC 1) = true ∧ getB t.fab (ra (pDRC 1) 0x0C) 3 = true ∧ ready (after (.drcDisable .host 1) t).fab (pDRC 1) = false ∧
    rdN (after (.drcDisable .host 1) (onF t (fun f => putB f 0x104 0 true))).fab (ra (pDRC 1) 0x20) = 6 := by decide +kernel
theorem test_soft_reset : let t := after (.softRst .host 7) (poke live [(ra pOBS 0x44, 0x10_0000)])
    ready t.fab 7 = false ∧ rdN t.fab (ra pOBS 0x44) = 0 ∧ pageFenced t.bus 7 = true ∧ ready (after (.softRstDone 7) t).fab 7 = false ∧
    ready (after (.softRstDone 7) { t with bus := BusState.reset }).fab 7 = true := by decide +kernel
/-- A committed FLUSH holds the reset of its page, and SOFT_RST reads 1. -/
theorem test_soft_reset_waits : let t := after (.softRst .host 7) (onF (after (.flush .host) live) (fun f => opCommit f .flush))
    t.fab.rstWait = [7] ∧ bit (pageCtrl t 7) 1 = true ∧ opResult t.fab .flush = 1 ∧
    (after (.softRstDone 7) { t with bus := BusState.reset }).fab.rstWait = [7] := by decide +kernel
/-- The header's reserved words read 0 and ignore writes. -/
theorem test_reserved_header : after (.registerWrite .host 0x801C .b32 5) live = live ∧
    mget zeroN (after (.pairRead .host 0x8030 .b32) live).fab.rdata 0 = 0 ∧ rdN (after (.pairRead .host 0x8030 .b32) live).fab 0x54 = 0 := by
  decide +kernel
theorem test_counter_clear : clearOff pREN = some 0x94 ∧ clearOff 3 = none ∧
    rdN (after (.counterClear .host ⟨pREN, by decide⟩ 2 2) (poke live [(ra pREN 0x80, 5), (ra pREN 0x84, 6)])).fab (ra pREN 0x80) = 5 ∧
    rdN (after (.counterClear .host ⟨pREN, by decide⟩ 2 2) (poke live [(ra pREN 0x80, 5), (ra pREN 0x84, 6)])).fab (ra pREN 0x84) = 1 := by
  decide +kernel

-- Host interfaces

/-- The cause of the TB page is routed to vector 5, masked or not. -/
def vectored (mask : Nat) : State := onF (poke live [(ra pHST (0x100 + 4 * 8), 0x105), (ra pHST 0x850, 0x1000), (ra pHST 0x858, 0x55),
  (ra pHST 0x85C, mask), (ra pTB 0x10, 1), (ra pTB 0x14, 1)]) (fun f => { f with armed := 0 })
theorem test_vec_eoi : vecCause live.fab 0 = false ∧ (after (.vecEoi .host 0) live).fab.armed = BitVec.allOnes 64 ∧
    vecCause (vectored 0).fab 5 = true ∧ (after (.vecEoi .host 5) (vectored 0)).fab.msgs = [⟨5, 0x1000, 0x55⟩] ∧
    (after (.vecEoi .host 5) (vectored 1)).fab.msgs = [] ∧ getB (after (.vecEoi .host 5) (vectored 1)).fab (ra pHST 0xC00) 5 = true ∧
    (after (.vecEoi .host 5) (vectored 0)).fab.armed = 0 := by decide +kernel
theorem test_dma_run : let s := poke live [(dmaAt 1 0x08, 2)]
    getB (after (.dmaRun .host 1 9) s).fab (dmaAt 1 0x14) 0 = true ∧ getF (after (.dmaRun .host 1 9) s).fab (dmaAt 1 0x14) 13 8 = 9 ∧
    getF (after (.dmaRun .host 1 9) (poke live [(dmaAt 1 0x08, 1)])).fab (dmaAt 1 0x18) 7 4 = 6 ∧
    getB (after (.dmaStop .host 1 3) (after (.dmaRun .host 1 9) s)).fab (dmaAt 1 0x14) 0 = false := by decide +kernel
/-- Channel 0 runs with one descriptor in a ring of two; the channels of DRAM are trained. -/
def ringed : State := poke live [(dmaAt 0 0x08, 2), (dmaAt 0 0x14, 1), (dmaAt 0 0x18, 1), (dmaAt 0 0x0C, 1), (0x500C, 1), (0x5008, 1),
  (0x600C, 1), (0x6008, 1)]
/-- Four bytes from the host to DRAM, and one of a bad length. -/
def moves (n : Word) : Desc := ⟨0x1000, 0x40, n, 0⟩
theorem test_dma_descriptor : let t := after (.dmaDescriptorStart 0 (some (moves 4))) ringed
    let u := after (.dmaDescriptorComplete 0 (some [1, 2, 3, 4]) true) t
    dmaJob t.host 0 = some ⟨moves 4, 0⟩ ∧ dmaJob u.host 0 = none ∧ getF u.fab (dmaAt 0 0x10) 9 0 = 1 ∧
    u.host.toHost.getLast? = some (0x18, [0, 0, 0, 0x80]) ∧ rdN (after (.dmaDescriptorStart 0 none) ringed).fab (dmaAt 0 0x18) / 16 % 16 = 4 := by
  decide +kernel
theorem test_dma_bad_length : let u := after (.dmaDescriptorComplete 0 none true) (after (.dmaDescriptorStart 0 (some (moves 6))) ringed)
    descCode (moves 6) = 1 ∧ getF u.fab (dmaAt 0 0x18) 7 4 = 1 ∧ getF u.fab (dmaAt 0 0x10) 9 0 = 0 ∧
    u.host.toHost.getLast? = some (0x18, [1, 0, 0, 0x80]) := by decide +kernel
theorem test_qspi_write : let s := poke live [(0x58, 1)]
    qsServes s = true ∧ qsAwake s = true ∧ qsServes (poke live [(0x58, 0)]) = false ∧
    (after (.writeS 0x8048 [7, 8]) s).host.posted = [(0x8048, 7), (0x804C, 8)] ∧
    (after (.writeQ 0 [7]) { s with pwr := { s.pwr with state := .deep } }).host.wrErr = true ∧
    rdN (after .qspiPostedWriteDone (after (.writeS 0x8048 [7]) s)).fab 0x8048 = 7 := by decide +kernel
theorem test_qspi_status : let s := poke live [(0x58, 1)]
    (after .qspiStatus s).host.out = [(0, 0x20)] ∧ (after .qspiId s).host.out = [(0, 0x1024_B000)] ∧
    (after .clrStatus (after (.qspiCsRise true) s)).host.frameErr = false ∧ (after (.qspiCsRise true) s).host.frameErr = true := by decide +kernel
theorem test_qspi_read : let s := poke live [(0x58, 1)]
    (after (.readS 0x40 1) s).host.out = [(0xA5, 0x1024_B000)] ∧ (after (.readQ 0x40 2) s).host.out = [(0xA5, 0x1024_B000), (0xA5, 0x1024_1F9A)] ∧
    (after (.readS 0x40 1) { s with pwr := { s.pwr with state := .retain } }).host.out = [(0x5A, 0)] ∧
    (after .qspiReadTimeout (after (.readS 0x40 1) s)).host.rdTimeout = true ∧ (after .qspiReadTimeout s).host.rdTimeout = false := by decide +kernel
theorem test_pcie_link : rdN (after (.pcieLinkUp true 2 4) (poke live [(0x58, 0)])).fab (ra pHST 0x40) = 0x142 := by decide +kernel

-- Long operations and swaps

theorem test_op_starts : opOfCommand (.flush .host) = some (.flush, 1) ∧
    rdN (after (.flush .host) (readyOf [])).fab (ra pOBS 0x20) = 1 ∧ opResult (after (.flush .host) live).fab .flush = 1 ∧
    rdN (after (.flush .host) (after (.flush .host) live)).fab (ra pOBS 0x20) = 2 ∧
    rdN (after (.loadMerge .host) live).fab (ra pMTX 0x20) = 4 ∧ opBadArg live .ld 1 = true ∧
    rdN (after (.clear .host) (poke live [(ra pMTX 0x2C, 2)])).fab (ra pMTX 0x20) = 2 := by decide +kernel
theorem test_ld : let t := after (.clear .host) live
    opResult t.fab .ld = 1 ∧ locked t.fab pMTX = true ∧ opRunning (after .ldEnd t).fab .ld = false ∧ locked (after .ldEnd t).fab pMTX = false ∧
    opResult (after (.loadReplace .host) (poke live [(ra pMTX 0x8EC, 5)])).fab .ld = 1 := by decide +kernel
theorem test_load : let t := after (.load .host) live
    opResult t.fab .cnvLoad = 1 ∧ locked t.fab pCNV = true ∧ opRunning (after .loadEnd t).fab .cnvLoad = false := by decide +kernel
theorem test_scene : opResult (after (.save .host) live).fab .scene = 5 ∧ storeOk live.fab = false := by decide +kernel
theorem test_scene_store : let s := poke live [(0x500C, 1), (0x5008, 1), (0x600C, 1), (0x6008, 1), (0x410, 0x10_0000), (0x414, 1)]
    storeOk s.fab = true := by decide +kernel
theorem test_ps : opResult (after (.quiet .host) live).fab .ps = 1 ∧ (after .psComplete (after (.quiet .host) live)).pwr.state = .quiet ∧
    opResult (after (.deep .host) playing).fab .ps = 5 ∧
    opResult (after (.active .host) (after .psComplete (after (.quiet .host) live))).fab .ps = 1 ∧
    opResult (after (.retain .host) live).fab .ps = 1 := by decide +kernel
theorem test_ps_deep : (after .psComplete (after (.deep .host) live)).pwr.state = .deep ∧
    opResult (after .psComplete (onP (after (.deep .host) live) (fun p => { p with wakePend := 1 }))).fab .ps = 5 ∧
    psFails (poke (after (.quiet .host) live) [(0x104, 4)]) = 2 := by decide +kernel
/-- The checks of START pass: both channels READY, the DPLL out of INIT. -/
def startable : State := poke live [(drcAt 0 0x48, 1), (drcAt 1 0x48, 1), (ra pREF 0x80, 1)]
theorem test_start : opResult (after (.start .host) startable).fab .eng = 1 ∧ startPending (after (.start .host) startable).fab = true ∧
    opResult (after (.start .host) live).fab .eng = 5 ∧ startPending (after (.opAbort .host .eng) (after (.start .host) startable)).fab = false := by
  decide +kernel
theorem test_stop : opResult (after (.stop .host) live).fab .eng = 2 ∧ (after (.stop .host) playing).pwr.stopFrom = some 16 ∧
    (after (.opAbort .host .eng) (after (.stop .host) playing)).pwr.stopFrom = none := by decide +kernel
/-- A member of trifle 1 that may rejoin: the OWNER is at position 1. -/
def rejoinable : State := let s := poke playing [(triAt 0x48, 4), (triAt 0x44, 1), (triAt 0x88, 1)]
  { s with tri := { s.tri with roles := [(1, 1)] } }
theorem test_rejoin : opBadArg rejoinable .rejoin 1 = false ∧ opResult (after (.rejoin .host) rejoinable).fab .rejoin = 1 ∧
    opBadArg live .rejoin 1 = true ∧ (after (.opAbort .host .rejoin) (after (.rejoin .host) rejoinable)).tri.rejoin = none := by decide +kernel
theorem test_feed : let s := poke live [(0xA048, 0xF000_0000), (0xA04C, 9)]
    feedInRange s.fab = true ∧ opResult (after (.feed .host) s).fab .feed = 1 ∧ opRunning (after .feedEnd (after (.feed .host) s)).fab .feed = false ∧
    opResult (after (.feed .host) live).fab .feed = 5 := by decide +kernel
theorem test_flush : opRunning (after .flushEnd (after (.flush .host) live)).fab .flush = false ∧
    opResult (after (.flush .host) (poke live [(ra pOBS 0x54, 2)])).fab .flush = 5 := by decide +kernel
theorem test_abort : opResult (after (.opAbort .host .ld) (after (.clear .host) live)).fab .ld = 3 ∧
    locked (after (.opAbort .host .ld) (after (.clear .host) live)).fab pMTX = false ∧
    (after (.opAbort .host .flush) live) = live := by decide +kernel
/-- REN in swap group 1, its shadow bank changed; SWAP 1 with COPY, a session running. -/
def swappable (ctl : Nat) : State := poke (onF playing (fun f => wrShd f pREN 0x40_0004 7)) [(ra pREN 0x28, 0x1100), (0x228, ctl)]
def armed (ctl : Nat) : State := after (.swapArm .host 1) (swappable ctl)
def onto (n : Nat) (s : State) : State := onF s (fun f => { f with msc := BitVec.ofNat 64 n })
theorem test_swap_arm : groupUnits (swappable 0x10).fab 1 = [pREN] ∧ opResult (armed 0x10).fab (.swap 1) = 1 ∧ swapAt (armed 0x10).fab 1 = 48 ∧
    opResult (after (.swapArm .host 1) (poke live [(0x228, 1)])).fab (.swap 1) = 5 ∧ getF (armed 0x2).fab (OpId.swap 1).stat 31 16 = 1 := by
  decide +kernel
theorem test_swap : let c := after (.swapCommit 1) (onto 16 (armed 0x10))
    let x := after .bankSwap (onto 48 c)
    opCommitted c.fab (.swap 1) = true ∧ locked c.fab pREN = true ∧ actB x.fab pREN = true ∧ copying x.fab pREN = true ∧
    rdAct x.fab pREN 0x40_0004 = 7 ∧ rdShd x.fab pREN 0x40_0004 = 0 ∧ rdShd (after (.swapCopyDone 1) x).fab pREN 0x40_0004 = 7 ∧
    opRunning (after (.swapCopyDone 1) x).fab (.swap 1) = false := by decide +kernel
theorem test_swap_busy : let c := after (.swapCommit 1) (poke (onto 16 (armed 0)) [(ra pREN 0x2C, 3)])
    opResult c.fab (.swap 1) = 5 ∧ getF c.fab (OpId.swap 1).stat 31 16 = 4 := by decide +kernel
theorem test_swap_idle : actB (after (.swapArm .host 1) (poke live [(ra pREN 0x28, 0x1100)])).fab pREN = true := by decide +kernel
theorem test_swap_abort : getB (after (.opAbort .host (.swap 1)) (armed 0)).fab (ra pREN 0x2C) 0 = false ∧
    getB (armed 0).fab (ra pREN 0x2C) 0 = true ∧ (after (.opAbort .host (.swap 1)) (after (.swapCommit 1) (onto 16 (armed 0)))).fab.late =
      [OpId.stat (.swap 1)] := by decide +kernel

-- The session

theorem test_sample_tick : clocked live = true ∧ clocked tripped = false ∧ (after (.sampleTick 0) live).fab.msc = 0 ∧
    (after (.sampleTick 0) playing).fab.msc = 1 := by decide +kernel
theorem test_block_tick : (clocked playing && isActive playing && blockDue playing) = true ∧ blockDue live = false ∧
    (after (.blockTick 0 []) playing).pwr.lastBlock = 1 ∧ blockDue (after (.blockTick 0 []) playing) = false := by decide +kernel
theorem test_geometry_tick : playing.ren.nextB = 0 ∧ (after .geometryTick playing).ren.nextB = 16 ∧ (after .geometryTick live).ren.nextB = 0 := by
  decide +kernel
theorem test_session_start : let s := after (.start .host) startable
    startMsc live = none ∧ startMsc s = some 0 ∧ clocked s = true ∧ isActive s = true ∧ startJoins s = false ∧
    running (startClock (onto 77 s) 5).fab = true ∧ (startClock (onto 77 s) 5).fab.msc = 5 := by decide +kernel
theorem test_session_stop : let s := after (.stop .host) playing
    running (after .engineStopEnd s).fab = true ∧ running (after .engineStopEnd (onto 4096 s)).fab = false := by decide +kernel
theorem test_shutdown : (after .shutdownFadeEnd (onP live (fun p => { p with shutFrom := some 0 }))).pwr.state = .quiet ∧
    (after .shutdownFadeEnd (onP playing (fun p => { p with shutFrom := some 0 }))).pwr.state = .active := by decide +kernel
/-- A push of object o to x = 1.0 for MSC 4096. -/
def pushing (o : Nat) : State := onF playing (fun f => wrO (wrO (wrO f 0 (ra pREN 0xA0) (BitVec.ofNat 32 o)) 0 (ra pREN 0xA4) 0x1_0000)
  0 (ra pREN 0xB4) 4096)
theorem test_append : let t := after (.append .host false true) (pushing 2)
    fld (rdO t.fab 0 (ra pREN 0xC0)) 3 0 = 1 ∧ (objOf t.ren 2).segs.map (·.arr) = [4096] ∧ (objOf t.ren 3).segs = [] ∧
    fld (rdO (after (.append .host true true) (pushing 2)).fab 0 (ra pREN 0xC0)) 3 0 = 4 ∧
    fld (rdO (after (.append .host false true) live).fab 0 (ra pREN 0xC0)) 3 0 = 6 ∧
    rdN (after (.append .host false true) (readyOf [])).fab (ra pREN 0x20) = 1 := by decide +kernel
theorem test_replace : let t := after (.replace .host false true) (pushing 2)
    ((objOf t.ren 2).pend.getD []).map (·.arr) = [4096] := by decide +kernel

-- The matrix, the chains and input conditioning

theorem test_map_write : let s := readyOf [144, 145, 148]
    mapVerdict s.fab true 5 0xA009 = 0 ∧ rdShd (after (.mapWrite .host true 5 0xA009) s).fab pMTX (dstMapAt 5) = 0xA009 ∧
    rdShd (after (.mapWrite .host false 5 0xE008) s).fab pMTX (srcMapAt 5) = 0xE008 ∧
    mapVerdict s.fab false 5 0xA009 = 0x101 ∧ getB (after (.mapWrite .host false 5 0xA009) s).fab (ra pMTX 0x10) 4 = true ∧
    getB (after (.mapWrite .host true 5 0) (poke s [(ra pMTX 0x2C, 2)])).fab (ra pMTX 0x10) 4 = true ∧
    getB (after (.mapWrite .host false 5 1) (readyOf [])).fab (ra (pageOf (srcMapAt 5)) 0x0C) 2 = true := by decide +kernel
/-- Node (3, 7) is addressed. -/
def addressed : State := onF live (fun f => wrO f 0 (ra pMTX 0x8A0) 0x0007_0003)
theorem test_node_write : let t := after (.nodeWrite .host 0x1000_0000) addressed
    nodeVerdict addressed.fab addressed.mtx 3 7 0x1000_0000 = 1 ∧ rdO t.fab 0 (ra pMTX 0x8B0) = 1 ∧ rdShd t.fab pMTX (nodeKey 3 7) = 0x1000_0000 ∧
    rdO (after (.nodeWrite .host 1) (onF addressed (fun f => putB f (ra pMTX 0x2C) 1 true))).fab 0 (ra pMTX 0x8B0) ≠ 1 ∧
    mget zeroN (after (.nodeRead .host) (onF t (fun f => wrO f 0 (ra pMTX 0x8A0) 0x0007_0003))).fab.rdata 0 = 0x1000_0000 := by decide +kernel
/-- Express entry 4 is staged: endpoints, unity gain. -/
def staged (e : Word) : State := onF live (fun f => wrO (wrO (wrO (wrO f 0 (ra pMTX 0x8C0) 4) 0 (ra pMTX 0x8C4) e) 0 (ra pMTX 0x8C8)
  0x1000_0000) 0 (ra pMTX 0x8CC) 0x8000_0000)
theorem test_express : let t := after (.xrWrite .host) (staged 0xA001_1001)
    rdO t.fab 0 (ra pMTX 0x8D4) = 1 ∧ rdShd t.fab pMTX (xrKey 4 + 1) = 0x1000_0000 ∧
    rdO (after (.xrRead .host) (onF t (fun f => wrO f 0 (ra pMTX 0x8C8) 0))).fab 0 (ra pMTX 0x8C8) = 0x1000_0000 ∧
    getB (after (.xrWrite .host) (staged 0x1001_A001)).fab (ra pMTX 0x10) 4 = true := by decide +kernel
theorem test_ch_ctrl : rdShd (after (.chCtrlWrite .host 17 0x0101) (readyOf [192, 193])).fab pSPK (spkAt 17 0) = 0x0101 ∧
    getB (after (.chCtrlWrite .host 17 (17 * 64)) (readyOf [192, 193])).fab (ra pSPK 0x10) 7 = true ∧
    rdN (after (.chCtrlWrite .host 17 1) (readyOf [192])).fab (ra 193 0x20) = 1 ∧
    rdN (after (.chCtrlWrite .host 17 1) (poke (readyOf [192, 193]) [(ra pSPK 0x2C, 4)])).fab (ra 193 0x20) = 5 := by decide +kernel
theorem test_cnv_cfg : rdShd (after (.cnvCfgWrite .host 3 0x0000_0002) (readyOf [256, 257])).fab pCNV (cnvAt 3) = 2 ∧
    rdShd (after (.cnvCfgWrite .host 3 0x0000_000D) (readyOf [256, 257])).fab pCNV (cnvAt 3) = rdShd live.fab pCNV (cnvAt 3) := by decide +kernel
theorem test_inc_ch : rdShd (after (.incChWrite .host 2 true 0) live).fab pINC (incAt 2 4) = 0 ∧
    incVerdict live.fab 2 true 0 ((rdShd live.fab pINC (incAt 2 4)).toNat % 65536) = 0 ∧
    (incCh (after (.resync .host 2 1) live).inc 2).due = true ∧ (incCh (after (.resync .host 2 0) live).inc 2).due = false := by decide +kernel
/-- A gain step of node (1, 2) that waits for its crossing, and a queued route change of node (3, 4). -/
def stepping (tmo : Nat) : Trans := ⟨.node 1 2, none, none, false, 0, false, tmo, 32, some 0, none, false⟩
def queued : Trans := ⟨.node 3 4, none, none, true, 64, false, 0, 0, none, none, false⟩
def changing (tmo : Nat) : State := { playing with mtx := { playing.mtx with trans := [stepping tmo, queued] } }
theorem test_zc_timeout : let t := after (.zcTimeout (.route (.node 1 2))) (changing 16)
    nextBlock playing.fab = 16 ∧ getB t.fab (ra pMTX 0x10) 2 = true ∧ rdN t.fab (ra pMTX 0x878) = 1 ∧
    rdN (after (.zcTimeout (.route (.node 1 2))) (changing 17)).fab (ra pMTX 0x878) = 0 := by decide +kernel
theorem test_transition : nextQueued (changing 16).fab (changing 16).mtx.trans = some queued ∧
    (after .transitionStart (changing 16)).mtx.trans = [stepping 16, { queued with start := some 16 }] ∧
    (after (.transitionEnd (.node 3 4)) (onto 64 (after .transitionStart (changing 16)))).mtx.trans = [stepping 16] ∧
    (after (.transitionEnd (.node 3 4)) (onto 63 (after .transitionStart (changing 16)))).mtx.trans.length = 2 := by decide +kernel
/-- Rate group 2 in a state, 48,000 samples per second counted over an acquisition, at render sample m. -/
def grouped (m : Nat) (v : Grp) : State := { playing with inc := { playing.inc with next := m, grps := [(2, v)] } }
theorem test_measure : let v : Grp := { Grp.reset with st := .acquire, count := acqLen playing.fab }
    (incGrp (after (.asrcMeasureEnd 2) (grouped (acqLen playing.fab) v)).inc 2).st = .fast ∧
    (incGrp (after (.asrcMeasureEnd 2) (grouped (acqLen playing.fab - 1) v)).inc 2).st = .acquire ∧
    getB (after (.asrcMeasureEnd 2) (grouped (acqLen playing.fab) { v with count := 1 })).fab (grpAt 2 4) 17 = true := by decide +kernel
theorem test_fast_end : let v : Grp := { Grp.reset with st := .fast }
    (incGrp (after (.asrcFastEnd 2) (grouped (fastLen playing.fab) v)).inc 2).st = .track ∧
    (incGrp (after (.asrcFastEnd 2) (grouped (fastLen playing.fab - 1) v)).inc 2).st = .fast := by decide +kernel
theorem test_loop_update : let v : Grp := { Grp.reset with st := .track, rho0 := 2 ^ 60, rho := 2 ^ 60 }
    (incGrp (after (.asrcLoopUpdate 2) (grouped (updLen playing.fab) v)).inc 2).lastUpd = some (updLen playing.fab) ∧
    (incGrp (after (.asrcLoopUpdate 2) (grouped 1 v)).inc 2).lastUpd = none := by decide +kernel
theorem test_group_fade : (incGrp (after (.conditioningFadeEnd 2) (grouped 32 { Grp.reset with fade := some 0 })).inc 2).fade = none ∧
    (incGrp (after (.conditioningFadeEnd 2) (grouped 31 { Grp.reset with fade := some 0 })).inc 2).fade = some 0 := by decide +kernel
theorem test_group_slip : (incGrp (after (.slipPlace (.group 2)) (grouped 0 { Grp.reset with slip := some ⟨true, 4⟩, arrived := 36 })).inc 2).slip = none ∧
    (incGrp (after (.slipPlace (.group 2)) (grouped 0 { Grp.reset with slip := some ⟨true, 4⟩, arrived := 35 })).inc 2).slip = some ⟨true, 4⟩ := by
  decide +kernel
theorem test_warmup : getB (after (.conditioningWarmupEnd 2) live).fab (incAt 2 8) 4 = false := by decide +kernel

-- The Cheba cores

/-- Core 2 RUNNING with a core state. -/
def coring (k : Core) : State := { poke live [(dspAt 2 0x44, 2)] with cores := ⟨[(2, k)]⟩ }
/-- D1 = 5, D2 = 7, D3 = 0x80000000, D4 = 0xFFFFFFFF, P0 = 0x10, P1 = 0x6000, A1 = 3 · 2^32, SR = 0x100. -/
def regd : Core := { Core.reset with pc := 8, regs := [(1, 5), (2, 7), (3, 0x8000_0000), (4, 0xFFFF_FFFF), (0x14, 3), (0x20, 0x10), (0x21, 0x6000),
  (0x41, 0x100)] }
/-- The core after an instruction at PC 8. -/
def ran (c : Instr) : Core := coreOf (after c (coring regd)).cores 2
theorem test_core_runs : coreSt (coring regd).fab 2 = 2 ∧ regd.pend = [] ∧ regd.delay = none ∧ loopOn regd 0 = false ∧
    rdAcc regd 1 = 3 * 2 ^ 32 ∧ isActive (coring regd) = true := by decide +kernel

-- Words built bit by bit from the encodings of R262, R263 and R265

/-- A compute slot in the upper word: OP in [61:56]. -/
def slot (op fields : Nat) : Nat := op * 2 ^ 56 + fields
theorem test_decode_mac : decodeBundle (slot 1 (2 * 2 ^ 54 + 3 * 2 ^ 50 + 4 * 2 ^ 46 + 5 * 2 ^ 42 + 6 * 2 ^ 38 + 2 ^ 37 + 2 ^ 35)) =
    some ⟨.mac 2 3 4 5 6 true false true, .nop, .nop⟩ := by decide +kernel
theorem test_decode_accumulator : decodeBundle (slot 2 (1 * 2 ^ 54 + 3 * 2 ^ 52)) = some ⟨.adda 1 3, .nop, .nop⟩ ∧
    decodeBundle (slot 3 (1 * 2 ^ 54 + 3 * 2 ^ 52)) = some ⟨.suba 1 3, .nop, .nop⟩ ∧
    decodeBundle (slot 4 (9 * 2 ^ 52 + 2 * 2 ^ 50 + 31 * 2 ^ 45)) = some ⟨.rnd 9 2 (-1), .nop, .nop⟩ ∧
    decodeBundle (slot 5 (1 * 2 ^ 54 + 9 * 2 ^ 50)) = some ⟨.mvda 1 9, .nop, .nop⟩ ∧
    decodeBundle (slot 6 (1 * 2 ^ 54 + 2 * 2 ^ 52 + 127 * 2 ^ 45)) = some ⟨.asha 1 2 (-1), .nop, .nop⟩ ∧
    decodeBundle (slot 7 (3 * 2 ^ 54)) = some ⟨.clra 3, .nop, .nop⟩ := by decide +kernel
theorem test_decode_alu : decodeBundle (slot 8 (1 * 2 ^ 52 + 2 * 2 ^ 48 + 3 * 2 ^ 44)) = (bundleOf (.add 0 1 2 3)).map (·.2) ∧
    decodeBundle (slot 0xE (1 * 2 ^ 52 + 2 * 2 ^ 48 + 3 * 2 ^ 44)) = (bundleOf (.xor 0 1 2 3)).map (·.2) ∧
    decodeBundle (slot 0x11 (1 * 2 ^ 52 + 2 * 2 ^ 48 + 31 * 2 ^ 43)) = (bundleOf (.lsr 0 1 2 31)).map (·.2) ∧
    decodeBundle (slot 0x14 (1 * 2 ^ 52 + 2 * 2 ^ 48)) = (bundleOf (.neg 0 1 2)).map (·.2) ∧
    decodeBundle (slot 0x17 (2 * 2 ^ 48 + 3 * 2 ^ 44)) = (bundleOf (.cmp 0 2 3)).map (·.2) ∧
    decodeBundle (slot 0x19 (1 * 2 ^ 52 + 2 * 2 ^ 48 + 3 * 2 ^ 44)) = (bundleOf (.muli 0 1 2 3)).map (·.2) ∧
    decodeBundle (slot 0x0F 0) = none ∧ decodeBundle (slot 8 1) ≠ none ∧ decodeBundle (slot 8 (2 ^ 32)) = none := by decide +kernel
theorem test_decode_flow : decodeBundle (slot 0x20 (3 * 2 ^ 51 + 0xFFFE * 2 ^ 32)) = (bundleOf (.br 0 3 0xFFFE)).map (·.2) ∧
    decodeBundle (slot 0x22 (1 * 2 ^ 51 + 15 * 2 ^ 47)) = (bundleOf (.jr 0 1 15)).map (·.2) ∧
    decodeBundle (slot 0x23 (1 * 2 ^ 54 + 4 * 2 ^ 50 + 99 * 2 ^ 36)) = (bundleOf (.loop 0 1 4 99)).map (·.2) ∧
    decodeBundle (2 ^ 62 + slot 0x24 (1 * 2 ^ 54 + 99 * 2 ^ 36) + 12) = (bundleOf (.loopi 0 1 12 99)).map (·.2) ∧
    decodeBundle (2 ^ 62 + slot 0x25 (0x21 * 2 ^ 49) + 0x1234) = (bundleOf (.ldi 0 0x21 0x1234)).map (·.2) ∧
    decodeBundle (slot 0x26 0) = (bundleOf (.rti 0)).map (·.2) ∧ decodeBundle (slot 0x29 0) = (bundleOf (.halt 0)).map (·.2) ∧
    decodeBundle (slot 0x2A (5 * 2 ^ 52 + 15 * 2 ^ 44)) = (bundleOf (.mvts 0 15 5)).map (·.2) ∧ decodeBundle (slot 0x25 0) = none ∧
    decodeBundle (2 ^ 63) = none := by decide +kernel
theorem test_decode_moves : decodeBundle (3 * 2 ^ 7 + 5) = (bundleOf (.mov 0 3 5)).map (·.2) ∧
    decodeBundle (2 ^ 14 + 2 * 2 ^ 10 + 1 * 2 ^ 8 + 7) = (bundleOf (.ldx 0 2 1 7)).map (·.2) ∧
    decodeBundle (2 ^ 15 + 2 ^ 13 + 2 * 2 ^ 10 + 1 * 2 ^ 8 + 7) = (bundleOf (.sty 0 2 1 7)).map (·.2) ∧
    decodeBundle (2 ^ 14 + 2 * 2 ^ 10 + 1 * 2 ^ 8 + 31) = (bundleOf (.modx 0 2 1)).map (·.2) ∧
    decodeBundle (3 * 2 ^ 14 + 2 * 2 ^ 12 + 4 * 2 ^ 9 + 0x1FF) = (bundleOf (.setl 0 4 0x1FF)).map (·.2) ∧
    decodeBundle (2 ^ 14 + 2 ^ 5) = none := by decide +kernel
theorem test_alu : rdD (ran (.add 2 6 3 4)) 6 = 0x7FFF_FFFF ∧ rdSr (ran (.add 2 6 3 4)) = 0x10C ∧ rdD (ran (.sub 2 6 1 2)) 6 = 0xFFFF_FFFE ∧
    rdD (ran (.cmp 2 1 2)) 1 = 5 ∧ rdD (ran (.adds 2 6 3 4)) 6 = 0x8000_0000 ∧ rdSr (ran (.adds 2 6 3 4)) = 0x110 ∧
    rdD (ran (.abs 2 6 3)) 6 = 0x7FFF_FFFF ∧ rdD (ran (.mulr 2 6 3 3)) 6 = 0x7FFF_FFFF ∧ rdD (ran (.muli 2 6 1 2)) 6 = 35 := by decide +kernel
theorem test_shifts : rdD (ran (.asr 2 6 3 31)) 6 = 0xFFFF_FFFF ∧ rdSr (ran (.lsr 2 6 1 1)) = 0x108 ∧ rdD (ran (.lsl 2 6 4 31)) 6 = 0x8000_0000 ∧
    rdSr (ran (.lsl 2 6 1 0)) = 0x100 ∧ rdD (ran (.min 2 6 3 1)) 6 = 0x8000_0000 ∧ rdD (ran (.max 2 6 3 1)) 6 = 5 := by decide +kernel
theorem test_accumulators : rdAcc (ran (.mac 2 1 1 2 1 1 false false false)) 1 = 3 * 2 ^ 32 + 70 ∧
    rdAcc (ran (.mac 2 1 1 2 1 1 false false false)) 0 = 50 ∧ rdAcc (ran (.mac 2 1 1 2 1 1 true true true)) 1 = -70 ∧
    rdAcc (ran (.mvda 2 0 3)) 0 = -2 ^ 63 ∧ rdD (ran (.rnd 2 6 1 0)) 6 = 3 ∧ rdAcc (ran (.asha 2 0 1 (-33))) 0 = 1 ∧
    rdAcc (ran (.clra 2 1)) 1 = 0 ∧ rdAcc (ran (.suba 2 0 1)) 0 = -(3 * 2 ^ 32) := by decide +kernel
theorem test_flow : (ran (.br 2 0 0xFFFC)).delay = some ⟨2, some 4, none⟩ ∧ (ran (.br 2 1 4)).delay = some ⟨2, none, none⟩ ∧
    rdD (ran (.call 2 0 4)) 15 = 11 ∧ (ran (.loopi 2 1 0 20)).pc = 21 ∧ loopOn (ran (.loop 2 1 1 20)) 1 = true ∧
    getF (after (.loopi 2 3 1 20) (coring regd)).fab (dspAt 2 0x44) 15 8 = 1 ∧
    getF (after (.loopi 2 1 1 8) (coring regd)).fab (dspAt 2 0x44) 15 8 = 5 ∧
    getF (after (.br 2 11 4) (coring regd)).fab (dspAt 2 0x44) 15 8 = 1 := by decide +kernel
theorem test_ends : coreSt (after (.halt 2) (coring regd)).fab 2 = 4 ∧ coreSt (after (.wait 2) (coring regd)).fab 2 = 3 ∧
    (ran (.bdone 2)).bdone = true ∧ (ran (.nop 2)).pc = 9 := by decide +kernel
theorem test_moves : (ran (.ldi 2 0x20 0x1_2345)).pend = [(1, 0x20, 0x1_2345)] ∧ rdReg (ran (.ldi 2 1 9)) 1 = 9 ∧ codeOk 0x20 = true ∧ codeOk 0x50 = false ∧
    (ran (.ldx 2 0 1 6)).pend = [(1, 6, 0)] ∧ rdReg (ran (.ldx 2 0 2 6)) 0x20 = 0x11 ∧ mget zeroW (ran (.stx 2 0 0 1)).x 0x10 = 5 ∧
    mget zeroW (ran (.sty 2 0 0 2)).y 0x10 = 7 ∧ getF (after (.ldx 2 1 0 6) (coring regd)).fab (dspAt 2 0x44) 15 8 = 3 := by decide +kernel
theorem test_special : (ran (.mvts 2 4 2)).vbr = 0 ∧ (ran (.mvts 2 15 2)).dmaLoc = 7 ∧ rdD (ran (.mvfs 2 6 0)) 6 = 2 ∧
    specWritable 0 = false ∧ getF (after (.mvts 2 0 1) (coring regd)).fab (dspAt 2 0x44) 15 8 = 1 := by decide +kernel
/-- The core with a bundle at PC 8, and in another state. -/
def issuing (w : Nat) (st : Nat) (k : Core) : State :=
  { poke live [(dspAt 2 0x44, st)] with cores := ⟨[(2, { k with pm := [(8, BitVec.ofNat 64 w)] })]⟩ }
theorem test_bundle_issue : rdD (coreOf (after (.bundleIssue 2 false) (issuing (slot 8 (6 * 2 ^ 52 + 2 ^ 48 + 2 * 2 ^ 44)) 2 regd)).cores 2) 6 = 12 ∧
    getF (after (.bundleIssue 2 false) (issuing (2 ^ 63) 2 regd)).fab (dspAt 2 0x44) 15 8 = 1 ∧
    getF (after (.bundleIssue 2 true) (poke (issuing 0 2 regd) [(ra pBUS 0xE8, 2 ^ 31)])).fab (dspAt 2 0x44) 15 8 = 6 ∧
    (coreOf (after (.bundleIssue 2 false) (issuing 0 4 regd)).cores 2).pc = 8 := by decide +kernel
/-- Interrupts enabled, line 6 and line 7 pending and enabled. -/
def events (ie : Nat) : Core := { regd with regs := [(0x41, BitVec.ofNat 32 (0x100 + ie * 2 ^ 12))], evtEn := 0xC0, evtPend := 0xC0, vbr := 32 }
theorem test_interrupt : let k := coreOf (after (.interruptEntry 2) (issuing 0 2 (events 1))).cores 2
    coreLines live.fab 2 (events 1) = 0xC0 ∧ k.pc = 56 ∧ rdReg k 0x42 = 8 ∧ rdReg k 0x43 = 0x1100 ∧ bit (rdSr k) 12 = false ∧
    k.evtPend = 0x80 ∧ (coreOf (after (.interruptEntry 2) (issuing 0 2 (events 0))).cores 2).pc = 8 := by decide +kernel
theorem test_core_wake : let t := after (.coreWake 2 100) (issuing 0 3 (events 0))
    coreSt t.fab 2 = 2 ∧ (coreOf t.cores 2).cyc = 114 ∧ coreSt (after (.coreWake 2 100) (issuing 0 3 regd)).fab 2 = 3 := by decide +kernel
theorem test_core_timer : (coreOf (after (.coreTimer 2) (issuing 0 2 { regd with timerRld := 9 })).cores 2).evtPend = 8 ∧
    (coreOf (after (.coreTimer 2) (issuing 0 2 { regd with timerRld := 9 })).cores 2).timerAt = 9 ∧
    (coreOf (after (.coreTimer 2) (issuing 0 2 regd)).cores 2).evtPend = 0 := by decide +kernel
theorem test_core_dma : let k := coreOf (after (.coreDmaEnd 2) (issuing 0 2 { regd with dma := some ⟨0, false, 0, 4, false, 2⟩ })).cores 2
    k.dma = none ∧ k.dmaErr = true ∧ k.dmaCode = 2 ∧ k.evtPend.getLsbD 2 = true := by decide +kernel
theorem test_core_start : let t := after (.coreStart 2) (issuing 0 1 { regd with due := true })
    coreSt t.fab 2 = 2 ∧ (coreOf t.cores 2).pc = 0 ∧ (coreOf t.cores 2).evtPend = 1 ∧
    coreSt (after (.coreStart 2) (issuing 0 1 regd)).fab 2 = 1 := by decide +kernel
theorem test_mailbox : let s := { readyOf [274] with cores := ⟨[(2, regd)]⟩ }
    rdN (after (.mailboxWrite .host 2 77) s).fab (dspAt 2 0x58) = 77 ∧ (coreOf (after (.mailboxWrite .host 2 77) s).cores 2).evtPend = 2 ∧
    rdN (after (.mailboxWrite .host 2 77) (poke s [(dspAt 2 0x60, 1)])).fab (dspAt 2 0x20) = 0x101 ∧
    (coreOf (after (.evtRaise .host 2 0x40) s).cores 2).evtPend = 0x40 ∧ ready live.fab (pDSP 2) = false := by decide +kernel

-- Time and references

/-- The timebase runs at the nominal increment with a time; its page is READY. -/
def timed (x : TbState) : State := { onF live (fun f => { f with time := BitVec.ofNat 72 (2 ^ 64 - 1) }) with tb := x }
theorem test_tb_tick : let t := after .tbTick (timed TbState.reset)
    tbRuns (timed TbState.reset) = true ∧ t.fab.time.toNat = 2 ^ 64 - 1 + TbState.reset.incr ∧ getB t.fab (ra pTB 0x10) 20 = true ∧
    (after .tbTick (timed { TbState.reset with incrPend := some 0x4_0000_0001 })).tb.incr = 0x4_0000_0001 ∧
    (after .tbTick (timed { TbState.reset with stepPend := some (-5) })).fab.time.toNat = 2 ^ 64 - 6 + TbState.reset.incr ∧
    (after .tbTick State.reset).fab.time = 0 := by decide +kernel
theorem test_commits : let s := poke live [(ra pTB 0x40, 5), (ra pTB 0x48, 7)]
    (after (.incrCommit .host 4) s).tb.incrPend = some 0x4_0000_0005 ∧ rdN (after (.incrCommit .host 5) s).fab (ra pTB 0x20) = 0x100 ∧
    (after (.incrCommit .host 3) (poke s [(ra pTB 0x40, 0x8000_0000)])).tb.incrPend = some 0x3_8000_0000 ∧
    (after (.stepCommit .host (-1)) s).tb.stepPend = some (-2 ^ 32 + 7) ∧
    rdN (after (.stepCommit .host 1) (after (.stepCommit .host 1) s)).fab (ra pTB 0x20) = 0x101 ∧
    rdN (after (.incrCommit .host 4) (poke s [(ra pTB 0x50, 4)])).fab (ra pTB 0x20) = 0x102 := by decide +kernel
theorem test_now : let t := after (.nowRead .host) (timed TbState.reset)
    mget zeroN t.fab.rdata 0 = timeNs (timed TbState.reset).fab ∧ (held t.fab 0).length = 4 ∧
    mget zeroN (after (.latchRead .host) (poke live [(ra pTB 0x80, 9)])).fab.rdata 0 = 9 := by decide +kernel
/-- Capture unit 3 takes the rising edges of source 12. -/
def capturing (u : CapUnit) (cfg : Nat) : State := { poke live [(0x8008, 1), (capAt 3 0, cfg)] with tb := setCap live.tb 3 u }
theorem test_capture : let s := capturing CapUnit.reset (12 + 2 ^ 5)
    let t := after (.captureEdge 12 true 0 0) s
    (capOfUnit t.tb 3).q = [⟨0, 0⟩] ∧ getB t.fab (ra pTB 0x10) 3 = true ∧ (capOfUnit (after (.captureEdge 12 false 0 0) s).tb 3).q = [] ∧
    (capOfUnit (after (.captureEdge 13 true 0 0) s).tb 3).q = [] ∧
    (capOfUnit (after (.captureEdge 12 true 0 0) (capturing CapUnit.reset (12 + 2 ^ 5 + 2 ^ 16))).tb 3).n = 1 ∧
    (capOfUnit (after (.captureEdge 12 true 0 0) (capturing ⟨[], 0, some 0⟩ (12 + 2 ^ 5 + 2 ^ 8))).tb 3).q = [] := by decide +kernel
theorem test_capture_full : let e : CapEntry := ⟨5 * 2 ^ 32, 6⟩
    let t := after (.captureEdge 12 true 0 0) (capturing ⟨[e, e, e, e], 0, none⟩ (12 + 2 ^ 5))
    (capOfUnit t.tb 3).q.length = 4 ∧ getB t.fab (capAt 3 4) 8 = true ∧ (capOfUnit (after (.capRead .host 3) t).tb 3).q = [e, e, e] ∧
    mget zeroN (after (.capRead .host 3) t).fab.rdata 0 = 5 ∧ mget zeroN (after (.capRead .host 2) t).fab.rdata 0 = 0 := by decide +kernel
theorem test_comparator : let s := after (.cmpArm .host 1) (poke live [(0x8008, 1), (cmpAt 1 4, 0)])
    let t := after (.comparatorFire 1) s
    cmpArmed s.fab 1 = true ∧ getB t.fab (cmpAt 1 0x14) 1 = true ∧ cmpArmed t.fab 1 = false ∧ getB t.fab (ra pTB 0x10) 13 = true ∧
    rdN (after (.cmpArm .host 1) s).fab (ra pTB 0x20) = 0x103 ∧ cmpArmed (after (.cmpDisarm .host 1) s).fab 1 = false ∧
    cmpArmed (after (.comparatorFire 1) (after (.cmpArm .host 1) (poke live [(0x8008, 1), (cmpAt 1 0xC, 5)]))).fab 1 = true := by decide +kernel
/-- A DISARM at the tick of a fire comes after it. -/
theorem test_disarm_due : let s := after (.cmpArm .host 1) (poke live [(0x8008, 1), (cmpAt 1 4, 5)])
    let d := onF s (fun f => { f with time := BitVec.ofNat 72 (5 * 2 ^ 32) })
    cmpDue s.fab s.tb 1 = false ∧ getB (after (.cmpDisarm .host 1) s).fab (cmpAt 1 0x14) 1 = false ∧ cmpDue d.fab d.tb 1 = true ∧
    getB (after (.cmpDisarm .host 1) d).fab (cmpAt 1 0x14) 1 = true ∧ cmpArmed (after (.cmpDisarm .host 1) d).fab 1 = false := by decide +kernel
theorem test_event_pin : rdN (after (.evtCfgWrite .host 2 0xFFFF_FFFF) live).fab (evtAt 2) = 0xFFFF_003F ∧
    pinOf (after (.evtPulseEnd 2) { live with tb := setPin live.tb 2 ⟨true, some 0⟩ }).tb 2 = EvtPin.reset ∧
    pinOf (after (.evtPulseEnd 2) { live with tb := setPin live.tb 2 ⟨true, some (2 ^ 40)⟩ }).tb 2 = ⟨true, some (2 ^ 40)⟩ := by decide +kernel
/-- Monitor 3 in a state. -/
def monitoring (st : Nat) : State := onF live (fun f => putF f (refAt 3 4) 2 0 st)
theorem test_monitor_states : monOf (monitoring 3).fab 3 = 3 ∧ monOf (after (.refLoss 3) (monitoring 3)).fab 3 = 0 ∧
    monOf (after (.refCheckEnd 3) (monitoring 1)).fab 3 = 1 ∧ monOf (after (.refWtrEnd 3) (monitoring 2)).fab 3 = 3 ∧
    monOf (after (.refDisqEnd 3) (monitoring 4)).fab 3 = 1 ∧ monOf (after (.refWtrEnd 3) (monitoring 4)).fab 3 = 4 := by decide +kernel
/-- TDMREF has no source while its clock generator is a master; TBREF is lost by TB_VALID alone. -/
theorem test_monitor_sources : tdmSlave live.fab = false ∧ monOf (after (.refEdge 8 0 20833 10000) live).fab 8 = 0 ∧
    monOf (after (.refEdge 8 0 20833 10000) (poke live [(ra (pCG 0) 0x40, 1)])).fab 8 = 1 ∧
    monOf (after (.refLoss 0) (onF live (fun f => putF (putB f (refAt 0 0) 9 true) (refAt 0 4) 2 0 3))).fab 0 = 3 := by decide +kernel
theorem test_monitor_check : monOf (after (.refCheckEnd 3) (poke (monitoring 1) [(refAt 3 8, 0x7FFF_FFFF)])).fab 3 = 4 ∧
    monOf (after (.refEdge 3 0 20833 10000) (monitoring 0)).fab 3 = 1 := by decide +kernel

/-- The DPLL in a state, following a reference. -/
def dplling (st : Nat) (sel : Option Nat) : State :=
  { poke live [(ra pREF 0x80, st), (ra pREF 0x08, 1)] with ref := { live.ref with sel := sel } }
/-- The same with reference 3 QUALIFIED and FORCED. -/
def forced (st : Nat) (sel : Option Nat) : State :=
  onF (dplling st sel) (fun f => putF (wrN f (ra pREF 0x40) 0x31) (refAt 3 4) 2 0 3)
theorem test_ref_select : dpllSt (after .refSelect (dplling 2 (some 3))).fab = 3 ∧ (wanted (dplling 2 none).fab (dplling 2 none).ref).1 = none ∧
    (wanted (forced 0 none).fab (forced 0 none).ref).1 = some 3 ∧ dpllSt (after .refSelect (forced 0 none)).fab = 1 ∧
    dpllSt (after .refSelect (forced 2 (some 3))).fab = 2 ∧ dpllSt (after .refSelect (forced 3 none)).fab = 5 ∧
    dpllSt (after .refSelect (dplling 6 none)).fab = 6 := by decide +kernel
theorem test_holdover : (after .holdoverRecord (dplling 3 none)).ref.recs = [(0, false)] ∧
    rdN (after .holdoverRecord (dplling 3 none)).fab (ra pREF 0x90) = 1 ∧
    dpllSt (after .holdoverExpire (poke (dplling 3 none) [(ra pREF 0x4C, 5), (ra pREF 0x90, 5)])).fab = 4 ∧
    dpllSt (after .holdoverExpire (poke (dplling 3 none) [(ra pREF 0x4C, 5)])).fab = 3 ∧
    dpllSt (after .holdoverExpire (poke (dplling 3 none) [(ra pREF 0x4C, 0), (ra pREF 0x90, 5)])).fab = 3 := by decide +kernel
theorem test_grid_and_fault : rdN (after (.tbGridWrite .host 9) live).fab (ra pREF 0x64) = 9 ∧
    dpllSt (after (.mpllLockLoss true false) (dplling 2 (some 3))).fab = 6 ∧ dpllSt (after (.mpllLockLoss false false) (dplling 2 (some 3))).fab = 2 ∧
    dpllSt (after .faultEnd (dplling 6 none)).fab ≠ 6 ∧ dpllSt (after .faultEnd (dplling 7 none)).fab = 7 := by decide +kernel

-- The serial ports

/-- Clock generator 1 in a state, its registers as given. -/
def porting (st : Nat) (l : List (Nat × Nat)) (c : Cgen) : State :=
  let s := onF (poke playing l) (fun f => putF f (cgAt 1 0x50) 2 0 st)
  { s with ports := { s.ports with cgs := [(1, c)] } }
theorem test_cg_start : cgSt (porting 1 [] Cgen.reset).fab 1 = 1 ∧ cgStart playing.fab 1 = 0 ∧ eligible (porting 1 [] Cgen.reset).fab 1 = true ∧
    cgSt (after (.cgStart 1 0) (porting 1 [] Cgen.reset)).fab 1 = 2 ∧ cgSt (after (.cgStart 1 0) (porting 0 [] Cgen.reset)).fab 1 = 0 := by
  decide +kernel
theorem test_port_frame : (cgOf (after (.portFrame 1 [] 64 48000) (porting 2 [] Cgen.reset)).ports 1).chk = 1 ∧
    (cgOf (after (.portFrame 1 [] 64 48000) (porting 1 [] Cgen.reset)).ports 1).chk = 0 := by decide +kernel
/-- A slave. -/
def slave : List (Nat × Nat) := [(cgAt 1 0x40, 0x2_0001)]
theorem test_slave_frame : cgSlave (porting 2 slave Cgen.reset).fab 1 = true ∧
    getB (after (.portFrame 1 [] 63 48000) (porting 2 slave Cgen.reset)).fab (cgAt 1 0x50) 10 = true ∧
    rdN (after (.portFrame 1 [] 63 48000) (porting 2 slave Cgen.reset)).fab (cgAt 1 0x88) = 1 := by decide +kernel
theorem test_no_clock : cgSt (after (.noSck 1) (porting 2 slave Cgen.reset)).fab 1 = 3 ∧
    getB (after (.noFs 1) (porting 1 slave Cgen.reset)).fab (cgAt 1 0x50) 9 = true ∧
    cgSt (after (.noSck 1) (porting 2 [] Cgen.reset)).fab 1 = 2 := by decide +kernel
theorem test_port_fades : (cgOf (after (.portFadeEnd 1 true) (porting 2 [] { Cgen.reset with out := { PDir.reset with ph := .fade 32 0 } })).ports 1).out.ph =
      .mute 0 ∧
    (cgOf (after (.portFadeEnd 1 true) (porting 2 [] { Cgen.reset with out := { PDir.reset with ph := .fade 31 0 } })).ports 1).out.ph = .fade 31 0 ∧
    (cgOf (after (.portRecoveryEnd 1 false) (porting 2 [] { Cgen.reset with inp := { PDir.reset with ph := .ramp 256 } })).ports 1).inp.ph = .live ∧
    (cgOf (after (.portRecoveryEnd 1 false) (porting 2 [] { Cgen.reset with inp := { PDir.reset with ph := .ramp 255 } })).ports 1).inp.ph =
      .ramp 255 := by decide +kernel
/-- A slip of clock generator 1's output whose window has n frames. -/
def slipping (n : Nat) : Cgen := { Cgen.reset with out := { PDir.reset with slip := some ⟨true, 0, List.replicate n []⟩ } }
theorem test_port_slip : (cgOf (after (.slipPlace (.port 1 true)) (porting 2 [] (slipping 32))).ports 1).out.slip = none ∧
    rdN (after (.slipPlace (.port 1 true)) (porting 2 [] (slipping 32))).fab (cgAt 1 0x80) = 1 ∧
    (cgOf (after (.slipPlace (.port 1 true)) (porting 2 [] (slipping 31))).ports 1).out.slip ≠ none := by decide +kernel
/-- A SYNC_FS slave whose input buffer holds n frames when the check is due. -/
def filled (n : Nat) : State := porting 2 slave { Cgen.reset with chk := 16, inp := { PDir.reset with reading := true, buf := List.replicate n (0, 0, []) } }
theorem test_fill_check : buffered (filled 29).fab 1 = true ∧ dirUsed (filled 29).fab 1 false = false ∧
    (cgOf (after (.portFillCheck 1) (filled 29)).ports 1).chk = 0 ∧ (cgOf (after (.portFillCheck 1) (porting 2 [] Cgen.reset)).ports 1).chk = 0 := by
  decide +kernel
/-- A steered master whose check is due. -/
def steered (n : Nat) : State := porting 2 [(cgAt 1 0x40, 0x4_0000)] { Cgen.reset with chk := n, out := { PDir.reset with buf := List.replicate 33 (0, 0, []) } }
theorem test_steer : cgSteer (steered 64).fab 1 = true ∧ (cgOf (after (.steerUpdate 1) (steered 64)).ports 1).steerI = 2 ^ 20 ∧
    (cgOf (after (.steerUpdate 1) (steered 63)).ports 1).steerI = 0 := by decide +kernel
/-- Start group 2 with clock generator 1 alone, which starts by groups, for MSC target. -/
def grouping (st tgt : Nat) : State := let s := porting st [(cgAt 1 0x40, 0x20_0000), (sgAt 2 0, 2), (sgAt 2 4, tgt)] Cgen.reset
  onF s (fun f => wrN f 0x2_000C 1)
theorem test_start_group : sgMembers (grouping 1 0).fab 2 = [1] ∧ sgArmed (after (.sgArm .host 2) (grouping 1 0)).fab 2 = true ∧
    cgSt (after (.sgStart 2) (after (.sgArm .host 2) (grouping 1 0))).fab 1 = 2 ∧
    sgArmed (after (.sgStart 2) (after (.sgArm .host 2) (grouping 1 0))).fab 2 = false ∧
    cgSt (after (.sgStart 2) (after (.sgArm .host 2) (grouping 1 9))).fab 1 = 1 ∧
    rdN (after (.sgArm .host 0) (grouping 1 0)).fab (ra (pCG 0) 0x20) = 0x103 ∧ rdN (after (.sgArm .host 0) live).fab (ra (pCG 0) 0x20) = 1 ∧
    sgArmed (after (.sgDisarm .host 2) (after (.sgArm .host 2) (grouping 1 0))).fab 2 = false := by decide +kernel
theorem test_pin_faults : let t := after (.pinBackoff (.sd 5)) playing
    t.ports.backoff = [.sd 5] ∧ getB t.fab (sapAt 5 0x50) 1 = true ∧ (after (.pinBackoffEnd (.sd 5)) t).ports.backoff = [] ∧
    after (.pinBackoff (.sd 5)) t = t ∧ getB (after (.pinBackoff (.mclk 2)) playing).fab (cgAt 2 0x50) 13 = true := by decide +kernel

-- The network ports and the streams

/-- Port 1 enabled with its link up, at 10 Gb/s. -/
def linked (n : NetPort) : State := { poke playing [(ra (pNET 1) 0x08, 1), (netAt 1 0x44, 3)] with net := { NetState.reset with b := n } }
theorem test_link_up : linkUp (linked NetPort.reset).fab 1 = true ∧
    linkUp (after (.linkUpChange 1 true false true) (linked NetPort.reset)).fab 1 = false ∧
    getB (after (.linkUpChange 1 true false true) (linked NetPort.reset)).fab (netAt 1 0x10) 0 = true ∧
    mget zeroN (portOf (after (.linkUpChange 1 false false false) (linked NetPort.reset)).net 1).stats 44 = 1 ∧
    linkUp (after (.linkUpChange 0 true true false) (linked NetPort.reset)).fab 0 = false := by decide +kernel
/-- CRC-32 of the ASCII digits 1 to 9 (R456). -/
theorem test_crc32 : crc32 [0x31, 0x32, 0x33, 0x34, 0x35, 0x36, 0x37, 0x38, 0x39] = 0xCBF43926 := by decide +kernel
/-- A broadcast frame of n zero bytes after its header, with FCS c. -/
def frame (n c : Nat) : List Byte := List.replicate 12 0xFF ++ [0x88, 0xB5] ++ List.replicate n 0 ++ leBytes 4 c
def goodFrame : List Byte := let b := List.replicate 12 0xFF ++ [0x88, 0xB5] ++ List.replicate 46 0; b ++ leBytes 4 (crc32 b)
theorem test_rx_faults : frameFault (linked NetPort.reset).fab 1 (frame 45 0) false = some (5, some 1) ∧
    frameFault (linked NetPort.reset).fab 1 (frame 46 0) false = some (7, some 3) ∧
    mget zeroN (portOf (after (.rxFrame 1 ⟨frame 46 0, false, 0, 0, false, 0⟩) (linked NetPort.reset)).net 1).stats 7 = 1 ∧
    frameFault (linked NetPort.reset).fab 1 goodFrame true = some (8, none) := by decide +kernel
theorem test_rx_good : let t := after (.rxFrame 1 ⟨goodFrame, false, 0, 0, false, 0⟩) (linked NetPort.reset)
    frameFault (linked NetPort.reset).fab 1 goodFrame false = none ∧ mget zeroN (portOf t.net 1).stats 0 = 1 ∧
    mget zeroN (portOf t.net 1).stats 1 = 64 ∧
    mget zeroN (portOf (after (.rxFrame 1 ⟨goodFrame, false, 0, 0, true, 0⟩) (linked NetPort.reset)).net 1).stats 22 = 1 := by decide +kernel
/-- A queued frame of management ring 4 of a class, with a stamp request. -/
def queuedTx (c : Nat) : TxFrame := ⟨c, 64, 0, false, 0, .mgmt 4 1 7 true []⟩
theorem test_tx_start : let t := after (.txFrameStart 1 0) (linked { NetPort.reset with queue := [queuedTx 1, queuedTx 5] })
    (portOf t.net 1).cur = some (queuedTx 5, 0) ∧ (portOf t.net 1).queue = [queuedTx 1] := by decide +kernel
theorem test_tx_end : let u := after (.txFrameEnd 1) (linked { NetPort.reset with cur := some (queuedTx 5, 0) })
    (portOf u.net 1).cur = none ∧ mget zeroN (portOf u.net 1).stats 33 = 64 ∧ (portOf u.net 1).tsq.map (·.tag) = [7] := by decide +kernel
theorem test_tsq : let e : TsEntry := ⟨7, 5, 1000, 128⟩
    let t := after (.tsqRead .host 1) (linked { NetPort.reset with tsq := [e, e] })
    (portOf t.net 1).tsq = [e] ∧ mget zeroN t.fab.rdata 0 = 0x8005_0007 ∧ (held t.fab 0).map (·.2) = [1000, 0x8000_0000] ∧
    mget zeroN (after (.tsqRead .host 1) (linked NetPort.reset)).fab.rdata 0 = 0 := by decide +kernel
theorem test_gates : let s := linked { NetPort.reset with admin := [(0, (1, 500))] }
    let t := after (.gateChange .host 1 3) (poke s [(netAt 1 0x848, 1000), (netAt 1 0x850, 500), (netAt 1 0x854, 1)])
    (portOf t.net 1).change = some 1000 ∧ getB t.fab (netAt 1 0x844) 0 = true ∧
    (portOf (after (.gateChangeApply 1) t).net 1).oper = [] ∧
    (portOf (after (.gateChangeApply 1) (onF t (fun f => { f with time := 1000 * 2 ^ 32 }))).net 1).oper = [(0, (1, 500))] ∧
    (portOf (after (.gateInterval 1) s).net 1).mask = 255 := by decide +kernel
theorem test_stats : let s := linked { NetPort.reset with stats := [(3, 2 ^ 32 + 5)] }
    rdN (after (.statsSnap .host 1 3) s).fab (netAt 1 0x418) = 5 ∧ rdN (after (.statsSnap .host 1 3) s).fab (netAt 1 0x41C) = 1 ∧
    (portOf (after (.statsSnap .host 1 3) s).net 1).stats = [] ∧ rdN (after (.statsSnap .host 1 0) s).fab (netAt 1 0x418) = 0 := by decide +kernel
theorem test_tx_descriptor : (portOf (after (.txDescriptor 1 0) (linked NetPort.reset)).net 1).queue = [] ∧
    (ringRuns (poke (linked NetPort.reset) [(ringAt 1 4 0x10, 1), (ringAt 1 4 0x14, 1)]).fab 1 4) = true := by decide +kernel
/-- RX stream 3 in a phase. -/
def streaming (x : RxStream) : State := { playing with strm := { StrmState.reset with rx := [(3, x)] } }
theorem test_stream_fades : (rxOf (after (.streamFadeEnd 3) (streaming { RxStream.reset with ph := .fade 32 0 })).strm 3).ph = .mute 0 ∧
    (rxOf (after (.streamRecoveryEnd 3) (streaming { RxStream.reset with ph := .ramp 256 })).strm 3).ph = .live ∧
    (rxOf (after (.streamRecoveryEnd 3) (streaming { RxStream.reset with ph := .ramp 255 })).strm 3).ph = .ramp 255 := by decide +kernel
theorem test_stream_slip : let z (n : Nat) : RxStream := { RxStream.reset with slip := some ⟨false, 0, List.replicate n []⟩ }
    (rxOf (after (.slipPlace (.stream 3)) (streaming (z 32))).strm 3).slip = none ∧
    (rxOf (after (.slipPlace (.stream 3)) (streaming (z 31))).strm 3).slip ≠ none ∧
    getB (after (.slipPlace (.stream 3)) (streaming (z 32))).fab (ra pSTRM 0x10) 3 = true := by decide +kernel
/-- RX stream 3 takes packets on both ports, and both are ACTIVE. -/
def merging : State := onF { playing with strm := { StrmState.reset with
  act := [(3, [0x6_0007])], rx := [(3, { RxStream.reset with atA := some 0 })] } } (fun f => wrN f (rxAt 3 0) 7)
theorem test_port_down : getB (after (.streamPortDown 3 1) merging).fab (rxAt 3 0) 2 = false ∧
    getB (after (.streamPortDown 3 1) merging).fab (ra pSTRM 0x10) 4 = true ∧
    getB (after (.streamPortDown 3 0) merging).fab (rxAt 3 0) 1 = true := by decide +kernel
/-- An RX entry of 6 samples per packet stages at index 256. -/
def staging (spp : Nat) : State :=
  onF live (fun f => wrO (wrO f 0 (ra pSTRM 0x40) 0x100) 0 (ra pSTRM 0x80) (BitVec.ofNat 32 (spp * 2 ^ 16)))
theorem test_stream_table : rdO (after (.streamWrite .host) (staging 6)).fab 0 (ra pSTRM 0x48) = 1 ∧
    rdShd (after (.streamWrite .host) (staging 6)).fab pSTRM (strKey false 256) = 0x6_0000 ∧
    rdO (after (.streamWrite .host) (staging 0)).fab 0 (ra pSTRM 0x48) = 2 ∧ rdN (after (.streamWrite .host) (staging 0)).fab (ra pSTRM 0x20) = 0x100 ∧
    rdO (after (.streamRead .host) (staging 6)).fab 0 (ra pSTRM 0x80) = 0 ∧
    rdO (after (.streamWrite .host) (poke (staging 6) [(ra pSTRM 0x2C, 2)])).fab 0 (ra pSTRM 0x48) = 3 ∧
    getB (after (.streamWrite .host) (readyOf [])).fab (ra pSTRM 0x0C) 2 = true := by decide +kernel
/-- TX stream 3 sends 6 samples of one channel on port 1, and MSC 6 begins. -/
def sending (w : Nat) : State := onto 6 { poke (linked NetPort.reset) [(ra pSTRM 0x08, 1)] with
  strm := { StrmState.reset with act := [(515, BitVec.ofNat 32 (1 + 4 + w + 6 * 2 ^ 16) :: List.replicate 15 0)] } }
theorem test_stream_queue : (portOf (after (.streamPacketQueue 3) (sending 0)).net 1).queue.map (·.len) = [70] ∧
    (portOf (after (.streamPacketQueue 3) (sending 0)).net 0).queue = [] ∧
    (portOf (after (.streamPacketQueue 3) (onto 5 (sending 0))).net 1).queue = [] ∧
    getB (after (.streamPacketQueue 3) { sending 128 with tri := TriState.reset }).fab (txAt 3 0) 1 = true := by decide +kernel
theorem test_stream_tx : after (.streamPacketQueue 3) playing = playing ∧ after (.streamTxLate 1) (linked NetPort.reset) = linked NetPort.reset ∧
    (portOf (after (.streamTxLate 1) (linked { NetPort.reset with queue := [⟨5, 64, 0, false, 0, .stream ⟨3, 0, 0, 0, []⟩ []⟩] })).net 1).queue = [] := by
  decide +kernel

-- The Uhlyen links and the stack

/-- Link 1 (UW) up at 25.78125 Gb/s with four good lanes, the device a member of the stack with a role, state and ID. -/
def stacked (role st id : Nat) (k : StkState) : State :=
  { poke playing [(ra (pUHL 0) 0x08, 1), (ra (pUHL 1) 0x08, 1), (ra pSTK 0x08, 1), (uhlAt 1 0x44, 0xF05), (uhlAt 0 0x44, 0xF05),
      (stkAt 0x40, role + id * 256 + 2 ^ 14 + st * 2 ^ 16)] with stk := k }
/-- A training link. -/
def training (good : Nat) : State := { poke playing [(ra (pUHL 1) 0x08, 1), (uhlAt 1 0x44, good * 256)] with
  stk := { StkState.reset with uw := { UhlLink.reset with training := true } } }
theorem test_rate_fallback : (after (.uhlRateFallback 1) (training 7)).stk.uw.rate = 2 ∧ (after (.uhlRateFallback 1) (training 15)).stk.uw.rate = 1 := by
  decide +kernel
theorem test_lanes : let s := training 0
    getB (after (.laneMarker 1 2 0 true) s).fab (uhlAt 1 0x44) 10 = true ∧ getB (after (.laneMarker 1 2 0 true) s).fab (uhlAt 1 0x44) 14 = true ∧
    getF (after (.laneMarker 1 2 0 true) s).fab (uhlAt 1 0x48) 1 0 = 2 ∧
    getB (after (.laneFail 1 0) (stacked 1 2 5 StkState.reset)).fab (uhlAt 1 0x44) 8 = false ∧
    uhlUp (after (.laneFail 1 0) (stacked 1 2 5 StkState.reset)).fab 1 = false := by decide +kernel
theorem test_links : (after (.linkRetrainEnd 1) (training 3)).stk.uw = ⟨false, true, 1, none⟩ ∧
    getB (after (.linkRetrainEnd 1) (training 3)).fab (uhlAt 1 0x44) 1 = true ∧ (after (.linkRetrainEnd 1) (training 1)).stk.uw.training = true ∧
    uhlUp (after (.uhlLinkUp 1 (some 9)) (after (.linkRetrainEnd 1) (training 15))).fab 1 = true ∧
    getF (after (.uhlLinkUp 1 (some 9)) (after (.linkRetrainEnd 1) (training 15))).fab (uhlAt 1 0x44) 23 18 = 9 ∧
    uhlUp (after (.uhlLinkDown 1) (stacked 1 2 5 StkState.reset)).fab 1 = false ∧
    (after (.laneRestore 1) (poke (stacked 1 2 5 StkState.reset) [(uhlAt 1 0x44, 0xF07)])).stk.uw.training = true := by decide +kernel
theorem test_messages : msgOk (mkMsg 1 0 5 false 0 7) = true ∧ msgOk (mkMsg 1 0 5 false 0 7 + 1) = false ∧ msgType (mkMsg 1 0 5 false 0 7) = 1 := by
  decide +kernel
theorem test_enumeration : stkSt (after (.cmdEnum .host) (stacked 3 3 0 StkState.reset)).fab = 1 ∧
    (after (.cmdEnum .host) (stacked 3 3 0 StkState.reset)).stk.out = [(0, mkMsg 3 0 0 false 0 1)] ∧
    stkId (after (.enum 1 (mkMsg 3 0 0 false 0 4)) (stacked 1 7 0 StkState.reset)).fab = 4 ∧
    (after (.enum 1 (mkMsg 3 0 0 false 0 4)) (stacked 3 1 0 { StkState.reset with enumSent := true })).stk.count = 4 ∧
    stkSt (after (.enum 1 (mkMsg 3 0 0 false 1 0)) (stacked 1 2 5 StkState.reset)).fab = 7 ∧
    (after (.enum 0 (mkMsg 3 0 0 false 0 4)) (stacked 1 7 0 StkState.reset)).stk.out = [] := by decide +kernel
theorem test_roll : let s := stacked 3 3 0 { StkState.reset with count := 3 }
    let t := after .rollCall s
    t.stk.out.length = 2 ∧ (rollOf t.stk 2).wait = some 1 ∧
    (rollOf (after (.rollAns 1 (mkMsg 2 2 0 false 0 (1 + 2 ^ 25))) t).stk 2).answers = 1 ∧
    memberBit (after (.rollAns 1 (mkMsg 2 2 0 false 0 (1 + 2 ^ 25))) t).fab 0x58 2 = true ∧
    (rollOf (after (.rollAnsMiss 2) t).stk 2).misses = 1 ∧ (after (.rollAnsMiss 2) s).stk = s.stk ∧
    ((after (.roll 1 (mkMsg 1 0 5 false 0 9)) (stacked 1 2 5 StkState.reset)).stk.out.map (fun e => msgPay e.2 % 2 ^ 16)) = [9] ∧
    rdN (after (.roll 1 (mkMsg 1 0 5 false 0 9 + 1)) (stacked 1 2 5 StkState.reset)).fab (uhlAt 1 0x58) = 1 := by decide +kernel
theorem test_failures : (after (.linkFail 1 (mkMsg 6 2 0 true 0 2)) (stacked 3 3 0 { StkState.reset with count := 3 })).stk.failed = [2] ∧
    (after .restoreAnnounce (onF (stacked 3 3 0 { StkState.reset with count := 3 }) (fun f => wrN f (stkAt 0x44) 4))).stk.change.isSome = true ∧
    (after (.restore .host) (stacked 3 3 0 { StkState.reset with count := 3 })).stk.change.isSome = true ∧
    (after .chgAtApply (stacked 3 3 0 { StkState.reset with change := some ⟨0, 5, 2, true, false⟩ })).stk.openLink = 2 ∧
    (after .chgAtApply (stacked 3 3 0 { StkState.reset with change := some ⟨9, 5, 2, true, false⟩ })).stk.openLink = 0 := by decide +kernel
/-- Groups 1 of {0, 1, 2} that an announced change sheds have faded when it applies. -/
theorem test_shed_change : let t := after .chgAtApply (stacked 3 3 0 { StkState.reset with present := 7, change := some ⟨0, 5, 0, true, false⟩ })
    t.stk.present = 5 ∧ mget (fun _ => GrpRx.reset) t.stk.grps 1 = ⟨0, .mute 0⟩ ∧ mget (fun _ => GrpRx.reset) t.stk.grps 2 = ⟨0, .live⟩ := by
  decide +kernel
theorem test_deputy : stkSt (after .deputyTakeover (poke (stacked 2 8 1 StkState.reset) [(stkAt 0x44, 8)])).fab = 4 ∧
    stkSt (after .deputyTakeover (stacked 2 8 1 { StkState.reset with heard := true })).fab = 8 ∧
    (after (.handback .host) (stacked 2 4 1 StkState.reset)).stk.change.isSome = true := by decide +kernel
/-- A header from the west with MASTER_VALID, master time 5 ns. -/
def header : List (BitVec 64) := sealHdr ([0x8_0000_0000, 0, BitVec.ofNat 64 (5 * 2 ^ 16)] ++ List.replicate 9 0)
/-- A frame with a header alone. -/
def cycle (h : List (BitVec 64)) : CycFrame := ⟨h, [], [], []⟩
theorem test_good_parts : ((goodParts ⟨[], [], [(3, [1], BitVec.ofNat 32 (grpCrc [1])), (4, [1], 0)], []⟩).grps.map (·.1)) = [3] := by decide +kernel
theorem test_cycle_header : hdrOk (cycle header) = true ∧ hDir (cycle header) = 0 ∧ hMasterValid (cycle header) = true ∧
    hdrOk (cycle (header.set 0 0)) = false := by decide +kernel
theorem test_cycle_frame : let s := poke (stacked 1 2 5 StkState.reset) [(stkAt 0x44, 2)]
    let t := after (.cycleFrame 1 0 (cycle header)) s
    t.fab.time.toNat / 2 ^ 32 = 5 ∧ getB t.fab (ra pTB 0x50) 2 = true := by decide +kernel
/-- A frame that ends 30 µs after the tick is too late for its cycle. -/
theorem test_late_cycle : let s := stacked 1 2 5 StkState.reset
    let l := { s with net := { s.net with now := 30000 } }
    cycleLate s.fab s.stk s.net.now = false ∧ (after (.cycleFrame 1 0 (cycle header)) s).stk.recE.isSome = true ∧
    cycleLate l.fab l.stk l.net.now = true ∧ (after (.cycleFrame 1 0 (cycle header)) l).stk.recE = none := by decide +kernel
theorem test_bad_header : let s := stacked 1 2 5 StkState.reset
    rdN (after (.cycleFrame 1 0 (cycle [])) s).fab (uhlAt 1 0x50) = 1 ∧ (after (.cycleFrame 0 0 (cycle header)) s).stk.recW = none := by decide +kernel
theorem test_link_delay : let s := stacked 1 2 5 StkState.reset
    let t := after (.linkDelayMeasure 1 []) s
    t.stk.out.map (fun e => msgType e.2) = [4] ∧ (linkOf t.stk 1).reqAt = some 0 ∧
    (after (.dlyReq 1 (mkMsg 4 4 5 false 0 1000) 24) s).stk.out = [(1, mkMsg 5 5 0 false 0 1024)] ∧
    rdN (after (.dlyRsp 1 (mkMsg 5 4 5 false 0 0) 0) (onF t (fun f => { f with time := 2 ^ 40 }))).fab (uhlAt 1 0x4C) = 2 ^ 24 / 512 ∧
    (linkOf (after (.dlyRsp 1 (mkMsg 5 4 5 false 0 0) 0) t).stk 1).reqAt = none := by decide +kernel
/-- Entry 2 of table 0 is addressed. -/
def mapping : State := onF (stacked 1 2 5 StkState.reset) (fun f => wrO f 0 (stkAt 0xB0) 2)
theorem test_stack_map : rdShd (after (.stkMapWrite .host 0x8007) mapping).fab pSTK (stkKey 0 2) = 0x8007 ∧
    rdO (after (.stkMapWrite .host 0x8007) mapping).fab 0 (stkAt 0xB8) = 1 ∧
    rdO (after (.stkMapWrite .host 1) (poke mapping [(ra pSTK 0x2C, 2)])).fab 0 (stkAt 0xB8) = 3 ∧
    rdO (after (.stkMapWrite .host 1) (onF mapping (fun f => wrO f 0 (stkAt 0xB0) 0x1FFF))).fab 0 (stkAt 0xB8) = 2 := by decide +kernel
/-- The strapped master of three members. -/
def master : State := onF (stacked 3 3 0 { StkState.reset with count := 3 }) (fun f => wrN f (stkAt 0x50) 7)
theorem test_stack_window : reachable master.fab master.stk 2 = true ∧
    (after (.stackWindowAccess .host 0x200_0040 none) master).stk.remote = [⟨0, 2, 0, 0x200_0040, false⟩] ∧
    mget zeroN (after (.stackWindowAccess .host 0x40 none) master).fab.rdata 0 = 0x1024B000 ∧
    getF (after (.stackWindowAccess .host 0x500_0040 none) master).fab 0x54 9 8 = 0 ∧
    getF (after (.stackWindowAccess .host 0x200_0041 none) master).fab 0x54 9 8 = 1 := by decide +kernel
theorem test_remote : let t := after (.stackWindowAccess (.quad 1) 0x200_0040 none) master
    mget zeroN (after (.regRsp 1 (mkMsg 18 2 0 false 0 (77 * 2 ^ 32))) t).fab.rdata 3 = 77 ∧
    (after (.regRsp 1 (mkMsg 18 2 0 false 0 (77 * 2 ^ 32))) t).stk.remote = [] ∧ (after .remoteAccessTimeout t).stk.remote = [] ∧
    getB (after .remoteAccessTimeout t).fab 0x54 31 = true ∧ after .remoteAccessTimeout master = master := by decide +kernel
theorem test_register_messages : ((after (.regRd 1 (mkMsg 16 0 5 false 0 0x40)) (stacked 1 2 5 StkState.reset)).stk.out.map (fun e => nfld (msgPay e.2) 63 32)) =
      [0x1024B000] ∧
    rdN (after (.regWr 1 (mkMsg 17 0 5 false 0 (0x8048 + 9 * 2 ^ 32))) (stacked 1 2 5 StkState.reset)).fab 0x8048 = 9 := by decide +kernel
theorem test_follow : following (stacked 1 2 5 StkState.reset).fab (stacked 1 2 5 StkState.reset).inc 2 = false ∧
    (after (.followRatio 1 (mkMsg 0x30 4 5 false 2 9) .track 1 0) (stacked 1 2 5 StkState.reset)).inc = playing.inc ∧
    (after (.followPos 1 (mkMsg 0x31 4 5 false 2 9)) (stacked 1 2 5 StkState.reset)).inc = playing.inc := by decide +kernel

-- The trifle

/-- Member 2 of a trifle at position 2: roles of the trifle, the members 1, 2 and 3 at positions 1, 2 and 3. -/
def member (role health : Nat) (x : TriState) : State :=
  { onF (stacked 1 2 2 StkState.reset) (fun f => wrN (wrN (wrN f (triAt 0x48) (role + 0x20 + health * 256)) (triAt 0x44) 0x3_0201) (triAt 0x40) 0x30_2000)
    with tri := x }
/-- A vote for block b with check c. -/
def ballot (src b c role : Nat) : BitVec 128 := mkMsg 0x20 src 2 false 0 (c + b * 2 ^ 32 + 5 * 2 ^ 48 + role * 2 ^ 56 + src * 2 ^ 60 + 2 ^ 64)
theorem test_vote : memberId (member 2 0 TriState.reset).fab 1 = 1 ∧ vEff (member 2 0 TriState.reset).fab = 16 ∧
    (after (.vote 1 (ballot 3 9 77 3)) (member 2 0 TriState.reset)).tri.votes = [⟨3, 9, 77, 3, false, 3, false⟩] ∧
    (after (.vote 1 (ballot 3 9 78 3)) (after (.vote 1 (ballot 3 9 77 3)) (member 2 0 TriState.reset))).tri.votes.length = 1 ∧
    getB (after (.vote 1 (ballot 3 9 77 3 + 1)) (member 2 0 TriState.reset)).fab (ra (pUHL 1) 0x10) 2 = true := by decide +kernel
/-- The votes of block 4 at its tick: owner, standby and alternate. -/
def voted (role a b c : Nat) (x : TriState) : State := onto 66 (member role 0 { x with
  votes := [⟨1, 4, a, 1, false, 1, false⟩, ⟨2, 4, b, 2, false, 2, false⟩, ⟨3, 4, c, 3, false, 3, false⟩] })
theorem test_votes : blockAt (voted 3 7 7 7 TriState.reset).fab 66 = some 4 ∧
    (after .voteEvaluate (voted 3 7 7 7 { TriState.reset with ownerMin := 1 })).tri.ownerMin = 0 ∧
    (after .voteEvaluate (voted 3 8 7 7 TriState.reset)).tri.ownerMin = 1 ∧
    getB (after .voteEvaluate (voted 3 8 7 7 TriState.reset)).fab (triAt 0x4C) 0 = true ∧
    (after .voteEvaluate (voted 3 8 7 7 { TriState.reset with ownerMin := 1 })).tri.due = some (80, .order 2) ∧
    triRole (after .voteEvaluate (voted 2 7 8 7 { TriState.reset with selfMin := 1 })).fab = 4 ∧
    getB (after .voteEvaluate (voted 3 6 7 8 TriState.reset)).fab (triAt 0x4C) 2 = true := by decide +kernel
theorem test_handover : let x (d : Due) : TriState := { TriState.reset with due := some (16, d) }
    triRole (after .handover (onto 16 (member 2 0 (x (.order 2))))).fab = 1 ∧ triRole (after .handover (onto 16 (member 1 0 (x (.order 3))))).fab = 4 ∧
    triRole (after .handover (onto 16 (member 1 0 (x .release)))).fab = 4 ∧ triRole (after .handover (onto 15 (member 2 0 (x (.order 2))))).fab = 2 ∧
    (after (.order 1 (mkMsg 0x20 3 2 false 1 (48 + 2 * 2 ^ 60 + 2 ^ 64))) (member 2 0 TriState.reset)).tri.due = some (48, .order 2) := by decide +kernel
theorem test_own_in : (after (.ownInChange true false) (member 1 0 TriState.reset)).tri.due.isSome = true ∧
    (after (.ownInChange true false) (member 1 0 { TriState.reset with byOrder := true })).tri.due = none := by decide +kernel
theorem test_take : (after (.take .host) (member 2 1 TriState.reset)).tri.due.isSome = true ∧
    rdN (after (.take .host) (member 2 0 TriState.reset)).fab (ra pTRI 0x20) = 0x101 ∧ (after (.take .host) (member 3 1 TriState.reset)).tri.due = none := by
  decide +kernel
theorem test_rejoin_phases : let t := after (.rejoin .host) rejoinable
    opResult (after (.rejoinPhaseEnd 0 false) t).fab .rejoin = 5 ∧ (after (.rejoinPhaseEnd 0 true) t).tri.rejoin.map (·.phase) = some 1 ∧
    (after (.rejoinPhaseEnd 0 true) (onto 1000000 t)).tri.rejoin.map (·.phase) = some 2 ∧
    (after (.snap 1 (mkMsg 0x21 1 2 false 0 (9 + 3 * 2 ^ 64))) (member 4 0 { TriState.reset with rejoin := some ⟨1, 3, 0⟩ })).tri.snap = [(3, 9)] := by
  decide +kernel
theorem test_snap_install : let s (p : Nat) := member 5 0 { TriState.reset with rejoin := some ⟨1, p, 0⟩, snap := [(3, 9)] }
    let c := Instr.snapInstall (.inc 7 { IncCh.reset with e := 5 })
    (incCh (after (c true) (s 2)).inc 7).e = 5 ∧ (after (c true) (s 2)).tri.snap = [] ∧ (incCh (after (c true) (s 3)).inc 7).e = 0 ∧
    (incCh (after (c false) (s 2)).inc 7).e = 0 ∧ rdN (after (c false) (s 2)).fab (triAt 0xB0) = 1 := by decide +kernel
theorem test_catchup : getB (after .catchupTimeout (onto 480000 (member 4 0 { TriState.reset with demoted := true }))).fab (triAt 0x4C) 6 = true ∧
    getB (after .catchupTimeout (member 4 0 TriState.reset)).fab (triAt 0x4C) 6 = false ∧
    getB (after .catchupTimeout (onto 480000 (member 4 0 { TriState.reset with demoted := true, catchAt := 1 }))).fab (triAt 0x4C) 6 = false := by decide +kernel
theorem test_alive : let s := poke (member 2 0 TriState.reset) [(triAt 0x200, 0x7_0003)]
    getB (after (.alvFeed .host 0 6) (after (.alvFeed .host 0 5) s)).fab (triAt 0x204) 0 = false ∧
    getB (after (.alvFeed .host 0 5) (after (.alvFeed .host 0 5) s)).fab (triAt 0x204) 0 = true ∧
    getB (after (.alvFeed .host 0 7) (after (.alvFeed .host 0 5) s)).fab (triAt 0x204) 1 = true := by decide +kernel

-- The check-value unit

/-- Context 2 set up for CRC-32C: the worked example of chapter 14. -/
def crc32cCtx : State := poke live [(ra pCRCU 0x08, 1), (crcAt 2 0, 0x320), (crcAt 2 4, 0x1EDC_6F41), (crcAt 2 8, 0), (crcAt 2 0xC, 0xFFFF_FFFF),
  (crcAt 2 0x14, 0xFFFF_FFFF)]
/-- The ASCII string 123456789 fed as two words and a byte. -/
def digits : State := after (.feedB .host 2 0x39) (after (.feedW (.quad 0) 2 0x3837_3635) (after (.feedW .host 2 0x3433_3231)
  (after (.loadInit .host 2) crc32cCtx)))
theorem test_crc32c : takesWrites crc32cCtx.fab pCRCU = true ∧ crcW crc32cCtx.fab 2 = 32 ∧ crcRes digits.fab 2 = 0xE306_9283 := by decide +kernel

-- The memories and the bus matrix

/-- Both channels READY, DRAM with two bytes. -/
def dramed (b : BusState) (d : Drc) : State := { poke live [(drcAt 0 0x48, 1), (drcAt 1 0x48, 1), (0x5008, 1), (0x6008, 1), (0x500C, 1), (0x600C, 1)] with
  bus := b, mem := { MemState.reset with dram := [(0x40, 0x11), (0x41, 0x22)], ch0 := d } }
/-- A read of two bytes, and a write of two bytes. -/
def rdReq : BusReq := ⟨0, 1, false, 0x40, 2, none, false⟩
def wrReq : BusReq := ⟨0, 2, false, 0x41, 2, some [(0x55, true), (0x66, true)], false⟩
theorem test_bus_read : let s := dramed BusState.reset Drc.reset
    let t := after (.busRequest 0 1 false 0x40 2 none) s
    let u := after (.dramRead 0) t
    targetOf 0x40 = some 0 ∧ t.bus.outst = [(rdReq, none)] ∧ t.mem.ch0.rq = [rdReq] ∧ u.bus.rsp.getLast? = some ⟨0, 1, 0x40, [0x11, 0x22], false⟩ ∧
    u.bus.outst = [] ∧ (after (.busRequest 0 1 false 0x40 2 none) live).bus.rsp.getLast? = some ⟨0, 1, 0x40, [0, 0], false⟩ ∧
    (after (.busRequest 0 1 false 0xE800_0000 2 none) s).bus = s.bus := by decide +kernel
theorem test_bus_write : let t := after (.busRequest 0 2 false 0x41 2 (some [(0x55, true), (0x66, true)])) (dramed BusState.reset Drc.reset)
    let u := after (.dramWrite 0) t
    t.mem.ch0.wq = [wrReq] ∧ u.mem.dram = [(0x40, 0x11), (0x41, 0x55), (0x42, 0x66)] ∧ u.bus.rsp.getLast? = some ⟨0, 2, 0x41, [], false⟩ ∧
    Memory.wf u.mem = true := by decide +kernel
theorem test_shared_sram : let t := after (.busRequest 2 2 false 0xF000_0005 2 (some [(0x55, true), (0x66, false)])) (dramed BusState.reset Drc.reset)
    t.mem.shared = [(5, 0x55)] ∧ (after (.busRequest 2 3 false 0xF000_0005 1 none) t).bus.rsp.getLast? = some ⟨2, 3, 0xF000_0005, [0x55], false⟩ := by
  decide +kernel
theorem test_aged_fence : let t := after (.busRequest 0 1 false 0x40 2 none) (dramed BusState.reset Drc.reset)
    ((after .requestAged t).bus.outst.map (fun e => e.1.aged)) = [true] ∧ getB (after .requestAged t).fab (ra pBUS 0x10) 4 = true ∧
    (after .fenceDone (after .perstN (poke t [(0x58, 0)]))).bus.outst = [] ∧
    (after .perstN (poke t [(0x58, 0)])).bus.fences = [⟨0, none, pHST⟩] ∧
    (after .fenceDone (after .perstN (poke t [(0x58, 0)]))).bus.fences = [] := by decide +kernel
theorem test_batches : let d : Drc := { Drc.reset with wq := [wrReq], rq := [rdReq], batch := true }
    (after (.writeBatchEnd 0 true) (dramed BusState.reset d)).mem.ch0.readsFirst = true ∧
    (after (.writeBatchEnd 0 false) (dramed BusState.reset d)).mem.ch0.batch = false ∧
    (after (.dramRead 0) (dramed BusState.reset d)).mem.ch0.rq = [rdReq] := by decide +kernel
theorem test_refresh : (after (.dramRefresh 0 true) (dramed BusState.reset { Drc.reset with rq := [rdReq] })).mem.ch0.postponed = 1 ∧
    (after (.dramRefresh 0 true) (dramed BusState.reset { Drc.reset with rq := [rdReq], postponed := 4 })).mem.ch0.refBank = 5 ∧
    (after (.dramRefresh 0 false) (dramed BusState.reset Drc.reset)).mem.ch0.refBank = 1 := by decide +kernel
theorem test_dram_status : let s := dramed BusState.reset Drc.reset
    getB (after (.dramTempPoll 0 true false) s).fab (drcAt 0 0x48) 6 = true ∧ getF (after (.dramTracking 0 2000) s).fab (drcAt 0 0x74) 15 0 = 1000 ∧
    drcReady (after (.dramTrainEnd 1 true) (after (.drcEnable .host 1) live)).fab 1 = true ∧
    getB (after (.dramTrainEnd 1 false) (after (.drcEnable .host 1) live)).fab (drcAt 1 0x48) 2 = true := by decide +kernel
theorem test_scrub : let s := poke (dramed BusState.reset Drc.reset) [(drcAt 0 0x4C, 1)]
    let bad : State := { s with mem := { s.mem with ecc := [(4, ⟨[(1, 3)], false⟩)] } }
    rdN (after (.scrubLine 0) s).fab (drcAt 0 0x50) = 64 ∧ (after (.scrubLine 0) s).mem.dram = s.mem.dram ∧
    rdN (after (.scrubLine 0) (poke s [(drcAt 0 0x50, chanLines - 64)])).fab (drcAt 0 0x50) = 0 ∧
    cwBad ⟨[(1, 3)], false⟩ = false ∧ (after (.scrubLine 0) bad).mem.dram = s.mem.dram := by decide +kernel
/-- One bad symbol is corrected; a line with two in one codeword is left, its other codewords too. -/
theorem test_scrub_errors : let s (l : List (Nat × CwErr)) : State := { poke (dramed BusState.reset Drc.reset) [(drcAt 0 0x4C, 1)] with
      mem := { (dramed BusState.reset Drc.reset).mem with ecc := l } }
    (after (.scrubLine 0) (s [(1, ⟨[(1, 3)], false⟩)])).mem.ecc = [] ∧ cwBad ⟨[(1, 3), (2, 3)], false⟩ = true ∧
    (after (.scrubLine 0) (s [(0, ⟨[(1, 3)], false⟩), (1, ⟨[(1, 3), (2, 3)], false⟩)])).mem.ecc.length = 2 := by decide +kernel
/-- A tracking waits for the batch to end. -/
theorem test_tracking_waits : let t := after (.dramTracking 0 700) (dramed BusState.reset { Drc.reset with wq := [wrReq], rq := [rdReq], batch := true })
    t.mem.ch0.track = some 700 ∧ getF t.fab (drcAt 0 0x74) 15 0 = 0 ∧
    getF (after (.writeBatchEnd 0 true) t).fab (drcAt 0 0x74) 15 0 = 700 := by decide +kernel
theorem test_injection : rdN (after (.injArm .host 0 0) (dramed BusState.reset Drc.reset)).fab (ra (pDRC 0) 0x20) = 0x100 ∧
    getB (after (.injArm .host 0 0x0100_0001) (dramed BusState.reset Drc.reset)).fab (drcAt 0 0x70) 0 = true := by decide +kernel
theorem test_sram_patrol : rdN (after (.sramPatrol 5 9 (some false)) live).fab (ra pBUS 0xE4) = 1 ∧
    rdN (after (.sramPatrol 5 9 (some false)) live).fab (ra pBUS 0xE8) = 0x8500_0009 ∧
    rdN (after (.sramPatrol 5 9 (some true)) live).fab (ra pBUS 0xE0) = 1 ∧ after (.sramPatrol 5 9 none) live = live := by decide +kernel

-- Power, temperature, boost

/-- The device in a power state with every wake source enabled. -/
def sleeping (p : PState) (w : BitVec 5) : State := { poke live [(0x1064, 0x1F), (0x106C, 5)] with pwr := { live.pwr with state := p, wakePend := w } }
theorem test_wake_sources : (after .wakeNFall (sleeping .retain 0)).pwr.wakePend = 1 ∧ (after .qsCsNFall (sleeping .deep 0)).pwr.wakePend = 2 ∧
    (after .wakeNFall (sleeping .active 0)).pwr.wakePend = 0 ∧ (after (.wakeTempSample 0x7FFF) (sleeping .retain 0)).pwr.wakePend = 8 ∧
    (after (.wakeTempSample 0x8000) (sleeping .retain 0)).pwr.wakePend = 0 ∧ (after .aonTimerExpire (sleeping .retain 0)).pwr.wakePend = 16 ∧
    rdN (after .aonTimerExpire (sleeping .retain 0)).fab 0x106C = 0 := by decide +kernel
theorem test_wake_retain : let t := after .wakeRetain (sleeping .retain 4)
    t.pwr.state = .active ∧ rdN t.fab 0x1068 = 4 ∧ rdN t.fab 0x10B8 = 1 ∧ (after .wakeRetain (sleeping .retain 0)).pwr.state = .retain := by decide +kernel
theorem test_wake_deep : let t := after (.wakeDeep (straps 1800)) (sleeping .deep 1)
    t.pwr.state = .active ∧ rdN t.fab 0x4C = 17 ∧ t.pwr.locked = false ∧ (after (.wakeDeep (straps 1800)) (sleeping .deep 0)).pwr.state = .deep := by
  decide +kernel
theorem test_retain_scrub : let s := sleeping .retain 0
    after .retainScrubExcursion live = live ∧ (after .retainScrubExcursion { s with mem := { s.mem with dram := [(7, 7)] } }).mem.dram = [(7, 7)] := by
  decide +kernel
/-- Eight sensors at one code. -/
def hot (c : Int) : List Int := List.replicate 8 c
theorem test_thermal : rdN (after (.thermalSample (hot 400)) live).fab 0x2040 = 400 ∧ thmLevel (after (.thermalSample (hot 400)) live).fab = 0 ∧
    levelFor 1000 = 4 ∧ thmLevel (after (.thermalSample (hot 1000)) live).fab = 4 ∧ shutLatch (after (.thermalSample (hot 1000)) live).fab = true ∧
    rdN (after (.shutClr .host) (after (.thermalSample (hot 1000)) live)).fab (ra pTHM 0x20) = 0x100 ∧
    shutLatch (after (.shutClr .host) (after (.thermalSample (hot 800)) (after (.thermalSample (hot 1000)) live))).fab = false := by decide +kernel
theorem test_release : thmLevel (after .thermalRelease live).fab = 0 := by decide +kernel
theorem test_shed : rdN (after (.shedForceWrite .host 7) live).fab 0x10A0 = 7 ∧ rdN (after (.shedForceWrite .host 7) live).fab 0x10A4 % 8 = 7 := by
  decide +kernel
/-- Boost granted, with a current limit of 100. -/
def boosted : State := { poke live [(0x1094, 100), (ra pDSH 0x44, 1), (ra pDSH 0x48, 1200)] with pwr := { live.pwr with boost := true } }
theorem test_boost_grant : let s := poke live [(ra pDSH 0x40, 1), (0x1090, 1)]
    boostOk s.fab s.pwr = true ∧ (after .boostGrant s).pwr.boost = true ∧ rdN (after .boostGrant s).fab (ra pDSH 0x48) = 1200 ∧
    after .boostGrant live = live := by decide +kernel
theorem test_boost_loss : (after (.currentLimit 101) boosted).pwr.boost = false ∧ (after (.currentLimit 101) boosted).pwr.holdoff = true ∧
    (after (.currentLimit 101) (poke live [(0x1094, 100)])).pwr.holdoff = true ∧ (after (.currentLimit 100) boosted).pwr.boost = true ∧ rdN (after .vddDsLow boosted).fab (ra pDSH 0x48) = 1000 ∧
    getB (after .vddDsLow boosted).fab 0x1010 3 = true ∧ (after .boostHoldoffEnd (after (.currentLimit 101) boosted)).pwr.holdoff = false := by decide +kernel

-- Observation

/-- A crumb waits on the TB page. -/
def crumbed : State := onF live (fun f => { f with crumbQ := [(pTB, [5])] })
theorem test_crumb : let t := after (.crumbWrite ⟨pTB, by decide⟩) (poke crumbed [(ra pOBS 0x40, 0xD00)])
    t.fab.ring = [(0, 5)] ∧ crumbsOf t.fab pTB = [] ∧ getF t.fab (ra pOBS 0x4C) 23 0 = 1 ∧
    (after (.crumbWrite ⟨pTB, by decide⟩) (poke crumbed [(ra pOBS 0x54, 2)])).fab.fifo = [5] := by decide +kernel
theorem test_lost : let s := onF live (fun f => { f with lost := [(pTB, 3)] })
    (crumbsOf (after (.lostCrumb ⟨pTB, by decide⟩) s).fab pTB).length = 1 ∧ (after (.lostCrumb ⟨pTB, by decide⟩) s).fab.lost = [] ∧
    after (.lostCrumb ⟨pTB, by decide⟩) live = live := by decide +kernel
theorem test_mark : (crumbsOf (after (.markHi .host 0x12) live).fab pOBS).length = 1 ∧
    crumbsOf (after (.markHi .host 0x12) (poke live [(ra pOBS 0x08, 0)])).fab pOBS = [] := by decide +kernel
theorem test_partial_line : let s := onF (dramed BusState.reset Drc.reset) (fun f => { wrN f (ra pOBS 0x40) 1 with ringLine := [(0, 5)] })
    (after .partialLineTimeout s).fab.ringLine = [] ∧ getF (after .partialLineTimeout s).fab (ra pOBS 0x4C) 23 0 = 1 ∧
    after .partialLineTimeout live = live := by decide +kernel
theorem test_counters : let s := onF live (fun f => { f with cnt := [(4, 9)] })
    (after (.cntSnap .host 3) s).fab.cntShadow = [(4, 9)] ∧ (after (.cntSnap .host 3) s).fab.cnt = [] ∧ (after (.cntSnap .host 0) s).fab.cntShadow = [] := by
  decide +kernel
theorem test_meters : let t := after (.loadMeterUpdate [1, 2, 3, 4, 5, 6, 7, 8, 9]) live
    getF t.fab (ra pOBS 0x104) 15 0 = 2 ∧ getF t.fab (ra pOBS 0x104) 31 16 = 2 ∧ rdN t.fab (ra pOBS 0x100) = 0 := by decide +kernel
theorem test_oc_data : let s := onF live (fun f => { f with ring := [(0, BitVec.ofNat 128 (1 + 2 * 2 ^ 32 + 3 * 2 ^ 64 + 4 * 2 ^ 96))] })
    mget zeroN (after (.ocDataRead .host) s).fab.rdata 0 = 1 ∧ (held (after (.ocDataRead .host) s).fab 0).map (·.2) = [2, 3, 4] := by decide +kernel

end Sys2Proof.Tests
end

section
/-! SUPPORT. Writes of SYS.SESSION_CFG (R29): what the command does, and the refusal of a write that a session, a pending
start or a reserved BLOCK code forbids. test_session_config runs the refusal in a session and of a reserved code. -/
namespace Sys2Proof.Machine

/-- SESSION_CFG_WRITE writes the register through the islands that are up. -/
theorem exec_sessionCfgWrite (q : Req) (v : Word) (s : State) :
    exec (.sessionCfgWrite q v) s = whenUp s (onF s (fun f => sessionCfgWrite f v)) := rfl

/-- Each of R29's three causes closes the guard of the write, whatever the other two are. -/
theorem sessionCfgWrite_rejected (f : Fabric) (v : Word) (hready : ready f pSYS = true)
    (hcause : running f = true ∨ startPending f = true ∨ 5 < fld v 6 4) : sessionCfgWrite f v = putB f 0x104 8 true := by
  have hguard : (running f || startPending f || decide (5 < fld v 6 4)) = true := by
    rcases hcause with hrun | hpend | hblock
    · simp [hrun]
    · simp [hpend]
    · simp [hblock]
  simp [sessionCfgWrite, hready, hguard]

/-- SESSION_CFG keeps its value when a bit of SESSION_STAT is written. -/
theorem rdR_sessionCfg_putB_sessionStat (f : Fabric) (n : Nat) (b : Bool) : rdR (putB f 0x104 n b) 0x100 = rdR f 0x100 :=
  rdR_wrR_ne f 0x104 0x100 _ (by decide)

/-- Settles O12: the write takes the rejecting branch, which sets CFG_REJ in SESSION_STAT and leaves every other register. -/
theorem rejectedSessionConfigChangesNothing : Obligations.RejectedSessionConfigChangesNothing := by
  intro q v s hup hready hcause
  refine ⟨?_, rdR_sessionCfg_putB_sessionStat s.fab 8 true, getB_putB s.fab 0x104 8 true (by decide)⟩
  rw [exec_sessionCfgWrite, whenUp_up _ _ hup, onF, sessionCfgWrite_rejected s.fab v hready hcause]

end Sys2Proof.Machine
end

section
/-! SUPPORT. Writes of HST.VEC_EOI (R60, R61): what serving a vector does for each state of its cause and its mask bit, and the
message or pending bit of a cause that waits when its vector is re-armed. test_vec_eoi runs a vector with no cause, and a waiting
cause both unmasked and masked. -/
namespace Sys2Proof.Machine

/-- VEC_EOI acts on the fabric through the islands that are up. -/
theorem exec_vecEoi (q : Req) (v : Word) (s : State) : exec (.vecEoi q v) s = whenUp s (onF s (fun f => vecEoi f v)) := rfl

/-- The fabric with vector n armed, as a write of VEC_EOI leaves it before the vector is served (vecEoi_ready). -/
def armVec (f : Fabric) (n : Nat) : Fabric := { f with armed := f.armed ||| (1#64 <<< n) }

/-- A vector is armed once its bit is set, whatever it was before. -/
theorem armed_armVec (f : Fabric) (n : Nat) (hn : n < 64) : (armVec f n).armed.getLsbD n = true := by
  simp [armVec, hn]

theorem vecEoi_notReady (f : Fabric) (v : Word) (hready : ready f pHST = false) : vecEoi f v = fail f pHST 1 0x54 := by
  simp [vecEoi, hready]

/-- On a ready page the write arms its vector and then serves it. -/
theorem vecEoi_ready (f : Fabric) (v : Word) (hready : ready f pHST = true) :
    vecEoi f v = serviceVec (armVec f (fld v 5 0)) (fld v 5 0) := by
  simp [vecEoi, hready, armVec]

theorem serviceVec_noCause (f : Fabric) (n : Nat) (hcause : vecCause f n = false) : serviceVec f n = f := by
  simp [serviceVec, hcause]

theorem serviceVec_unmasked (f : Fabric) (n : Nat) (harmed : f.armed.getLsbD n = true) (hcause : vecCause f n = true)
    (hmask : getB f (ra pHST (0x80C + 16 * n)) 0 = false) :
    serviceVec f n = { f with
      armed := f.armed &&& ~~~(1#64 <<< n)
      msgs := f.msgs ++ [⟨n, rdN f (ra pHST (0x804 + 16 * n)) * 2 ^ 32 + rdN f (ra pHST (0x800 + 16 * n)),
        rdN f (ra pHST (0x808 + 16 * n))⟩] } := by
  rw [serviceVec, if_pos (by rw [harmed, hcause]; rfl)]
  exact if_neg (ne_true_of_eq_false hmask)

theorem serviceVec_masked (f : Fabric) (n : Nat) (harmed : f.armed.getLsbD n = true) (hcause : vecCause f n = true)
    (hmask : getB f (ra pHST (0x80C + 16 * n)) 0 = true) :
    serviceVec f n = putB { f with armed := f.armed &&& ~~~(1#64 <<< n) } (ra pHST (0xC00 + 4 * (n / 32))) (n % 32) true := by
  rw [serviceVec, if_pos (by rw [harmed, hcause]; rfl)]
  exact if_pos hmask

/-- Settles O24: the write arms its vector and serves it at once, so a cause that waited sends its message or sets its pending bit
and disarms the vector again, and without a cause the vector stays armed. -/
theorem rearmingSendsAWaitingCause : Obligations.RearmingSendsAWaitingCause := by
  intro q v s hup
  dsimp only
  rw [exec_vecEoi, whenUp_up _ _ hup, onF]
  have harmed := armed_armVec s.fab (fld v 5 0) (fld_lt v 5 0)
  refine ⟨fun hready => ?notReady, fun hready hcause => ?noCause, fun hready hcause => ⟨_, rfl, rfl, ?waiting⟩⟩
  case notReady => rw [vecEoi_notReady s.fab v hready, failOn, onF]
  case noCause => rw [vecEoi_ready s.fab v hready, serviceVec_noCause (armVec s.fab _) _ hcause, armVec]
  case waiting =>
    dsimp only
    rw [vecEoi_ready s.fab v hready]
    cases hmask : getB s.fab (ra pHST (0x80C + 16 * fld v 5 0)) 0 with
    | false =>
      rw [serviceVec_unmasked (armVec s.fab _) _ harmed hcause hmask]
      exact ⟨rfl, fun _ => ⟨rfl, fun _ => rfl⟩, nofun⟩
    | true =>
      rw [serviceVec_masked (armVec s.fab _) _ harmed hcause hmask]
      have hbit : fld v 5 0 % 32 < 32 := Nat.mod_lt _ (by decide)
      exact ⟨rfl, nofun, fun _ => ⟨rfl, getB_putB _ _ _ true hbit, fun a ha => rdR_wrR_ne _ _ a _ ha⟩⟩

end Sys2Proof.Machine
end

section
/-! SUPPORT. Writes of the counter-clear registers (R141). The list of counters a bit selects depends on the fabric only on
page STRM[0], where bit 0 precedes bit 1 and writes registers below all those of bit 1, so the clears of the earlier bits leave
the list of a later bit as it was before the write. test_counter_clear runs a cleared counter that is incremented in the same
cycle beside one whose bit is not set. -/
namespace Sys2Proof.Machine

-- Keys of a sparse map past the one written

theorem filter_keys_mpast {α : Type} (m : List (Nat × α)) (k : Nat) (q : Nat → Bool) (h : ∀ a, q a = true → k < a) :
    ((mpast m k).map (·.1)).filter q = (m.map (·.1)).filter q := by
  induction m with
  | nil => rfl
  | cons e r ih =>
    obtain ⟨k', v⟩ := e
    by_cases hk : k' ≤ k
    · have hq : q k' = false := Bool.eq_false_iff.mpr fun hq => by have := h k' hq; omega
      simp [mpast, hk, hq, ih]
    · simp [mpast, hk]

/-- A write leaves the keys past its own, whether or not the list is in canonical form. -/
theorem filter_keys_mset {α : Type} [DecidableEq α] (d : Nat → α) (m : List (Nat × α)) (k : Nat) (v : α) (q : Nat → Bool)
    (h : ∀ a, q a = true → k < a) : ((mset d m k v).map (·.1)).filter q = (m.map (·.1)).filter q := by
  have hk : q k = false := Bool.eq_false_iff.mpr fun hk => by have := h k hk; omega
  induction m with
  | nil => by_cases hv : v = d k <;> simp [mset, hv, hk]
  | cons e r ih =>
    obtain ⟨k', v'⟩ := e
    rcases Nat.lt_trichotomy k' k with hlt | rfl | hgt
    · simp [mset, hlt, List.filter_cons, ih]
    · by_cases hv : v = d k'
      · simp [mset, hv, hk, filter_keys_mpast r k' q h]
      · simp [mset, hv, hk]
    · have h1 : ¬k' < k := by omega
      have h2 : ¬k' = k := by omega
      by_cases hv : v = d k <;> simp [mset, h1, h2, hv, hk]

-- The counters a bit selects

theorem pageOf_le_of_strmCounter_zero (a : Nat) (h : strmCounter 0 a = true) : pageOf a ≤ 21 := by
  simp only [strmCounter, if_true, Bool.and_eq_true, decide_eq_true_eq] at h
  obtain ⟨⟨⟨-, hlast⟩, -⟩, -⟩ := h
  exact hlast

theorem le_pageOf_of_strmCounter_one (a : Nat) (h : strmCounter 1 a = true) : 22 ≤ pageOf a := by
  simp only [strmCounter, Nat.one_ne_zero, if_false, Bool.and_eq_true, decide_eq_true_eq] at h
  obtain ⟨⟨⟨hfirst, -⟩, -⟩, -⟩ := h
  exact hfirst

/-- The counters of the RX streams lie below those of the TX streams. -/
theorem strmCounter_lt (a b : Nat) (hb : strmCounter 0 b = true) (ha : strmCounter 1 a = true) : b < a := by
  have hpb := pageOf_le_of_strmCounter_zero b hb
  have hpa := le_pageOf_of_strmCounter_one a ha
  unfold pageOf at hpa hpb
  omega

theorem clearList_strm (f : Fabric) (p i : Nat) (hp : blockOf p = some (.STRM, 0)) :
    clearList f p i = if i < 2 then (f.regs.map (·.1)).filter (strmCounter i) else [] := by
  simp [clearList, hp]

/-- On every page but STRM[0] the counters of a bit are fixed. -/
theorem clearList_fixed (f g : Fabric) (p i : Nat) (hp : blockOf p ≠ some (.STRM, 0)) : clearList f p i = clearList g p i := by
  unfold clearList
  split
  · exact absurd ‹_› hp
  · rfl
  · rfl

/-- A write of a counter of an earlier bit leaves the list of a later one. -/
theorem clearList_wrN (f g : Fabric) (p i j b x : Nat) (hij : i < j) (hb : b ∈ clearList g p i) :
    clearList (wrN f b x) p j = clearList f p j := by
  by_cases hp : blockOf p = some (.STRM, 0)
  · rw [clearList_strm _ p j hp, clearList_strm _ p j hp]
    by_cases hj : j < 2
    · obtain ⟨rfl, rfl⟩ : i = 0 ∧ j = 1 := by omega
      have hb0 : strmCounter 0 b = true := by
        rw [clearList_strm g p 0 hp] at hb
        exact (List.mem_filter.mp hb).2
      rw [if_pos hj, if_pos hj]
      exact filter_keys_mset regReset f.regs b _ (strmCounter 1) (fun a ha => strmCounter_lt a b hb0 ha)
    · rw [if_neg hj, if_neg hj]
  · exact clearList_fixed _ _ p j hp

-- Writing one value to a list of registers

theorem rdR_foldl_wrN (l : List Nat) (f : Fabric) (a x : Nat) :
    rdR (l.foldl (fun f b => wrN f b x) f) a = if a ∈ l then BitVec.ofNat 32 x else rdR f a := by
  induction l generalizing f with
  | nil => rfl
  | cons b l ih =>
    rw [List.foldl_cons, ih, rdR_wrN]
    by_cases hl : a ∈ l <;> simp [hl]

theorem clearList_foldl_wrN (l : List Nat) (f g : Fabric) (p i j x : Nat) (hij : i < j) (hl : ∀ b ∈ l, b ∈ clearList g p i) :
    clearList (l.foldl (fun f b => wrN f b x) f) p j = clearList f p j := by
  induction l generalizing f with
  | nil => rfl
  | cons b l ih =>
    obtain ⟨hb, hl⟩ := List.forall_mem_cons.mp hl
    rw [List.foldl_cons, ih (wrN f b x) hl, clearList_wrN f g p i j b x hij hb]

-- One bit of the written word

/-- What bit i of a counter-clear write does to the counters l that it selects (counterClear_eq). -/
def clearBit (l : List Nat) (v inc : Word) (f : Fabric) (i : Nat) : Fabric :=
  if bit v i then l.foldl (fun f a => wrN f a (bit inc i).toNat) f else f

theorem rdR_clearBit_out (l : List Nat) (v inc : Word) (f : Fabric) (i a : Nat) (h : bit v i = true → a ∉ l) :
    rdR (clearBit l v inc f i) a = rdR f a := by
  unfold clearBit
  split
  next hv => rw [rdR_foldl_wrN, if_neg (h hv)]
  next => rfl

theorem rdN_clearBit_in (l : List Nat) (v inc : Word) (f : Fabric) (i a : Nat) (hv : bit v i = true) (ha : a ∈ l) :
    rdN (clearBit l v inc f i) a = (bit inc i).toNat := by
  rw [clearBit, if_pos hv, rdN, rdR_foldl_wrN, if_pos ha]
  cases bit inc i <;> rfl

theorem clearList_clearBit (v inc : Word) (f : Fabric) (p i j : Nat) (hij : i < j) :
    clearList (clearBit (clearList f p i) v inc f i) p j = clearList f p j := by
  unfold clearBit
  split
  · exact clearList_foldl_wrN (clearList f p i) f f p i j _ hij (fun _ hb => hb)
  · rfl

-- The bits in turn

/-- Bits taken in rising order may each use the list they have before the first of them acts. -/
theorem foldl_clearBit_eq (L : Nat → List Nat) (p : Nat) (v inc : Word) (l : List Nat) (f : Fabric)
    (hl : l.Pairwise (· < ·)) (hL : ∀ i ∈ l, clearList f p i = L i) :
    l.foldl (fun g i => clearBit (clearList g p i) v inc g i) f = l.foldl (fun g i => clearBit (L i) v inc g i) f := by
  induction l generalizing f with
  | nil => rfl
  | cons i l ih =>
    obtain ⟨hi, hl⟩ := List.pairwise_cons.mp hl
    obtain ⟨hLi, hL⟩ := List.forall_mem_cons.mp hL
    rw [List.foldl_cons, List.foldl_cons, ← hLi]
    exact ih _ hl (fun j hj => (clearList_clearBit v inc f p i j (hi j hj)).trans (hL j hj))

/-- A counter-clear write clears, bit by bit, the counters selected in the fabric before it. -/
theorem counterClear_eq (f : Fabric) (p : Nat) (v inc : Word) :
    counterClear f p v inc = (List.range 10).foldl (fun g i => clearBit (clearList f p i) v inc g i) f :=
  foldl_clearBit_eq (clearList f p) p v inc (List.range 10) f List.pairwise_lt_range (fun _ _ => rfl)

theorem rdR_foldl_clearBit_out (L : Nat → List Nat) (v inc : Word) (l : List Nat) (f : Fabric) (a : Nat)
    (h : ∀ i ∈ l, bit v i = true → a ∉ L i) : rdR (l.foldl (fun g i => clearBit (L i) v inc g i) f) a = rdR f a := by
  induction l generalizing f with
  | nil => rfl
  | cons i l ih =>
    obtain ⟨hi, hl⟩ := List.forall_mem_cons.mp h
    rw [List.foldl_cons, ih _ hl, rdR_clearBit_out (L i) v inc f i a hi]

/-- A register that one bit alone selects reads as that bit leaves it, since the bits after it do not touch it. -/
theorem rdN_foldl_clearBit_in (L : Nat → List Nat) (v inc : Word) (l : List Nat) (f : Fabric) (i a : Nat) (hl : l.Nodup) (hi : i ∈ l)
    (hv : bit v i = true) (ha : a ∈ L i) (hother : ∀ j ∈ l, j ≠ i → a ∉ L j) :
    rdN (l.foldl (fun g i => clearBit (L i) v inc g i) f) a = (bit inc i).toNat := by
  obtain ⟨before, after, rfl⟩ := List.append_of_mem hi
  have hafter : i ∉ after := (List.nodup_cons.mp (List.nodup_append.mp hl).2.1).1
  have hout : ∀ j ∈ after, bit v j = true → a ∉ L j := fun j hj _ =>
    hother j (List.mem_append_right _ (List.mem_cons_of_mem _ hj)) (fun e => hafter (e ▸ hj))
  rw [List.foldl_append, List.foldl_cons, rdN, rdR_foldl_clearBit_out L v inc after _ a hout]
  exact rdN_clearBit_in (L i) v inc _ i a hv ha

theorem rdR_counterClear_out (f : Fabric) (p : Nat) (v inc : Word) (a : Nat)
    (h : ∀ i, i < 10 → bit v i = true → a ∉ clearList f p i) : rdR (counterClear f p v inc) a = rdR f a := by
  rw [counterClear_eq]
  exact rdR_foldl_clearBit_out _ v inc _ f a (fun i hi => h i (List.mem_range.mp hi))

theorem rdN_counterClear_in (f : Fabric) (p : Nat) (v inc : Word) (i a : Nat) (hi : i < 10) (hv : bit v i = true)
    (ha : a ∈ clearList f p i) (hother : ∀ j, j < 10 → j ≠ i → a ∉ clearList f p j) :
    rdN (counterClear f p v inc) a = (bit inc i).toNat := by
  rw [counterClear_eq]
  exact rdN_foldl_clearBit_in _ v inc _ f i a List.nodup_range (List.mem_range.mpr hi) hv ha
    (fun j hj => hother j (List.mem_range.mp hj))

-- The command

/-- A page without a counter-clear register has no such write. -/
theorem exec_counterClear_none (q : Req) (p : Fin 1024) (v inc : Word) (s : State) (hoff : clearOff p = none) :
    exec (.counterClear q p v inc) s = .next s := by
  change execCounterClear q p v inc s = .next s
  simp [execCounterClear, hoff]

/-- On a page with one it is a register write that clears the counters. -/
theorem exec_counterClear_some (q : Req) (p : Fin 1024) (v inc : Word) (s : State) (off : Nat) (hoff : clearOff p = some off) :
    exec (.counterClear q p v inc) s = whenReg s p off (onF s (fun f => counterClear f p v inc)) := by
  change execCounterClear q p v inc s = _
  simp [execCounterClear, hoff]

/-- Settles O23: every bit of the write acts on the counters it selected before the write, so a counter that one bit alone selects
ends as that bit leaves it. -/
theorem countersClear : Obligations.CountersClear := by
  intro q p v inc s hup
  refine ⟨fun hoff => ?noRegister, fun off hoff htakes => ?refused, fun off hoff htakes => ?cleared⟩
  case noRegister => exact exec_counterClear_none q p v inc s hoff
  case refused => rw [exec_counterClear_some q p v inc s off hoff, whenReg_refuses _ _ _ _ hup htakes]
  case cleared =>
    rw [exec_counterClear_some q p v inc s off hoff, whenReg_takes _ _ _ _ hup htakes]
    exact ⟨_, rfl, rfl, rdR_counterClear_out s.fab p v inc, rdN_counterClear_in s.fab p v inc⟩

end Sys2Proof.Machine
end

section
/-! SUPPORT. Feeds of a check-value context (R454, R455): a value below 2^WIDTH survives its storage in VAL, every feed stays below
2^WIDTH, and a write of VAL leaves the settings of the context and what lets it be fed, so a second feed continues from the first.
test_crc32c runs LOAD_INIT, FEED_W and FEED_B by two requesters. -/
namespace Sys2Proof.Machine

-- Values below 2^WIDTH

theorem crcPair_lt (f : Fabric) (c off : Nat) : crcPair f c off < 2 ^ crcW f c := Nat.mod_lt _ (by positivity)

theorem crcBit_lt (w poly val b : Nat) (hpoly : poly < 2 ^ w) : crcBit w poly val b < 2 ^ w := by
  have hshift : val * 2 % 2 ^ w < 2 ^ w := Nat.mod_lt _ (by positivity)
  simp only [crcBit]
  split
  · exact Nat.xor_lt_two_pow hshift hpoly
  · exact hshift

theorem crcFeed_lt (w poly : Nat) (refin : Bool) (val byte : Nat) (hpoly : poly < 2 ^ w) (hval : val < 2 ^ w) :
    crcFeed w poly refin val byte < 2 ^ w :=
  List.foldlRecOn (motive := (· < 2 ^ w)) _ _ hval (fun v _ _ _ => crcBit_lt w poly v _ hpoly)

theorem crcFeeds_lt (f : Fabric) (c val : Nat) (l : List Nat) (hval : val < 2 ^ crcW f c) : crcFeeds f c val l < 2 ^ crcW f c :=
  List.foldlRecOn (motive := (· < 2 ^ crcW f c)) _ _ hval (fun v hv b _ => crcFeed_lt _ _ _ v b (crcPair_lt f c 0x04) hv)

theorem crcFeeds_append (f : Fabric) (c val : Nat) (l l' : List Nat) :
    crcFeeds f c val (l ++ l') = crcFeeds f c (crcFeeds f c val l) l' := List.foldl_append

-- A write of VAL

theorem rdR_crcPut_val (f : Fabric) (c v a : Nat) (hlo : a ≠ crcAt c 0x1C) (hhi : a ≠ crcAt c 0x20) :
    rdR (crcPut f c 0x1C v) a = rdR f a := by
  rw [crcPut, rdR_wrN, if_neg hhi, rdR_wrN, if_neg hlo]

theorem crcPut_val_touches (f : Fabric) (c v : Nat) : Touches [crcAt c 0x1C, crcAt c 0x20] f (crcPut f c 0x1C v) :=
  (wrN_calm _ f _ v (.inr (by simp))).trans (wrN_calm _ _ _ _ (.inr (by simp)))

/-- The registers of a context below VAL keep their values. -/
theorem rdR_crcPut_setting (f : Fabric) (c v off : Nat) (hoff : off < 0x1C) :
    rdR (crcPut f c 0x1C v) (crcAt c off) = rdR f (crcAt c off) :=
  rdR_crcPut_val f c v _ (by simp only [crcAt, ra]; omega) (by simp only [crcAt, ra]; omega)

@[simp] theorem crcW_crcPut_val (f : Fabric) (c v : Nat) : crcW (crcPut f c 0x1C v) c = crcW f c := by
  rw [crcW, getF, rdR_crcPut_setting f c v 0 (by decide)]
  rfl

theorem crcPair_crcPut_setting (f : Fabric) (c v off : Nat) (hoff : off < 0x18) :
    crcPair (crcPut f c 0x1C v) c off = crcPair f c off := by
  rw [crcPair, crcPair, rdN, rdN, rdR_crcPut_setting f c v off (by omega), rdR_crcPut_setting f c v (off + 4) (by omega),
    crcW_crcPut_val]
  rfl

theorem crcFeeds_crcPut_val (f : Fabric) (c v val : Nat) (l : List Nat) :
    crcFeeds (crcPut f c 0x1C v) c val l = crcFeeds f c val l := by
  rw [crcFeeds, crcPair_crcPut_setting f c v 0x04 (by decide), crcW_crcPut_val, getB, rdR_crcPut_setting f c v 0 (by decide)]
  rfl

/-- Two words hold every value below 2^64, so VAL reads as it was written. -/
theorem crcPair_crcPut_val (f : Fabric) (c v : Nat) (hv : v < 2 ^ crcW f c) (hw : crcW f c ≤ 64) :
    crcPair (crcPut f c 0x1C v) c 0x1C = v := by
  have hv64 : v < 2 ^ 64 := hv.trans_le (Nat.pow_le_pow_right (by decide) hw)
  have hlo : rdN (crcPut f c 0x1C v) (crcAt c 0x1C) = v % 2 ^ 32 := by
    rw [crcPut, rdN, rdR_wrN, if_neg (by simp [crcAt, ra]), rdR_wrN, if_pos rfl, BitVec.toNat_ofNat]
  have hhi : rdN (crcPut f c 0x1C v) (crcAt c (0x1C + 4)) = v / 2 ^ 32 := by
    rw [crcPut, rdN, rdR_wrN, if_pos rfl, BitVec.toNat_ofNat]
    exact Nat.mod_eq_of_lt (by omega)
  rw [crcPair, hlo, hhi, crcW_crcPut_val, Nat.div_add_mod', Nat.mod_eq_of_lt hv]

-- A context that takes feeds

/-- What a register feed of context c needs: its page takes writes and is enabled, and no FEED runs on the context (crcRegFeed_free). -/
structure TakesFeeds (f : Fabric) (c : Nat) : Prop where
  writes : takesWrites f pCRCU = true
  enabled : enabled f pCRCU = true
  free : ¬(opRunning f .feed = true ∧ getF f 0xA054 2 0 = c)

/-- The registers of the page below its contexts, among them its head and those of FEED, lie apart from VAL. -/
theorem rdR_crcPut_page (f : Fabric) (c v a : Nat) (ha : a < ra pCRCU 0x100) : rdR (crcPut f c 0x1C v) a = rdR f a := by
  simp only [ra, pCRCU] at ha
  exact rdR_crcPut_val f c v a (by simp only [crcAt, ra, pCRCU]; omega) (by simp only [crcAt, ra, pCRCU]; omega)

theorem takesFeeds_crcPut_val (f : Fabric) (c v : Nat) (h : TakesFeeds f c) : TakesFeeds (crcPut f c 0x1C v) c := by
  have page (a : Nat) (ha : a < ra pCRCU 0x100) := rdR_crcPut_page f c v a ha
  refine ⟨?writes, ?enabled, ?free⟩
  case writes =>
    rw [← h.writes]
    exact congrArg (bit · 0) (page (ra pCRCU 0x0C) (by decide))
  case enabled =>
    rw [← h.enabled]
    exact congrArg (bit · 0) (page (ra pCRCU 0x08) (by decide))
  case free =>
    rw [opRunning, opResult, getF, getF, page _ (by decide), page _ (by decide)]
    exact h.free

theorem crcRegFeed_free (f : Fabric) (c off : Nat) (l : List Nat) (h : TakesFeeds f c) :
    crcRegFeed f c off l = crcPut f c 0x1C (crcFeeds f c (crcPair f c 0x1C) l) := by
  simp only [crcRegFeed, h.enabled, if_neg h.free]
  rfl

-- The commands

/-- The state after the bytes l are fed to context c (exec_feedB, exec_feedW). -/
def fed (s : State) (c : Nat) (l : List Nat) : State := onF s (fun f => crcPut f c 0x1C (crcFeeds f c (crcPair f c 0x1C) l))

theorem exec_feedB (q : Req) (c : Fin 8) (v : Word) (s : State) (hup : isUp s = true) (h : TakesFeeds s.fab c) :
    exec (.feedB q c v) s = .next (fed s c [v.toNat % 256]) := by
  change execFeedB q c v s = _
  rw [execFeedB, whenReg_takes _ _ _ _ hup h.writes, onF, crcRegFeed_free _ _ _ _ h]
  rfl

/-- The bytes of FEED_W as R455 orders them; the fourth needs no mask. -/
theorem feedWBytes_eq (w : Word) :
    feedWBytes w = [w.toNat % 256, w.toNat / 2 ^ 8 % 256, w.toNat / 2 ^ 16 % 256, w.toNat / 2 ^ 24] := by
  have htop : w.toNat / 2 ^ 24 % 256 = w.toNat / 2 ^ 24 := Nat.mod_eq_of_lt (by have := w.isLt; omega)
  rw [← htop]
  simp [feedWBytes, fld, Nat.shiftRight_eq_div_pow]

theorem exec_feedW (q : Req) (c : Fin 8) (v : Word) (s : State) (hup : isUp s = true) (h : TakesFeeds s.fab c) :
    exec (.feedW q c v) s =
      .next (fed s c [v.toNat % 256, v.toNat / 2 ^ 8 % 256, v.toNat / 2 ^ 16 % 256, v.toNat / 2 ^ 24]) := by
  change execFeedW q c v s = _
  rw [execFeedW, whenReg_takes _ _ _ _ hup h.writes, onF, crcRegFeed_free _ _ _ _ h, feedWBytes_eq]
  rfl

theorem exec_loadInit (q : Req) (c : Fin 8) (s : State) (hup : isUp s = true) (h : takesWrites s.fab pCRCU = true) :
    exec (.loadInit q c) s = .next (onF s (fun f => crcLoadInit f c)) := whenReg_takes s _ pCRCU _ hup h

theorem val_fed (s : State) (c : Nat) (l : List Nat) (hw : crcW s.fab c ≤ 64) :
    crcPair (fed s c l).fab c 0x1C = crcFeeds s.fab c (crcPair s.fab c 0x1C) l :=
  crcPair_crcPut_val s.fab c _ (crcFeeds_lt s.fab c _ l (crcPair_lt s.fab c 0x1C)) hw

/-- The second feed meets the settings of the first and starts from its value. -/
theorem val_fed_fed (s : State) (c : Nat) (l l' : List Nat) (hw : crcW s.fab c ≤ 64) :
    crcPair (fed (fed s c l) c l').fab c 0x1C = crcFeeds s.fab c (crcPair s.fab c 0x1C) (l ++ l') := by
  have hw' : crcW (fed s c l).fab c ≤ 64 := (crcW_crcPut_val s.fab c _).trans_le hw
  rw [val_fed _ _ _ hw', val_fed _ _ _ hw, crcFeeds_append]
  exact crcFeeds_crcPut_val s.fab c _ _ l'

/-- Settles O56: each feed stores a value below 2^WIDTH whole and leaves the context's settings and its page as they were, so the
second feed folds its bytes on after those of the first; no command looks at its requester. -/
theorem checkValuesAreFed : Obligations.CheckValuesAreFed := by
  intro q q' c v w s hup hwrites henabled hfree hw
  have h : TakesFeeds s.fab c := ⟨hwrites, henabled, hfree⟩
  have hfed (l : List Nat) : TakesFeeds (fed s c l).fab c := takesFeeds_crcPut_val s.fab c _ h
  refine ⟨⟨_, exec_feedB q c v s hup h, ⟨rfl, crcPut_val_touches _ _ _⟩, val_fed s c _ hw, ?secondB⟩,
    ⟨_, exec_feedW q c v s hup h, ⟨rfl, crcPut_val_touches _ _ _⟩, val_fed s c _ hw, ?secondW⟩,
    ⟨_, exec_loadInit q c s hup hwrites, ⟨rfl, crcPut_val_touches _ _ _⟩, ?loaded⟩, rfl, rfl, rfl⟩
  case secondB => exact ⟨_, exec_feedB q' c w _ hup (hfed _), val_fed_fed s c _ _ hw⟩
  case secondW => exact ⟨_, exec_feedW q' c w _ hup (hfed _), val_fed_fed s c _ _ hw⟩
  case loaded => exact crcPair_crcPut_val s.fab c _ (crcPair_lt s.fab c 0x0C) hw

end Sys2Proof.Machine
end
